-- ==== Sys2Proof/Word.lean ====
section
/-! DEFINITION. The plain types the whole model is written in: bytes, words, and the sparse table that
holds everything the manual numbers (objects, channels, streams, sync objects, bytes of memory). -/
namespace Sys2Proof

/-- One byte, as it lies in device memory or travels in a frame. -/
abbrev Byte := BitVec 8

/-- The 32-bit words that some fields of the manual are. -/
abbrev Word32 := BitVec 32

/-- The 64-bit words that most fields of the manual are. -/
abbrev Word64 := BitVec 64

/-- A table of values by number, as a list of (number, value) pairs. A number that is not listed holds
the default of the place the table stands for. The canonical form (`Tab.wf`, Machine/Tab.lean) has
strictly rising numbers and lists no default. -/
abbrev Tab (α : Type) := List (Nat × α)

end Sys2Proof
end

