-- ==== Sys2Proof/Syntax.lean ====
section
/-! DEFINITION. The commands the block takes, one constructor per row of the opcode table, with the
operands each needs. Channels, ports, links and the like are numbers below a bound, so a command cannot
name one that does not exist. -/
namespace Sys2Proof

/-- One reading of a channel's monitors (R317): fine error and coarse departure from the target [MHz],
powers [0.01 dBm], carrier recovery in lock. -/
structure LockReading where
  fineMhz : Int
  coarseMhz : Int
  rxCdbm : Int
  txCdbm : Int
  carrierLock : Bool
  deriving DecidableEq, Repr

/-- What fails an engine at once (R332). -/
inductive EngineFault
  | supply | dsp
  deriving DecidableEq, Repr

/-- What a read of memory finds (R200): a correctable error; an uncorrectable one whose second read is clean,
or correctable; one uncorrectable twice. -/
inductive ReadError
  | corrected | clearedClean | clearedCorrected | uncorrectable
  deriving DecidableEq, Repr

/-- Who reads (Table 9.9, CONSUMER 1 to 5): a fetch or SEAL, a decoder, the cue at a position of the
unrolled order or the scan of a check-value unit (both CONSUMER 3), an ARQ re-send, the read of a partial write. -/
inductive MemReader
  | fetch | decoder | cue (pos : Nat) | scan (u : Fin 8) | arq | partialWrite
  deriving DecidableEq, Repr

/-- What the scrub of one line or word finds (R202). -/
inductive ScrubFinding
  | clean | corrected | uncorrectable
  deriving DecidableEq, Repr

/-- The two objects that configure the pool (R207). -/
inductive PoolRegister
  | base | buffers
  deriving DecidableEq, Repr

/-- The alarm conditions that persist (R310). A cipher lane is numbered 0 to 9 for transmit and 10 to 19 for
receive. -/
inductive AlarmCause
  | tamper | coreSupply | supply | temperature
  deriving DecidableEq, Repr

/-- One attempt of a relock sweep (R319): the lock points of the fine etalon that were noted, each at one of the 31
offsets with its coarse reading [MHz from the target], and, while the laser held the one that was kept, the largest fine
and coarse errors of the 10 ms [MHz]. -/
structure SweepAttempt where
  points : List (Fin 31 × Int)
  holdFine : Int
  holdCoarse : Int
  deriving DecidableEq, Repr

/-- The two tables of a page (R228). -/
inductive PageTarget
  | connectionMemory | lineGroups
  deriving DecidableEq, Repr

/-- One received line frame: its 125 blocks as they come, and the part of a nanosecond by which its time event follows
the command's instant [2⁻¹⁶ ns] (R219, R371). -/
structure LineFrame where
  bytes : List Byte
  frac : BitVec 16
  deriving DecidableEq, Repr

/-- A stored parcel whose read returns poison: link, stripe, position, and the line or word (R290). -/
structure StoredPoison where
  link : Nat
  ssn : Word32
  pos : Fin 4
  line : BitVec 48
  deriving DecidableEq, Repr

/-- What the units find while a line frame is taken in: the lanes that mismatch on its time message and on each parcel
verified, and the stored parcels that read poisoned when its messages ask for them (R200, R290, R308). -/
structure RxFindings where
  time : List (Fin 10)
  parcels : List (List (Fin 10))
  stored : List StoredPoison
  deriving DecidableEq, Repr

/-- A received parcel slot, and the lanes that mismatch on each parcel verified while it is taken in (R308). -/
structure SlotRx where
  bytes : List Byte
  parcels : List (List (Fin 10))
  deriving DecidableEq, Repr

/-- A stripe of a link, and which of its stored parcels read poisoned, each with its line or word (R290). -/
structure StripeRead where
  ssn : Word32
  poison : List (Fin 4 × BitVec 48)
  deriving DecidableEq, Repr

/-- What the optical engine reports of one channel in one frame period (R250, R325): receive power of the
fast detector [0.01 dBm], carrier recovery out of lock in four windows, the transmit tap [0.01 dBm], bits corrected and
codewords not corrected by the inner decoder. -/
structure OpticSample where
  rxCdbm : Int
  carrierLost : Bool
  txCdbm : Int
  fecBits : Nat
  fecBad : Nat
  deriving DecidableEq, Repr

/-- The fields of a RING_BLOCKS header (Table 15.8). -/
structure RingBlocksHeader where
  owner : Fin 4
  wc : Fin 32
  rate : BitVec 2
  first : Nat
  count : Nat
  page : BitVec 1
  members : Byte
  lfn : Word64
  deriving DecidableEq, Repr

/-- What a lane's receiver finds: no lock for 4 µs, or its pre-FEC symbol error ratio over 1 ms [10⁻⁹] (R342). -/
inductive LaneFault
  | lockLost
  | ratio (ser : Nat)
  deriving DecidableEq, Repr

/-- The pre-FEC symbol error ratio of a host lane over a second [10⁻⁹] (R401). -/
structure LaneRatio where
  lane : Fin 144
  ser : Nat
  deriving DecidableEq, Repr

/-- Where a residue check stands (R93). -/
inductive CheckPlace
  | group | combination | normalization
  deriving DecidableEq, Repr

/-- A disturbance of one residue check (R93, R94, Table 4.9): the output element whose sum is struck, the check, by its
group or its level and its number there, and by how much the window's value is off the first time and in the recompute.
In an UPDATE range the element is the parameter, and `sum` is the quantity of R166 that is formed: 0 for G, k for step
k − 1. -/
structure CellFault where
  elem : Nat
  sum : Nat
  place : CheckPlace
  level : BitVec 16
  nth : Nat
  error : Int
  again : Int
  deriving DecidableEq, Repr

/-- A part of a cue that one cell computes (R84): output tiles from `tile` on, in each of them the elements from `first`
up to `last`, row by row, and of their groups those from `lo` up to `hi`. -/
structure CellShare where
  cell : Fin 16
  tile : Nat
  tiles : Nat
  first : Nat
  last : Nat
  lo : Nat
  hi : Nat
  deriving DecidableEq, Repr

/-- The two objects that hold a check-value unit's context (R427). -/
inductive CvContext
  | register | length
  deriving DecidableEq, Repr

/-- What the servo's loop answers to one estimate (R377, R378): the offset it predicted [ps], and the rate correction it
sets once it accepts the estimate [ppb]; and the departure of the 10 MHz input from the module's oscillator [ppb], which
REFERENCE mode locks to (R369). -/
structure ServoAnswer where
  predicted : Int
  trim : Int
  tenMhz : Int
  deriving DecidableEq, Repr

/-- An edge at the 1PPS input, falling or rising, and what the servo answers to it (R369, R377; Table 16.6). -/
structure PpsInput where
  falling : Bool
  servo : ServoAnswer
  deriving DecidableEq, Repr

/-- The two reference inputs (R369). -/
inductive ReferenceInput
  | pps | tenMhz
  deriving DecidableEq, Repr

/-- What rehearsal found (Table 20.3). `items` has bit i for each of the items 0, 1, 2, 5, 8, 9 and 12 that failed; the
other items by element: hub links, HBM stacks with an uncorrectable line, tensor cells, transmit and receive cipher
lanes, engines whose link or whose DSP or converters failed, host lanes; and the lines each HBM stack corrected. -/
structure RehearsalFindings where
  items : BitVec 13
  hubs : BitVec 4
  hbmStacks : BitVec 24
  corrected : List Nat
  cells : BitVec 16
  cipherTx : BitVec 10
  cipherRx : BitVec 10
  engineLinks : BitVec 8
  engineDsps : BitVec 8
  lanes : BitVec 144
  deriving DecidableEq, Repr

/-- What the sensors read at a control tick (Table 21.12): temperatures [0.1 °C] of the die, the hubs, the HBM stacks
and the laser mounts, the coolant's inlet and outlet, each rail's voltage [mV] and current [0.1 A]; and host lanes with
their pre-FEC symbol error ratio over the second so far (R401); and while rehearsal runs, what it has found up to now
(DEDUCED, log entry 144). -/
structure Sensors where
  die : Int
  hubs : List Int
  hbm : List Int
  engines : List Int
  coolantIn : Int
  coolantOut : Int
  railMv : List Nat
  railDa : List Nat
  laneSer : List LaneRatio := []
  rehearsal : Option RehearsalFindings := none
  deriving DecidableEq, Repr

/-- What the power manager finds at a control tick beside the sensors (R35, R37, R39, R43, R45, R46): the pace, and the
pace that the replica paths give one step of the rail lower [1/4,096]; the draw that a step adds or removes; the draw
that the units' work would make with neither ballast nor throttle, how much of it the throttle can pace, and the core
die's part of it; whether a change of leakage has been detected; and how much of the change of draw since the last tick
R46 exempts, should it exempt any [mW]. -/
structure PowerReading where
  pace : BitVec 16
  paceBelow : BitVec 16
  stepMw : Nat
  workMw : Nat
  pacedMw : Nat
  coreMw : Nat
  leakage : Bool
  exemptMw : Int
  deriving DecidableEq, Repr

/-- When the cue of a power plan entry is expected to be dispatched (R45, R49, R107): in milliseconds after the outer
boundary that OUTER_BOUNDARY_HINT names, or after FORECAST_BASE_TIME; and what the core die is to draw from then on [mW]. -/
structure PlanStep where
  byHint : Bool
  ms : Int
  entry : Nat
  coreMw : Nat
  deriving DecidableEq, Repr

/-- A planned dispatch, and the measured idle draw [mW] (R45, R107). -/
structure PlannedRise where
  idleMw : Nat
  step : PlanStep
  deriving DecidableEq, Repr

/-- The planned dispatches ahead, the measured idle draw and what the core die draws now [mW] (R45, R48, R49, R107). -/
structure PlanAhead where
  idleMw : Nat
  coreMw : Nat
  steps : List PlanStep
  deriving DecidableEq, Repr

/-- A training step of Table 20.2 that has not finished by twice its instant (R439): what of it has not. -/
inductive TrainingStep
  | links (hubs : BitVec 4) (engines : BitVec 8)
  | hbm (sts : BitVec 24)
  deriving DecidableEq, Repr

/-- One scan of the data register that the instruction in force selects (R465): the levels that the boundary cells capture,
cell 0 next to TDO, and the bits that TDI shifts in, in their order. -/
structure DrScan where
  levels : BitVec 501
  tdi : List Bool
  deriving DecidableEq, Repr

/-- A load of the boundary-scan instruction register, and the data-register scans made under it (R465; DESIGN CHOICE, log
entry 145). -/
structure TapLoad where
  code : Byte
  scans : List DrScan := []
  deriving DecidableEq, Repr

/-- One sample window of an Intermission (R452): receive power of each channel [0.01 dBm] and the signal detect of each
host lane. -/
structure WakeSample where
  rxCdbm : List Int
  lanes : BitVec 144
  deriving DecidableEq, Repr

/-- A frame on a management transport (R404-R406): an Ethernet frame without its check sequence, or a bus frame from
its first flag to its last. -/
inductive JdpFrame
  | ethernet (bytes : List Byte)
  | bus (bytes : List Byte)
  deriving DecidableEq, Repr

/-- The commands of the block: one constructor per row of spec/opcode_table.json. Every command carries
the module's own elapsed time in nanoseconds at which it happens, `t`; the other operands are what the
sender writes or what the unit observes. -/
inductive Instr
  /-- PWR_GOOD rises, or rises while RESET_N is low, and starts a POWER_ON reset that re-initialises every object and runs
  power-up. (R446) -/
  | powerOnReset (t : Nat)
  /-- RESET_N is held low for 10 µs or more and starts a PIN reset. (R446) -/
  | pinReset (t : Nat) (lowNs : Nat)
  /-- A write of 0x0000_00A5 to RESET_REQUEST answers the request and then starts a SOFT reset. (R446) -/
  | softReset (t : Nat) (value : Word32)
  /-- The management controller fails to serve its watchdog for 100 ms and the module resets. (R446) -/
  | watchdogReset (t : Nat)
  /-- The always-on domain reads the fuses and draws a new BOOT_ID 1 ms after RESET_N is released. (R418) -/
  | bootIdDrawn (t : Nat)
  /-- The management controller finishes booting at 20 ms and answers JDP on both transports. (R439) -/
  | managementBootDone (t : Nat)
  /-- The core rail settles at 0.750 V and the core logic leaves reset, so link training begins. (R439) -/
  | coreOutOfReset (t : Nat)
  /-- The hub and engine links finish training and HBM training begins. (R439) -/
  | linksTrained (t : Nat)
  /-- All 24 stacks finish training and the module enters REHEARSAL. (R439) -/
  | hbmTrained (t : Nat)
  /-- A training step has not finished by twice its instant, so the element is taken as a failed rehearsal item. (R439) -/
  | trainingTimeout (t : Nat) (unfinished : TrainingStep)
  /-- Rehearsal ends; the outcome is written, failed elements leave service, and the module goes to READY or SAFE. (R440) -/
  | rehearsalDone (t : Nat) (f : RehearsalFindings)
  /-- A write of 1 to SAFE_REQUEST takes the module to SAFE, or is refused in the Intermission states. (R443) -/
  | safeRequest (t : Nat) (value : Byte)
  /-- The core die has been above 115 °C, or an HBM stack above 100 °C, for 1 ms, and the module enters SAFE. (R443) -/
  | overtemperatureSafe (t : Nat)
  /-- A write of ENTER to INTERMISSION_CONTROL starts the entry sequence, or is refused. (R449) -/
  | intermissionEnter (t : Nat)
  /-- Entry completes 14 ms after ENTER was accepted, and the module enters INTERMISSION, or starts exit at once when a wake
  is pending. (R450) -/
  | intermissionEntered (t : Nat)
  /-- A write of EXIT to INTERMISSION_CONTROL is a MGMT wake, or a wake during entry. (R449) -/
  | intermissionExit (t : Nat) (session : Fin 2)
  /-- Every WAKE_PERIOD_MS hardware samples receive taps and signal detect, and wakes the module on new activity. (R452) -/
  | wakeSampleWindow (t : Nat) (x : WakeSample)
  /-- A port's pattern detector matches all 64 symbols of the wake pattern and wakes the module. (R453) -/
  | wakePatternMatch (t : Nat) (p : Fin 16)
  /-- Exit completes 26 ms after the wake and the module returns to READY. (R450) -/
  | intermissionWoken (t : Nat)
  /-- PWR_GOOD falls; the optics darken, the host lanes idle and the module holds itself in reset. (R461) -/
  | pwrGoodFall (t : Nat)
  /-- A rail stays outside its alarm band for 2 µs while PWR_GOOD is high; the module acts as if PWR_GOOD had fallen, or
  fails the engines. (R461) -/
  | railLoss (t : Nat) (rail : Fin 14)
  /-- An instruction is loaded into the boundary-scan TAP; EXTEST-class loads act only in SAFE and silence JDP. (R465) -/
  | tapInstructionLoad (t : Nat) (load : TapLoad)
  /-- Every 1 ms the power manager reads pace and rail monitors and adjusts ballast, throttle and the voltage request to
  hold the slew limit. (R43) -/
  | controlTick (t : Nat) (r : PowerReading) (x : Sensors)
  /-- At the planned instant before a rise the power manager starts adding ballast at rate S. (R45) -/
  | prerampStart (t : Nat) (rise : PlannedRise)
  /-- At a half-second boundary, or after an activation or a hint write, the power manager replaces the draw forecast as one
  snapshot. (R48) -/
  | forecastRecompute (t : Nat) (plan : PlanAhead)
  /-- A write of CORE_RAIL_MODE selects ADAPTIVE or FIXED, or is refused. (R41) -/
  | coreRailModeWrite (t : Nat) (value : Byte)
  /-- A write of CORE_RAIL_FIXED_MV sets the FIXED voltage, or is refused as out of range. (R41) -/
  | coreRailFixedWrite (t : Nat) (value : BitVec 16)
  /-- A write of SLEW_LIMIT takes effect at the next control tick, or is refused. (R44) -/
  | slewLimitWrite (t : Nat) (value : BitVec 16)
  /-- A write of POWER_CONTROL enables or disables slew holding, ballast, throttle and pre-ramp, or is refused as
  inconsistent. (R47) -/
  | powerControlWrite (t : Nat) (value : Word32)
  /-- A write of OUTER_BOUNDARY_HINT sets the expected outer boundary, and a forecast recompute follows. (R48) -/
  | outerBoundaryHintWrite (t : Nat) (value : Word64)
  /-- A write of an object that has no row of its own is resolved and accepted or refused under its own chapter. (R410) -/
  | registerWrite (t : Nat) (session : Fin 2) (index : BitVec 16) (subindex : Byte) (offset : Word32) (data : List Byte)
  /-- SLOT_COMMAND OPEN takes the slot to LOADING with SHEET_OFFSET 0, discarding a sealed image. (R112) -/
  | openSlot (t : Nat) (slot : Fin 2)
  /-- A write of SHEET_DATA stores its bytes at SHEET_OFFSET and advances it, or is refused. (R113) -/
  | sheetDataWrite (t : Nat) (slot : Fin 2) (data : List Byte)
  /-- SLOT_COMMAND SEAL starts the checks of Table 5.7 and returns STARTED. (R114) -/
  | sealSlot (t : Nat) (slot : Fin 2)
  /-- The seal checks end; the slot goes to SEALED or stays LOADING, and the result is stored and reported. (R114) -/
  | sealDone (t : Nat) (slot : Fin 2)
  /-- SLOT_COMMAND ARM takes the slot to ARMED for ARM_EPOCH, or is refused. (R115) -/
  | armSlot (t : Nat) (slot : Fin 2)
  /-- SLOT_COMMAND DISARM returns an ARMED slot to SEALED. (R112) -/
  | disarmSlot (t : Nat) (slot : Fin 2)
  /-- SLOT_COMMAND CLEAR returns a LOADING or SEALED slot to EMPTY. (R112) -/
  | clearSlot (t : Nat) (slot : Fin 2)
  /-- SLOT_COMMAND RETIRE ends a stopped active sheet, zeroes the sync objects and discards the stream contexts. (R118) -/
  | retireSlot (t : Nat) (slot : Fin 2)
  /-- Network time passes an epoch boundary, at which sheets activate and key switches take effect. (R365) -/
  | epochBoundary (t : Nat)
  /-- A LINE stream of the previous sheet finishes draining its ARQ state, and the new sheet's context for that index loads.
  (R119) -/
  | drainedStreamLoad (t : Nat) (i : BitVec 14)
  /-- The cue engine completes a 64 KiB page read of the active sheet and checks each cue's CUE_CRC. (R130) -/
  | cuePageFetch (t : Nat) (bad : List Nat)
  /-- One cue whose CUE_CRC mismatched is fetched once more and checked again. (R111) -/
  | cueRefetch (t : Nat) (pos : Nat) (bad : Bool)
  /-- A queue dispatches its next cue once barriers have completed and its waits are met, taking the tokens indivisibly.
  (R127) -/
  | cueDispatch (t : Nat) (q : Fin 532) (shares : List CellShare) (faults : List CellFault)
  /-- A unit reports a cue's end to the completion arbiter, which issues the completion token and writes the record. (R129) -/
  | cueEnd (t : Nat) (pos : Nat)
  /-- A delivered parcel's remote token is applied, held for the armed sheet, or refused. (R124) -/
  | remoteTokenArrival (t : Nat) (i : BitVec 14) (obj : BitVec 13) (n : Byte) (jobTag : BitVec 16) (revision : BitVec 16)
  /-- An ABORT_REQUEST of KIND CUE is captured by the arbiter and answered ABORTED, ALREADY_COMPLETE, ALREADY_ENDED or
  otherwise. (R133) -/
  | cueAbort (t : Nat) (value : BitVec 128)
  /-- An ABORT_REQUEST of KIND SHEET ends every dispatched and marked cue ABORTED and stops the engine. (R135) -/
  | sheetAbort (t : Nat) (value : BitVec 128)
  /-- A write of FLAGS_ACCUMULATED clears the flag bits written as 1. (R132) -/
  | flagsAccumulatedClear (t : Nat) (value : Byte)
  /-- A faulted cue share starts again on the lowest free cell in service once one is free. (R95) -/
  | cueRetryDispatch (t : Nat) (pos : Nat) (faults : List CellFault)
  /-- A write of RESIDUE_INJECT arms an injection into a cell's residue predictor, or is refused. (R102) -/
  | residueInjectWrite (t : Nat) (value : Word32) (falls : Option CellFault)
  /-- The next counted-tensor header on a member stream, or the self header, is examined and accepted, left, discarded as
  stale, or refused. (R147) -/
  | memberHeaderArrival (t : Nat) (i : BitVec 14)
  /-- Once every member reaching into a tile has delivered it, the tile is reduced, written and sent under OUT_RESULT.
  (R149) -/
  | collectiveTileReduce (t : Nat) (g : Fin 512) (b : Nat) (cell : Fin 16) (faults : List CellFault)
  /-- A write of PROGRAM_RECORD replaces an update program whole, or is refused. (R157) -/
  | programRecordWrite (t : Nat) (p : Fin 16) (value : BitVec 1536)
  /-- A piece of an UPDATE range passes its checks and its state, outputs and journal blocks are written or held. (R162) -/
  | updatePiece (t : Nat) (pos : Nat) (tile : Nat) (cell : Fin 16) (faults : List CellFault)
  /-- A write of SLOT_TABLE replaces a decode table and generation, or is refused. (R187) -/
  | slotTableWrite (t : Nat) (k : Fin 4) (value : BitVec 128)
  /-- A write of 1 sets a slot's in-flight count to 0, or is refused. (R189) -/
  | slotInFlightClear (t : Nat) (k : Fin 4) (value : Byte)
  /-- The decoder checks a block for consistency before releasing its values. (R185) -/
  | blockDecode (t : Nat) (pos : Nat) (seen : Option (List Byte))
  /-- The reread of a damaged block completes; decoding continues, or a re-request follows. (R186) -/
  | damageRefetch (t : Nat) (pos : Nat) (seen : Option (List Byte))
  /-- The ARQ re-request for a damaged block ends; the block is read again or the cue ends STREAM_FAILED. (R186) -/
  | damageRerequestDone (t : Nat) (pos : Nat)
  /-- A read finds an error; it is corrected and written back, or the line is read again. (R200) -/
  | memoryReadError (t : Nat) (addr : BitVec 48) (error : ReadError) (reader : MemReader)
  /-- The hubs scrub an HBM line on their schedule, correcting or poisoning it. (R202) -/
  | scrubLine (t : Nat) (addr : BitVec 48) (found : ScrubFinding) (last : Bool)
  /-- The staging store is scrubbed once every second. (R202) -/
  | stagingScrub (t : Nat) (found : List (BitVec 48 × ScrubFinding))
  /-- A die-to-die flit fails its link CRC and is replayed. (R198) -/
  | flitReplay (t : Nat) (h : Fin 4)
  /-- A hub link loses training; the hub holds its accesses and retrains, or declares failure on a third loss. (R198) -/
  | hubLinkTrainingLoss (t : Nat) (h : Fin 4)
  /-- The hub retrains its link within 20 µs and resumes the accesses held. (R198) -/
  | hubLinkRetrained (t : Nat) (h : Fin 4)
  /-- An owner's ALLOCATE gets the lowest free buffer or is deferred. (R210) -/
  | allocate (t : Nat) (o : Fin 64)
  /-- A deferred ALLOCATE is retried after the pool manager reports a completed FREE. (R211) -/
  | allocateRetry (t : Nat) (o : Fin 64)
  /-- The allocating owner shares a buffer with claimants and names the last owner. (R213) -/
  | share (t : Nat) (o : Fin 64) (b : BitVec 23) (claimants : BitVec 64) (last : Fin 64)
  /-- A claimant other than the last owner ends its claim, freeing a free-pending buffer. (R214) -/
  | release (t : Nat) (o : Fin 64) (b : BitVec 23)
  /-- The holder or last owner ends its claim and frees the buffer, or leaves it free-pending. (R214) -/
  | freeBuffer (t : Nat) (o : Fin 64) (b : BitVec 23)
  /-- A write of POOL_BASE or POOL_BUFFERS configures the pool, or is refused. (R207) -/
  | poolConfigWrite (t : Nat) (target : PoolRegister) (value : Word64)
  /-- A write of OWNER_LIMITS sets an owner's MIN and CAP, or is refused. (R212) -/
  | ownerLimitsWrite (t : Nat) (o : Fin 64) (value : Word64)
  /-- A write of PREFETCH_DESCRIPTOR sets a prefetcher descriptor, or is refused. (R204) -/
  | prefetchDescriptorWrite (t : Nat) (d : Fin 64) (value : BitVec 128)
  /-- Every 640 ns each channel sends one line frame, with its overhead and its payload under the governing page. (R218) -/
  | lineFrameTx (t : Nat) (c : Fin 32) (mismatch : List (Fin 10))
  /-- A received frame is aligned and checked, its overhead processed and its payload delivered under the governing page.
  (R222) -/
  | lineFrameRx (t : Nat) (c : Fin 32) (f : LineFrame) (found : RxFindings)
  /-- TXFAIL or a persisting RX_REQUEST bit makes the transmitter substitute an understudy or remove the channel from the
  member set. (R235) -/
  | substitutionDecision (t : Nat) (c : Fin 32)
  /-- A carried or removed channel has been clear for RESTORE_HOLDOFF_MS, and its return is announced. (R237) -/
  | restoreHoldoffExpiry (t : Nat) (c : Fin 32)
  /-- A write of CM_PAGE or LG_TABLE changes the inactive page, or is refused. (R228) -/
  | pageWrite (t : Nat) (target : PageTarget) (j : Fin 4) (value : Nat)
  /-- A request with CANCEL 0 schedules a page switch at frame L, or is refused. (R229) -/
  | pageSwitchRequest (t : Nat) (epoch : Word64)
  /-- A request with CANCEL 1 cancels a pending switch, or is refused TOO_LATE. (R232) -/
  | pageSwitchCancel (t : Nat) (epoch : Word64)
  /-- At frame L transmission changes page and the state becomes DRAINING. (R230) -/
  | pageSwitched (t : Nat)
  /-- LFN_NOW reaches L + 4,096, so the switch state returns to IDLE and the old page becomes writable. (R230) -/
  | pageDrainEnd (t : Nat)
  /-- Each frame period the framer samples every channel's raw conditions and declares or clears defects by persistence.
  (R250) -/
  | defectSample (t : Nat) (samples : List OpticSample)
  /-- No link toward a site has been able to close stripes for the holdoff, so the far peer is declared lost. (R258) -/
  | peerLost (t : Nat) (site : Fin 8)
  /-- A link toward a lost site has been able to close stripes for 1,000 ms, so PEER_LOST clears. (R258) -/
  | peerRestored (t : Nat) (site : Fin 8)
  /-- At each second boundary the framer latches one performance record per channel. (R262) -/
  | pmLatch (t : Nat)
  /-- The route coder completes a stripe from ready parcels, codes parity and stores and sends its positions. (R272) -/
  | stripeComplete (t : Nat) (l : Nat) (slotsDue : Bool)
  /-- A received line parcel slot is delineated and the parcel is stored, verified and delivered, or the position erased; a
  stripe may close or be rebuilt. (R280) -/
  | lineParcelRx (t : Nat) (lg : Fin 64) (slot : SlotRx)
  /-- A stripe is not closed T_HOLE after its arrival or its latest re-send, so the receiver sends a NAK. (R281) -/
  | tHoleExpiry (t : Nat) (l : Fin 16) (ssn : Word32)
  /-- A received ACK marks stripes closed or failed, and their stored parcels are retained and then freed. (R284) -/
  | ack (t : Nat) (l : Nat) (cum : Word32) (first : Word32) (last : Word32)
  /-- A received NAK newer than any acted on drives an attempt that re-sends the named positions, or an ABANDON. (R285) -/
  | nak (t : Nat) (l : Nat) (ssn : Word32) (needed : BitVec 4) (num : Byte) (poison : List (Fin 4 × BitVec 48))
  /-- A received ABANDON fails every stream with a needed data position in the stripe. (R286) -/
  | abandon (t : Nat) (l : Fin 16) (ssn : Word32) (reason : Byte) (streams : List (BitVec 16))
  /-- A received REREQ is answered with the stored parcel or with REPLY. (R287) -/
  | rereq (t : Nat) (l : Nat) (i : BitVec 16) (psn : Word32) (poison : Option (BitVec 48))
  /-- A received CREDIT replaces a LINE stream's limit when it is later. (R278) -/
  | credit (t : Nat) (i : BitVec 14) (limit : Word32)
  /-- A received DRAINED for an epoch starts the key overlap window for that link. (R288) -/
  | drained (t : Nat) (l : Fin 16) (epoch : BitVec 16)
  /-- A received REPLY reports a re-request failed to the decoder. (R287) -/
  | reply (t : Nat) (l : Fin 16) (i : BitVec 16) (psn : Word32)
  /-- T_RETRY passes with no ACK or NAK for a stripe, so the sender makes a timer-driven attempt or abandons. (R285) -/
  | tRetryExpiry (t : Nat) (l : Nat) (stripe : StripeRead)
  /-- A REREQ brings no answer within T_RETRY, so it is repeated or reported failed. (R287) -/
  | rereqRetryExpiry (t : Nat) (l : Fin 16) (num : Byte)
  /-- T_FAIL passes with a stripe neither closed nor abandoned, so the receiver fails the link. (R286) -/
  | tFailExpiry (t : Nat) (l : Fin 16) (ssn : Word32)
  /-- RETAIN_US passes after an ACK, so the stripe's stored parcels are freed. (R287) -/
  | retainExpiry (t : Nat) (l : Nat)
  /-- A marked route stays within both figures for 1 s, so the mark clears. (R293) -/
  | excessDelayClear (t : Nat) (l : Fin 16) (n : Fin 4)
  /-- The line transmit channel takes a data parcel, assigns an IV_COUNT and encrypts and tags it. (R301) -/
  | parcelEncrypt (t : Nat) (i : BitVec 14) (mismatch : List (Fin 10))
  /-- A received data parcel is verified and decrypted under its KEY_EPOCH, or fails. (R304) -/
  | parcelDecrypt (t : Nat) (l : Fin 16) (n : Fin 4) (body : List Byte) (mismatch : List (Fin 10))
  /-- An urgent message suspends a normal message at a block boundary, runs, and the context is restored. (R311) -/
  | urgentSuspension (t : Nat) (lane : Fin 20) (mismatch : Bool)
  /-- A KLK blob is unwrapped under the device root key and replaces the KLK, or is refused. (R299) -/
  | klkLoad (t : Nat) (blob : BitVec 512) (mismatch : List (Fin 20))
  /-- A SAK blob is unwrapped under the KLK, or is refused. (R299) -/
  | sakLoad (t : Nat) (blob : BitVec 512) (mismatch : List (Fin 20))
  /-- A pair-key blob is unwrapped and becomes the transmit or next epoch, or is refused. (R299) -/
  | pairKeyLoad (t : Nat) (f : Fin 8) (blob : BitVec 512) (mismatch : List (Fin 20))
  /-- A switch to the next epoch is scheduled at an epoch boundary or at once, or is refused. (R303) -/
  | pairSwitchRequest (t : Nat) (f : Fin 8) (value : BitVec 128)
  /-- A write of KEY_ERASE erases a draining or next epoch at once, or is refused. (R305) -/
  | keyErase (t : Nat) (f : Fin 8) (value : BitVec 16)
  /-- A draining epoch's overlap window ends, so its key is erased. (R305) -/
  | keyErased (t : Nat) (f : Fin 8)
  /-- A tamper, supply or temperature alarm condition arises. (R310) -/
  | alarm (t : Nat) (cause : AlarmCause)
  /-- Every 64 µs the fine loop reads the etalon and coarse monitor and detects loss of lock or a wrong-order lock. (R317) -/
  | lockReading (t : Nat) (c : Fin 32) (r : LockReading)
  /-- A channel's relock sweep ends locked or failed. (R319) -/
  | relockSweepDone (t : Nat) (c : Fin 32) (attempts : List SweepAttempt)
  /-- A locked channel has held lock for RELOCK_HOLD_MS and returns to IN_SERVICE. (R320) -/
  | relockHoldExpiry (t : Nat) (c : Fin 32)
  /-- A write of RELOCK_REQUEST restarts the sweep of a LASER_FAILED channel, or is refused. (R320) -/
  | relockRequest (t : Nat) (c : Fin 32) (value : Byte)
  /-- Every 4 ms the receive monitor detects and decodes the strongest pilot tone. (R322) -/
  | pilotDetection (t : Nat) (c : Fin 32) (tone : Option (Fin 32)) (word : Option (BitVec 24))
  /-- A channel due for calibration goes to WAIT_SUBST, or an idle understudy to CALIBRATING. (R327) -/
  | calibrationStart (t : Nat) (e : Fin 8)
  /-- Both substitutions are not in effect within CAL_WAIT_MS, so the calibration is deferred. (R327) -/
  | calWaitExpiry (t : Nat) (c : Fin 32)
  /-- Calibration ends with a sweep and hold, and the channel returns to service. (R328) -/
  | calibrationEnd (t : Nat) (c : Fin 32) (attempts : List SweepAttempt)
  /-- A write of CAL_REQUEST names the channel its engine calibrates next. (R328) -/
  | calRequest (t : Nat) (value : Byte)
  /-- A write of CHANNEL_CONFIG with ENABLE 1 brings a channel into service, or is refused. (R331) -/
  | channelEnable (t : Nat) (c : Fin 32) (config : Word32)
  /-- A write with ENABLE 0 and FORCE 0 disables a channel gracefully through WAIT_SUBST. (R330) -/
  | channelDisable (t : Nat) (c : Fin 32) (config : Word32)
  /-- A write with ENABLE 0 and FORCE 1 disables and darkens a channel within 2 µs. (R329) -/
  | channelForceDisable (t : Nat) (c : Fin 32) (config : Word32)
  /-- A channel retuned to a new rate at activation is in lock and returns to IN_SERVICE. (R324) -/
  | rateChangeLocked (t : Nat) (c : Fin 32)
  /-- An engine fails; all four of its channels go dark in ENGINE_FAILED. (R332) -/
  | engineFailed (t : Nat) (e : Fin 8) (cause : EngineFault)
  /-- A write of MONITOR_SELECT starts one monitor integration, or is refused. (R334) -/
  | monitorSelect (t : Nat) (value : BitVec 16)
  /-- A monitor integration completes and DONE is set. (R334) -/
  | monitorDone (t : Nat) (code : BitVec 16)
  /-- A port's PCS has been aligned without faults for 10 µs, so it is UP. (R340) -/
  | portUp (t : Nat) (p : Fin 16)
  /-- A port loses alignment or sees a fault, so it is DOWN and its retry timers freeze. (R340) -/
  | portDown (t : Nat) (p : Fin 16) (localFault : Bool) (remoteFault : Bool)
  /-- A working lane loses lock or degrades, and the receiver requests a bridge on the understudy lane. (R342) -/
  | laneFailed (t : Nat) (l : Fin 144) (cause : LaneFault)
  /-- A lane message on the understudy lane is decoded; READY, bridge requests and rolls follow from it. (R341) -/
  | laneMessageRx (t : Nat) (p : Fin 16) (state : BitVec 4) (lane : BitVec 3)
  /-- The receiver substitutes the bridged copy for the failed lane and announces ROLLED. (R342) -/
  | laneRolled (t : Nat) (p : Fin 16)
  /-- An accepted host parcel is examined and delivered, held, discarded or answered, and its feedback applied. (R348) -/
  | hostParcelRx (t : Nat) (p : Fin 16) (frame : List Byte)
  /-- A received frame not addressed to the parcel transport is discarded and counted. (R339) -/
  | foreignFrame (t : Nat) (p : Fin 16) (frame : List Byte)
  /-- Due credit, ACK or GAP feedback is sent in a DATA or CONTROL parcel. (R350) -/
  | feedbackSend (t : Nat) (p : Fin 16)
  /-- The expected PSN is still missing HOST_RETRY_US after the last GAP, so a GAP is sent again. (R350) -/
  | gapResendExpiry (t : Nat) (i : BitVec 14)
  /-- HOST_RETRY_US of UP time passes without an ACK advance, so the sender makes a go-back attempt or fails the stream.
  (R351) -/
  | hostRetryExpiry (t : Nat) (i : BitVec 14)
  /-- A stream's port has been DOWN for PORT_FAILOVER_MS, so the stream moves to ALT_PORT. (R346) -/
  | portFailover (t : Nat) (i : BitVec 14)
  /-- A port chooses and sends its next frame by priority, round-robin, stream credit and shaper credit. (R356) -/
  | hostFrameSend (t : Nat) (p : Fin 16)
  /-- A write of SHAPER_PROFILE sets a shaper profile, or is refused. (R358) -/
  | shaperProfileWrite (t : Nat) (k : Fin 64) (value : Word64)
  /-- A write of METER_PROFILE sets a meter profile, or is refused. (R358) -/
  | meterProfileWrite (t : Nat) (k : Fin 64) (value : BitVec 128)
  /-- A write of PORT_CONFIG sets a port's mode and understudy use, or is refused. (R363) -/
  | portConfigWrite (t : Nat) (p : Fin 16) (value : Word32)
  /-- A write of RING_CONFIG enables the buddy ring, or is refused. (R359) -/
  | ringConfigWrite (t : Nat) (value : Byte)
  /-- Every 1 ms each module sends a ring hello on both ring ports. (R359) -/
  | ringHelloTx (t : Nat)
  /-- A received ring hello brings the ring link into service after three consistent hellos. (R359) -/
  | ringHelloRx (t : Nat) (p : Fin 2) (sizePos : Byte)
  /-- 3 ms pass without a valid hello, or the port goes DOWN, so the ring link leaves service. (R359) -/
  | ringLinkDown (t : Nat) (p : Fin 2)
  /-- A received DIVERT_REQUEST is granted with an understudy or refused. (R361) -/
  | divertRequest (t : Nat) (p : Fin 2) (owner : Fin 4) (wc : Fin 32) (rate : BitVec 2) (farSite : Fin 8)
  /-- A received DIVERT_GRANT makes the owner announce the channel's return and send its blocks over the ring. (R361) -/
  | divertGrant (t : Nat) (p : Fin 2) (wc : Fin 32) (under : Fin 32)
  /-- A received DIVERT_REFUSE sends the request on to the other neighbour. (R361) -/
  | divertRefuse (t : Nat) (p : Fin 2) (wc : Fin 32)
  /-- A received DIVERT_NOTICE makes the far owner request a diversion for its own transmit. (R361) -/
  | divertNotice (t : Nat) (p : Fin 2) (wc : Fin 32)
  /-- A received DIVERT_STOP ends a diversion, and the channel leaves the member set. (R362) -/
  | divertStop (t : Nat) (p : Fin 2) (owner : Fin 4) (wc : Fin 32)
  /-- A ring block parcel is queued for the carrying understudy or read as the diverted channel. (R360) -/
  | ringBlocksRx (t : Nat) (p : Fin 2) (h : RingBlocksHeader) (payload : List Byte)
  /-- A write of TIME_MODE selects the time source and restarts the servo, or is refused. (R366) -/
  | timeModeWrite (t : Nat) (value : Byte)
  /-- A write of 1 to SERVO_RESTART discards the servo history and enters FREE, or is refused. (R376) -/
  | servoRestart (t : Nat) (value : Byte)
  /-- A 1PPS input edge gives an offset estimate in REFERENCE mode. (R369) -/
  | ppsEdge (t : Nat) (servo : PpsInput)
  /-- Every 1 ms the time unit forms route and site estimates and feeds the servo or refuses a jump. (R373) -/
  | timeEstimate (t : Nat) (servo : ServoAnswer)
  /-- ACQUIRING ends after 1 s and the time unit applies its single step. (R377) -/
  | timeStepped (t : Nat)
  /-- The offset has stayed within ±20 ns for 10 s, so the state becomes LOCKED. (R367) -/
  | timeLocked (t : Nat)
  /-- No usable estimate for 100 ms, or jumps refused for JUMP_HOLDOVER_S, so the unit enters HOLDOVER. (R367) -/
  | holdoverEntry (t : Nat)
  /-- A route estimate has differed from its site estimate by more than 50 ns for 10 s, so the flag is raised and reported.
  (R374) -/
  | routeTimeDisagree (t : Nat) (site : Fin 8) (n : Fin 4)
  /-- TOUCH_HOLDOFF passes with PEER_LOST declared, so the site leaves the touch set. (R384) -/
  | touchHoldoffExpiry (t : Nat) (site : Fin 8)
  /-- A write of STATE_STEP_SET sets STATE_STEP and clears the APPLIED map, or is refused. (R391) -/
  | stateStepSet (t : Nat) (value : Word64)
  /-- Every whole second each health score decays. (R400) -/
  | healthDecayTick (t : Nat)
  /-- A complete JDP request is checked, handled by its HSN, executed and answered. (R415) -/
  | jdpRequest (t : Nat) (frame : JdpFrame)
  /-- A read-only SYNC request is executed whatever its HSN, without changing the session. (R417) -/
  | syncRequest (t : Nat) (frame : JdpFrame)
  /-- A new management MAC, IPv6 address or UDP port takes effect after the response that wrote it has been sent. (R421) -/
  | mgmtAddressChange (t : Nat)
  /-- The management port answers an IPv6 neighbour solicitation or an ICMPv6 echo request. (R405) -/
  | neighbourSolicitation (t : Nat) (frame : List Byte)
  /-- A write of CV_CONFIG sets a unit's CRC configuration, or is refused. (R428) -/
  | cvConfigWrite (t : Nat) (u : Fin 8) (value : BitVec 256)
  /-- A write of CV_RUNNING or CV_RUNNING_LENGTH restores part of a unit's context, or is refused. (R427) -/
  | cvRunningWrite (t : Nat) (u : Fin 8) (target : CvContext) (value : Word64)
  /-- SCAN_COMMAND START loads INIT and starts a memory scan, or is refused. (R433) -/
  | scanStart (t : Nat) (u : Fin 8)
  /-- SCAN_COMMAND START_CONTINUE scans on from the running register, or is refused. (R433) -/
  | scanStartContinue (t : Nat) (u : Fin 8)
  /-- SCAN_COMMAND STOP halts a scan at the next line boundary and saves its context. (R434) -/
  | scanStop (t : Nat) (u : Fin 8) (lines : Nat)
  /-- The scan processes its last byte and produces a final record and an event. (R433) -/
  | scanDone (t : Nat) (u : Fin 8)
  /-- The release of RESET_N samples the straps and starts the power-up sequence of Table 20.2. (R460) -/
  | resetNReleased (t : Nat) (straps : BitVec 3)
  /-- An optical engine's link to the core die loses training, and the loss is counted toward the three losses within 1 s
  that fail the engine. (R332) -/
  | engineLinkTrainingLoss (t : Nat) (e : Fin 8)
  /-- A tamper, supply or temperature alarm condition stops persisting; its ALARM_STATUS bit clears and key loads are no
  longer refused with CURTAIN_ACTIVE. (R310) -/
  | alarmConditionEnd (t : Nat) (cause : AlarmCause)
  /-- The 10 MHz or 1PPS reference input is lost or returns, which changes TIME_STATUS and what the REFERENCE-mode servo
  follows. (R369) -/
  | referenceInputAbsent (t : Nat) (input : ReferenceInput) (absent : Bool)
  /-- The management port's 1000BASE-X or SGMII link comes up or goes down, which changes MGMT_LINK_STATE. (R405) -/
  | mgmtLinkStateChange (t : Nat) (up : Bool)
  deriving DecidableEq, Repr

end Sys2Proof
end

