-- ==== Sys2Proof/Decode.lean ====
section
/-! DEFINITION. The opcode table gives no row a pattern of bits (98_reader.md: rows with fixed bits 0, rows
with fields 0), so no word spells a command. -/
namespace Sys2Proof

/-- The command that a word spells by the table's bits: none, because no row of the table has any. -/
def decodeTableWord (_nbits _w : Nat) : Option Instr := none

end Sys2Proof
end

