-- ==== Sys2Proof/Config.lean ====
section
/-! DEFINITION. What one module has from the factory, and the values the manual leaves open. None of
these has a body: a statement about the model holds whatever they are. -/
namespace Sys2Proof

/-- A free value: what the manual calls undefined or does not state. `State.free` counts them, so every
use of the counter gets a value of its own. DESIGN CHOICE, log entry 2. -/
opaque Config.freeValue : Nat → Nat

/-- SERIAL_NUMBER, written at the factory (Table 18.9), byte 0 lowest. DESIGN CHOICE, log entry 4. -/
opaque Config.serialNumber : BitVec 128

/-- The management port's MAC address, derived from the serial number (Table 18.9). DESIGN CHOICE, log entry 4. -/
opaque Config.mgmtMac : BitVec 48

/-- The serial-derived MAC address of each host port (Table 15.11). DESIGN CHOICE, log entry 4. -/
opaque Config.portMac : Nat → BitVec 48

/-- The factory path delay from the reference point to the transmit pigtail of each channel [ps] (R370). -/
opaque Config.txPathPs : Nat → BitVec 32

/-- The factory path delay from the receive pigtail to the time stamper of each channel [ps] (R370). -/
opaque Config.rxPathPs : Nat → BitVec 32

/-- The device root key, 256 bits in fuses; no command reads it (R296). DESIGN CHOICE, log entry 4. -/
opaque Config.rootKey : BitVec 256

/-- Whether a RESET_N pulse of 1 to 10 µs resets the module: the manual allows either (R446, Table 20.5).
Applied to the free-value counter. DESIGN CHOICE, log entry 2. -/
opaque Config.pinPulseResets : Nat → Bool

end Sys2Proof
end

