-- ==== Sys2Proof/Machine/Reg.lean ====
section
/-! DEFINITION. The objects of the dictionary by number (22_dictionary_index.md, R476-R478): the
number of an object is its index times 256 plus its subindex. Each name is the manual's own name of the
object; the citation gives the table that defines it. -/
namespace Sys2Proof

/-- CORE_RAIL_MODE 0x8100.01, Table 2.6 (R49). -/
abbrev Reg.coreRailMode : Nat := 0x810001

/-- CORE_RAIL_FIXED_MV 0x8100.02, Table 2.6 (R49). -/
abbrev Reg.coreRailFixedMv : Nat := 0x810002

/-- CORE_RAIL_SETPOINT_MV 0x8100.03, Table 2.6 (R49). -/
abbrev Reg.coreRailSetpointMv : Nat := 0x810003

/-- PACE_MEASURED 0x8100.04, Table 2.6 (R49). -/
abbrev Reg.paceMeasured : Nat := 0x810004

/-- PACE_DEMAND 0x8100.05, Table 2.6 (R49). -/
abbrev Reg.paceDemand : Nat := 0x810005

/-- PACE_FLOOR_EVENTS 0x8100.06, Table 2.6 (R49). -/
abbrev Reg.paceFloorEvents : Nat := 0x810006

/-- SLEW_LIMIT 0x8200.01, Table 2.6 (R49). -/
abbrev Reg.slewLimit : Nat := 0x820001

/-- POWER_CONTROL 0x8200.02, Table 2.6 (R49). -/
abbrev Reg.powerControl : Nat := 0x820002

/-- DRAW_NOW_DW 0x8200.03, Table 2.6 (R49). -/
abbrev Reg.drawNowDw : Nat := 0x820003

/-- BALLAST_NOW_DW 0x8200.04, Table 2.6 (R49). -/
abbrev Reg.ballastNowDw : Nat := 0x820004

/-- THROTTLE_TIME_NS 0x8200.05, Table 2.6 (R49). -/
abbrev Reg.throttleTimeNs : Nat := 0x820005

/-- BALLAST_ENERGY_J 0x8200.06, Table 2.6 (R49). -/
abbrev Reg.ballastEnergyJ : Nat := 0x820006

/-- SLEW_NOT_HELD_COUNT 0x8200.07, Table 2.6 (R49). -/
abbrev Reg.slewNotHeldCount : Nat := 0x820007

/-- FORECAST_BASE_TIME 0x8300.01, Table 2.6 (R49). -/
abbrev Reg.forecastBaseTime : Nat := 0x830001

/-- DRAW_FORECAST 0x8300.02, Table 2.6 (R49); `j` counts from 0, subindex 02 + j. -/
abbrev Reg.drawForecast (j : Nat) : Nat := 0x830002 + j

/-- OUTER_BOUNDARY_HINT 0x8400.01, Table 2.6 (R49). -/
abbrev Reg.outerBoundaryHint : Nat := 0x840001

/-- TC_IN_SERVICE 0x5600.01, Table 4.8 (R101). -/
abbrev Reg.tcInService : Nat := 0x560001

/-- RESIDUE_MISMATCHES 0x5600.02, Table 4.8 (R101). -/
abbrev Reg.residueMismatches : Nat := 0x560002

/-- TILE_FAULTS 0x5600.03, Table 4.8 (R101). -/
abbrev Reg.tileFaults : Nat := 0x560003

/-- CUE_RETRIES 0x5600.04, Table 4.8 (R101). -/
abbrev Reg.cueRetries : Nat := 0x560004

/-- LAST_TILE_FAULT 0x5600.05, Table 4.8 (R101). -/
abbrev Reg.lastTileFault : Nat := 0x560005

/-- RESIDUE_INJECT 0x5600.06, Table 4.8 (R101). -/
abbrev Reg.residueInject : Nat := 0x560006

/-- SPECIAL_TILES 0x5600.07, Table 4.8 (R101). -/
abbrev Reg.specialTiles : Nat := 0x560007

/-- WINDOW_LOSS_TILES 0x5600.08, Table 4.8 (R101). -/
abbrev Reg.windowLossTiles : Nat := 0x560008

/-- CUE_ENGINE_STATE 0x5000.01, Table 5.15 (R135). -/
abbrev Reg.cueEngineState : Nat := 0x500001

/-- ACTIVE_SLOT 0x5000.02, Table 5.15 (R135). -/
abbrev Reg.activeSlot : Nat := 0x500002

/-- ACTIVE_JOB_ID 0x5000.03, Table 5.15 (R135). -/
abbrev Reg.activeJobId : Nat := 0x500003

/-- ACTIVE_REVISION 0x5000.04, Table 5.15 (R135). -/
abbrev Reg.activeRevision : Nat := 0x500004

/-- OLDEST_OPEN_ITERATION 0x5000.05, Table 5.15 (R135). -/
abbrev Reg.oldestOpenIteration : Nat := 0x500005

/-- OLDEST_OPEN_CUE 0x5000.06, Table 5.15 (R135). -/
abbrev Reg.oldestOpenCue : Nat := 0x500006

/-- FLAGS_ACCUMULATED 0x5000.07, Table 5.15 (R135). -/
abbrev Reg.flagsAccumulated : Nat := 0x500007

/-- CUES_COMPLETED 0x5000.08, Table 5.15 (R135). -/
abbrev Reg.cuesCompleted : Nat := 0x500008

/-- CUES_ABORTED 0x5000.09, Table 5.15 (R135). -/
abbrev Reg.cuesAborted : Nat := 0x500009

/-- CUES_FAILED 0x5000.0A, Table 5.15 (R135). -/
abbrev Reg.cuesFailed : Nat := 0x50000A

/-- CUE_CRC_MISMATCHES 0x5000.0B, Table 5.15 (R135). -/
abbrev Reg.cueCrcMismatches : Nat := 0x50000B

/-- TOKENS_REFUSED 0x5000.0C, Table 5.15 (R135). -/
abbrev Reg.tokensRefused : Nat := 0x50000C

/-- ACTIVATION_EPOCH 0x5000.0D, Table 5.15 (R135). -/
abbrev Reg.activationEpoch : Nat := 0x50000D

/-- COMPLETION_WRITE_SEQ 0x5010.01, Table 5.15 (R135). -/
abbrev Reg.completionWriteSeq : Nat := 0x501001

/-- COMPLETION_SELECT 0x5010.02, Table 5.15 (R135). -/
abbrev Reg.completionSelect : Nat := 0x501002

/-- COMPLETION_RECORD 0x5010.03, Table 5.15 (R135). -/
abbrev Reg.completionRecord : Nat := 0x501003

/-- SLOT_STATE 0x510n.01, Table 5.15 (R135); `k` counts the family's indices from 0. -/
abbrev Reg.slotState (k : Nat) : Nat := 0x510001 + 0x100 * k

/-- SLOT_COMMAND 0x510n.02, Table 5.15 (R135); `k` counts the family's indices from 0. -/
abbrev Reg.slotCommand (k : Nat) : Nat := 0x510002 + 0x100 * k

/-- SHEET_OFFSET 0x510n.03, Table 5.15 (R135); `k` counts the family's indices from 0. -/
abbrev Reg.sheetOffset (k : Nat) : Nat := 0x510003 + 0x100 * k

/-- SHEET_DATA 0x510n.04, Table 5.15 (R135); `k` counts the family's indices from 0. -/
abbrev Reg.sheetData (k : Nat) : Nat := 0x510004 + 0x100 * k

/-- SHEET_LENGTH 0x510n.05, Table 5.15 (R135); `k` counts the family's indices from 0. -/
abbrev Reg.sheetLength (k : Nat) : Nat := 0x510005 + 0x100 * k

/-- SHEET_CRC 0x510n.06, Table 5.15 (R135); `k` counts the family's indices from 0. -/
abbrev Reg.sheetCrc (k : Nat) : Nat := 0x510006 + 0x100 * k

/-- ARM_EPOCH 0x510n.07, Table 5.15 (R135); `k` counts the family's indices from 0. -/
abbrev Reg.armEpoch (k : Nat) : Nat := 0x510007 + 0x100 * k

/-- SEAL_RESULT 0x510n.08, Table 5.15 (R135); `k` counts the family's indices from 0. -/
abbrev Reg.sealResult (k : Nat) : Nat := 0x510008 + 0x100 * k

/-- SEAL_DETAIL 0x510n.09, Table 5.15 (R135); `k` counts the family's indices from 0. -/
abbrev Reg.sealDetail (k : Nat) : Nat := 0x510009 + 0x100 * k

/-- SHEET_JOB_ID 0x510n.0A, Table 5.15 (R135); `k` counts the family's indices from 0. -/
abbrev Reg.sheetJobId (k : Nat) : Nat := 0x51000A + 0x100 * k

/-- SHEET_REVISION 0x510n.0B, Table 5.15 (R135); `k` counts the family's indices from 0. -/
abbrev Reg.sheetRevision (k : Nat) : Nat := 0x51000B + 0x100 * k

/-- SYNC_SELECT 0x5200.01, Table 5.15 (R135). -/
abbrev Reg.syncSelect : Nat := 0x520001

/-- SYNC_COUNT 0x5200.02, Table 5.15 (R135). -/
abbrev Reg.syncCount : Nat := 0x520002

/-- SYNC_OVERFLOWS 0x5200.03, Table 5.15 (R135). -/
abbrev Reg.syncOverflows : Nat := 0x520003

/-- STREAM_SELECT 0x5300.01, Table 5.15 (R135). -/
abbrev Reg.streamSelect : Nat := 0x530001

/-- STREAM_CREDIT 0x5300.02, Table 5.15 (R135). -/
abbrev Reg.streamCredit : Nat := 0x530002

/-- STREAM_KIND 0x5300.03, Table 5.15 (R135). -/
abbrev Reg.streamKind : Nat := 0x530003

/-- STREAM_PARCELS_OUT 0x5300.04, Table 5.15 (R135). -/
abbrev Reg.streamParcelsOut : Nat := 0x530004

/-- STREAM_PARCELS_IN 0x5300.05, Table 5.15 (R135). -/
abbrev Reg.streamParcelsIn : Nat := 0x530005

/-- STREAM_TOKENS_OUT 0x5300.06, Table 5.15 (R135). -/
abbrev Reg.streamTokensOut : Nat := 0x530006

/-- STREAM_TOKENS_IN 0x5300.07, Table 5.15 (R135). -/
abbrev Reg.streamTokensIn : Nat := 0x530007

/-- ABORT_REQUEST 0x5400.01, Table 5.15 (R135). -/
abbrev Reg.abortRequest : Nat := 0x540001

/-- ABORT_RESULT 0x5400.02, Table 5.15 (R135). -/
abbrev Reg.abortResult : Nat := 0x540002

/-- GROUP_SELECT 0x5500.01, Table 6.10 (R155). -/
abbrev Reg.groupSelect : Nat := 0x550001

/-- GROUP_STATE 0x5500.02, Table 6.10 (R155). -/
abbrev Reg.groupState : Nat := 0x550002

/-- GROUP_INSTANCE 0x5500.03, Table 6.10 (R155). -/
abbrev Reg.groupInstance : Nat := 0x550003

/-- GROUP_MEMBERS 0x5500.04, Table 6.10 (R155). -/
abbrev Reg.groupMembers : Nat := 0x550004

/-- GROUP_HEADERS_ACCEPTED 0x5500.05, Table 6.10 (R155). -/
abbrev Reg.groupHeadersAccepted : Nat := 0x550005

/-- GROUP_FIRST_MISSING 0x5500.06, Table 6.10 (R155). -/
abbrev Reg.groupFirstMissing : Nat := 0x550006

/-- GROUP_RESULT_COUNT 0x5500.07, Table 6.10 (R155). -/
abbrev Reg.groupResultCount : Nat := 0x550007

/-- GROUP_WAIT_NS 0x5500.08, Table 6.10 (R155). -/
abbrev Reg.groupWaitNs : Nat := 0x550008

/-- GROUP_INSTANCES_COMPLETED 0x5500.09, Table 6.10 (R155). -/
abbrev Reg.groupInstancesCompleted : Nat := 0x550009

/-- GROUP_MISSING_MAP 0x5500.0A, Table 6.10 (R155). -/
abbrev Reg.groupMissingMap : Nat := 0x55000A

/-- HEADERS_REFUSED 0x5510.01, Table 6.10 (R155). -/
abbrev Reg.headersRefused : Nat := 0x551001

/-- LAST_HEADER_REFUSED 0x5510.02, Table 6.10 (R155). -/
abbrev Reg.lastHeaderRefused : Nat := 0x551002

/-- STALE_DISCARDED 0x5510.03, Table 6.10 (R155). -/
abbrev Reg.staleDiscarded : Nat := 0x551003

/-- OUTER_STEP_START 0x5700.01, Table 7.9 (R172). -/
abbrev Reg.outerStepStart : Nat := 0x570001

/-- OUTER_STEP_CURRENT 0x5700.02, Table 7.9 (R172). -/
abbrev Reg.outerStepCurrent : Nat := 0x570002

/-- PARAMETERS_UPDATED 0x5700.03, Table 7.9 (R172). -/
abbrev Reg.parametersUpdated : Nat := 0x570003

/-- SPECIAL_TILES 0x5700.04, Table 7.9 (R172). -/
abbrev Reg.optSpecialTiles : Nat := 0x570004

/-- RANGE_HOLDS 0x5700.05, Table 7.9 (R172). -/
abbrev Reg.rangeHolds : Nat := 0x570005

/-- LAST_INVALID_RANGE 0x5700.06, Table 7.9 (R172). -/
abbrev Reg.lastInvalidRange : Nat := 0x570006

/-- JOURNAL_ENTRY_STEP 0x5710.01, Table 7.9 (R172); `j` counts from 0, subindex 01 + j. -/
abbrev Reg.journalEntryStep (j : Nat) : Nat := 0x571001 + j

/-- JOURNAL_ENTRY_BLOCKS 0x5711.01, Table 7.9 (R172); `j` counts from 0, subindex 01 + j. -/
abbrev Reg.journalEntryBlocks (j : Nat) : Nat := 0x571101 + j

/-- PROGRAM_RECORD 0x5720.01, Table 7.9 (R172); `k` counts the family's indices from 0. -/
abbrev Reg.programRecord (k : Nat) : Nat := 0x572001 + 0x100 * k

/-- BLOCKS_CODED 0x5800.01, Table 8.9 (R193). -/
abbrev Reg.blocksCoded : Nat := 0x580001

/-- BLOCKS_DECODED 0x5800.02, Table 8.9 (R193). -/
abbrev Reg.blocksDecoded : Nat := 0x580002

/-- VALUES_FLUSHED 0x5800.03, Table 8.9 (R193). -/
abbrev Reg.valuesFlushed : Nat := 0x580003

/-- VALUES_IN_GAP 0x5800.04, Table 8.9 (R193). -/
abbrev Reg.valuesInGap : Nat := 0x580004

/-- VALUES_SATURATED 0x5800.05, Table 8.9 (R193). -/
abbrev Reg.valuesSaturated : Nat := 0x580005

/-- BLOCKS_DAMAGED 0x5800.06, Table 8.9 (R193). -/
abbrev Reg.blocksDamaged : Nat := 0x580006

/-- DAMAGE_REFETCHED 0x5800.07, Table 8.9 (R193). -/
abbrev Reg.damageRefetched : Nat := 0x580007

/-- DAMAGE_REREQUESTED 0x5800.08, Table 8.9 (R193). -/
abbrev Reg.damageRerequested : Nat := 0x580008

/-- LAST_BLOCK_DAMAGE 0x5800.09, Table 8.9 (R193). -/
abbrev Reg.lastBlockDamage : Nat := 0x580009

/-- TABLE_WRITES_REFUSED 0x5800.0A, Table 8.9 (R193). -/
abbrev Reg.tableWritesRefused : Nat := 0x58000A

/-- IN_FLIGHT_UNDERFLOWS 0x5800.0B, Table 8.9 (R193). -/
abbrev Reg.inFlightUnderflows : Nat := 0x58000B

/-- SLOT_TABLE 0x581s.01, Table 8.9 (R193); `k` counts the family's indices from 0. -/
abbrev Reg.slotTable (k : Nat) : Nat := 0x581001 + 0x100 * k

/-- SLOT_GENERATION 0x581s.02, Table 8.9 (R193); `k` counts the family's indices from 0. -/
abbrev Reg.slotGeneration (k : Nat) : Nat := 0x581002 + 0x100 * k

/-- SLOT_IN_FLIGHT 0x581s.03, Table 8.9 (R193); `k` counts the family's indices from 0. -/
abbrev Reg.slotInFlight (k : Nat) : Nat := 0x581003 + 0x100 * k

/-- SLOT_IN_FLIGHT_CLEAR 0x581s.04, Table 8.9 (R193); `k` counts the family's indices from 0. -/
abbrev Reg.slotInFlightClear (k : Nat) : Nat := 0x581004 + 0x100 * k

/-- SLOT_NAMED 0x581s.05, Table 8.9 (R193); `k` counts the family's indices from 0. -/
abbrev Reg.slotNamed (k : Nat) : Nat := 0x581005 + 0x100 * k

/-- HBM_CAPACITY 0x6000.01, Table 9.8 (R217). -/
abbrev Reg.hbmCapacity : Nat := 0x600001

/-- HUB_LINK_STATE 0x6000.02, Table 9.8 (R217). -/
abbrev Reg.hubLinkState : Nat := 0x600002

/-- SCRUB_PERIOD_H 0x6000.03, Table 9.8 (R217). -/
abbrev Reg.scrubPeriodH : Nat := 0x600003

/-- HBM_CORRECTED 0x6000.04, Table 9.8 (R217). -/
abbrev Reg.hbmCorrected : Nat := 0x600004

/-- HBM_UNCORRECTABLE 0x6000.05, Table 9.8 (R217). -/
abbrev Reg.hbmUncorrectable : Nat := 0x600005

/-- LAST_MEMORY_ERROR 0x6000.06, Table 9.8 (R217). -/
abbrev Reg.lastMemoryError : Nat := 0x600006

/-- SCRUB_PASSES 0x6000.07, Table 9.8 (R217). -/
abbrev Reg.scrubPasses : Nat := 0x600007

/-- HUB_LINK_RETRAINS 0x6000.08, Table 9.8 (R217). -/
abbrev Reg.hubLinkRetrains : Nat := 0x600008

/-- STACK_CORRECTED 0x6010.01, Table 9.8 (R217); `j` counts from 0, subindex 01 + j. -/
abbrev Reg.stackCorrected (j : Nat) : Nat := 0x601001 + j

/-- STAGING_CORRECTED 0x6100.01, Table 9.8 (R217). -/
abbrev Reg.stagingCorrected : Nat := 0x610001

/-- STAGING_UNCORRECTABLE 0x6100.02, Table 9.8 (R217). -/
abbrev Reg.stagingUncorrectable : Nat := 0x610002

/-- POOL_BASE 0x6200.01, Table 9.8 (R217). -/
abbrev Reg.poolBase : Nat := 0x620001

/-- POOL_BUFFERS 0x6200.02, Table 9.8 (R217). -/
abbrev Reg.poolBuffers : Nat := 0x620002

/-- POOL_FREE 0x6200.03, Table 9.8 (R217). -/
abbrev Reg.poolFree : Nat := 0x620003

/-- POOL_RESERVED_UNUSED 0x6200.04, Table 9.8 (R217). -/
abbrev Reg.poolReservedUnused : Nat := 0x620004

/-- POOL_ALLOCATIONS 0x6200.05, Table 9.8 (R217). -/
abbrev Reg.poolAllocations : Nat := 0x620005

/-- POOL_FREES 0x6200.06, Table 9.8 (R217). -/
abbrev Reg.poolFrees : Nat := 0x620006

/-- ALLOC_DEFERRED 0x6200.07, Table 9.8 (R217). -/
abbrev Reg.allocDeferred : Nat := 0x620007

/-- POOL_ERRORS 0x6200.08, Table 9.8 (R217). -/
abbrev Reg.poolErrors : Nat := 0x620008

/-- LAST_POOL_ERROR 0x6200.09, Table 9.8 (R217). -/
abbrev Reg.lastPoolError : Nat := 0x620009

/-- BITMAP_SELECT 0x6200.0A, Table 9.8 (R217). -/
abbrev Reg.bitmapSelect : Nat := 0x62000A

/-- BITMAP_WORD 0x6200.0B, Table 9.8 (R217). -/
abbrev Reg.bitmapWord : Nat := 0x62000B

/-- OWNER_LIMITS 0x6300.01, Table 9.8 (R217); `j` counts from 0, subindex 01 + j. -/
abbrev Reg.ownerLimits (j : Nat) : Nat := 0x630001 + j

/-- OWNER_USAGE 0x6310.01, Table 9.8 (R217); `j` counts from 0, subindex 01 + j. -/
abbrev Reg.ownerUsage (j : Nat) : Nat := 0x631001 + j

/-- PREFETCH_DESCRIPTOR 0x6400.01, Table 9.8 (R217); `j` counts from 0, subindex 01 + j. -/
abbrev Reg.prefetchDescriptor (j : Nat) : Nat := 0x640001 + j

/-- PREFETCH_BUSY 0x6410.01, Table 9.8 (R217). -/
abbrev Reg.prefetchBusy : Nat := 0x641001

/-- LFN_NOW 0x3100.01, Table 10.10 (R249). -/
abbrev Reg.lfnNow : Nat := 0x310001

/-- PAGE_ACTIVE 0x3100.02, Table 10.10 (R249). -/
abbrev Reg.pageActive : Nat := 0x310002

/-- PAGE_SWITCH_STATE 0x3100.03, Table 10.10 (R249). -/
abbrev Reg.pageSwitchState : Nat := 0x310003

/-- PAGE_SWITCH_REQUEST 0x3100.04, Table 10.10 (R249). -/
abbrev Reg.pageSwitchRequest : Nat := 0x310004

/-- PAGE_SWITCH_FRAME 0x3100.05, Table 10.10 (R249). -/
abbrev Reg.pageSwitchFrame : Nat := 0x310005

/-- PAGE_SWITCH_DETAIL 0x3100.06, Table 10.10 (R249). -/
abbrev Reg.pageSwitchDetail : Nat := 0x310006

/-- RESTORE_HOLDOFF_MS 0x3100.07, Table 10.10 (R249). -/
abbrev Reg.restoreHoldoffMs : Nat := 0x310007

/-- CM_PAGE 0x3110.01, Table 10.10 (R249); `j` counts from 0, subindex 01 + j. -/
abbrev Reg.cmPage (j : Nat) : Nat := 0x311001 + j

/-- LG_TABLE 0x3111.01, Table 10.10 (R249); `j` counts from 0, subindex 01 + j. -/
abbrev Reg.lgTable (j : Nat) : Nat := 0x311101 + j

/-- CHANNEL_FRAMER_STATE 0x3120.01, Table 10.10 (R249); `j` counts from 0, subindex 01 + j. -/
abbrev Reg.channelFramerState (j : Nat) : Nat := 0x312001 + j

/-- CHANNEL_SKEW_NS 0x3121.01, Table 10.10 (R249); `j` counts from 0, subindex 01 + j. -/
abbrev Reg.channelSkewNs (j : Nat) : Nat := 0x312101 + j

/-- ROUTE_MEMBERS 0x3122.01, Table 10.10 (R249); `j` counts from 0, subindex 01 + j. -/
abbrev Reg.routeMembers (j : Nat) : Nat := 0x312201 + j

/-- ROUTE_SUBST 0x3123.01, Table 10.10 (R249); `j` counts from 0, subindex 01 + j. -/
abbrev Reg.routeSubst (j : Nat) : Nat := 0x312301 + j

/-- TRACE_TEXT 0x3130.01, Table 10.10 (R249). -/
abbrev Reg.traceText : Nat := 0x313001

/-- EXPECTED_TRACE 0x3131.01, Table 10.10 (R249); `j` counts from 0, subindex 01 + j. -/
abbrev Reg.expectedTrace (j : Nat) : Nat := 0x313101 + j

/-- TRACE_MASK 0x3132.01, Table 10.10 (R249); `j` counts from 0, subindex 01 + j. -/
abbrev Reg.traceMask (j : Nat) : Nat := 0x313201 + j

/-- ACCEPTED_TRACE 0x3133.01, Table 10.10 (R249); `j` counts from 0, subindex 01 + j. -/
abbrev Reg.acceptedTrace (j : Nat) : Nat := 0x313301 + j

/-- PAGE_SWITCHES 0x3140.01, Table 10.10 (R249). -/
abbrev Reg.pageSwitches : Nat := 0x314001

/-- PAGE_MISMATCH_FRAMES 0x3140.02, Table 10.10 (R249). -/
abbrev Reg.pageMismatchFrames : Nat := 0x314002

/-- LFN_WINDOW_DISCARDS 0x3140.03, Table 10.10 (R249). -/
abbrev Reg.lfnWindowDiscards : Nat := 0x314003

/-- SUBSTITUTIONS 0x3140.04, Table 10.10 (R249). -/
abbrev Reg.substitutions : Nat := 0x314004

/-- MEMBER_CHANGES 0x3140.05, Table 10.10 (R249). -/
abbrev Reg.memberChanges : Nat := 0x314005

/-- ANNOUNCE_MISSED 0x3140.06, Table 10.10 (R249). -/
abbrev Reg.announceMissed : Nat := 0x314006

/-- JUSTIFICATIONS_POSITIVE 0x3140.07, Table 10.10 (R249). -/
abbrev Reg.justificationsPositive : Nat := 0x314007

/-- JUSTIFICATIONS_NEGATIVE 0x3140.08, Table 10.10 (R249). -/
abbrev Reg.justificationsNegative : Nat := 0x314008

/-- JC_ERRORS 0x3140.09, Table 10.10 (R249). -/
abbrev Reg.jcErrors : Nat := 0x314009

/-- PARTIAL_SLOTS_DISCARDED 0x3140.0A, Table 10.10 (R249). -/
abbrev Reg.partialSlotsDiscarded : Nat := 0x31400A

/-- DEG_THRESHOLD 0x3200.01, Table 11.6 (R267). -/
abbrev Reg.degThreshold : Nat := 0x320001

/-- DEG_SECONDS 0x3200.02, Table 11.6 (R267). -/
abbrev Reg.degSeconds : Nat := 0x320002

/-- DEG_ACTION 0x3200.03, Table 11.6 (R267). -/
abbrev Reg.degAction : Nat := 0x320003

/-- TIM_ACTION 0x3200.04, Table 11.6 (R267). -/
abbrev Reg.timAction : Nat := 0x320004

/-- PEER_LOSS_HOLDOFF_MS 0x3200.05, Table 11.6 (R267). -/
abbrev Reg.peerLossHoldoffMs : Nat := 0x320005

/-- PM_SECOND_SEQ 0x3200.06, Table 11.6 (R267). -/
abbrev Reg.pmSecondSeq : Nat := 0x320006

/-- PM_SELECT 0x3200.07, Table 11.6 (R267). -/
abbrev Reg.pmSelect : Nat := 0x320007

/-- PM_HISTORY 0x3200.08, Table 11.6 (R267). -/
abbrev Reg.pmHistory : Nat := 0x320008

/-- CHANNEL_DEFECTS 0x3210.01, Table 11.6 (R267); `j` counts from 0, subindex 01 + j. -/
abbrev Reg.channelDefects (j : Nat) : Nat := 0x321001 + j

/-- PM_RECORD 0x3220.01, Table 11.6 (R267); `j` counts from 0, subindex 01 + j. -/
abbrev Reg.pmRecord (j : Nat) : Nat := 0x322001 + j

/-- BUNDLE_STATE 0x3230.01, Table 11.6 (R267); `j` counts from 0, subindex 01 + j. -/
abbrev Reg.bundleState (j : Nat) : Nat := 0x323001 + j

/-- PEER_STATE 0x3231.01, Table 11.6 (R267). -/
abbrev Reg.peerState : Nat := 0x323101

/-- FEC_CORRECTED_TOTAL 0x3250.01, Table 11.6 (R267); `j` counts from 0, subindex 01 + j. -/
abbrev Reg.fecCorrectedTotal (j : Nat) : Nat := 0x325001 + j

/-- BIP_ERRORS_TOTAL 0x3251.01, Table 11.6 (R267); `j` counts from 0, subindex 01 + j. -/
abbrev Reg.bipErrorsTotal (j : Nat) : Nat := 0x325101 + j

/-- RXFAIL_DECLARATIONS 0x3252.01, Table 11.6 (R267); `j` counts from 0, subindex 01 + j. -/
abbrev Reg.rxfailDeclarations (j : Nat) : Nat := 0x325201 + j

/-- TXFAIL_DECLARATIONS 0x3253.01, Table 11.6 (R267); `j` counts from 0, subindex 01 + j. -/
abbrev Reg.txfailDeclarations (j : Nat) : Nat := 0x325301 + j

/-- PEER_LOSSES 0x3260.01, Table 11.6 (R267). -/
abbrev Reg.peerLosses : Nat := 0x326001

/-- PLAN_CHECK_DETAIL 0x3300.01, Table 12.10 (R294). -/
abbrev Reg.planCheckDetail : Nat := 0x330001

/-- ARQ_MSG_UNKNOWN 0x3300.02, Table 12.10 (R294). -/
abbrev Reg.arqMsgUnknown : Nat := 0x330002

/-- LINK_STATE 0x3310.01, Table 12.10 (R294); `j` counts from 0, subindex 01 + j. -/
abbrev Reg.linkState (j : Nat) : Nat := 0x331001 + j

/-- LINK_TIMERS_US 0x3311.01, Table 12.10 (R294); `j` counts from 0, subindex 01 + j. -/
abbrev Reg.linkTimersUs (j : Nat) : Nat := 0x331101 + j

/-- LINK_TIMER_MIN_US 0x3312.01, Table 12.10 (R294); `j` counts from 0, subindex 01 + j. -/
abbrev Reg.linkTimerMinUs (j : Nat) : Nat := 0x331201 + j

/-- ROUTE_DELAY_NS 0x3313.01, Table 12.10 (R294); `j` counts from 0, subindex 01 + j. -/
abbrev Reg.routeDelayNs (j : Nat) : Nat := 0x331301 + j

/-- STRIPES_SENT 0x3320.01, Table 12.10 (R294); `j` counts from 0, subindex 01 + j. -/
abbrev Reg.stripesSent (j : Nat) : Nat := 0x332001 + j

/-- STRIPES_REBUILT 0x3321.01, Table 12.10 (R294); `j` counts from 0, subindex 01 + j. -/
abbrev Reg.stripesRebuilt (j : Nat) : Nat := 0x332101 + j

/-- NAKS_SENT 0x3322.01, Table 12.10 (R294); `j` counts from 0, subindex 01 + j. -/
abbrev Reg.naksSent (j : Nat) : Nat := 0x332201 + j

/-- PARCELS_RESENT 0x3323.01, Table 12.10 (R294); `j` counts from 0, subindex 01 + j. -/
abbrev Reg.parcelsResent (j : Nat) : Nat := 0x332301 + j

/-- RETRY_TIMEOUTS 0x3324.01, Table 12.10 (R294); `j` counts from 0, subindex 01 + j. -/
abbrev Reg.retryTimeouts (j : Nat) : Nat := 0x332401 + j

/-- STRIPES_FAILED 0x3325.01, Table 12.10 (R294); `j` counts from 0, subindex 01 + j. -/
abbrev Reg.stripesFailed (j : Nat) : Nat := 0x332501 + j

/-- DUPLICATES 0x3326.01, Table 12.10 (R294); `j` counts from 0, subindex 01 + j. -/
abbrev Reg.duplicates (j : Nat) : Nat := 0x332601 + j

/-- AUTH_FAILED 0x3327.01, Table 12.10 (R294); `j` counts from 0, subindex 01 + j. -/
abbrev Reg.authFailed (j : Nat) : Nat := 0x332701 + j

/-- STALE_EPOCH 0x3328.01, Table 12.10 (R294); `j` counts from 0, subindex 01 + j. -/
abbrev Reg.staleEpoch (j : Nat) : Nat := 0x332801 + j

/-- DELINEATION_ERRORS 0x3329.01, Table 12.10 (R294); `j` counts from 0, subindex 01 + j. -/
abbrev Reg.delineationErrors (j : Nat) : Nat := 0x332901 + j

/-- REREQUESTS 0x332A.01, Table 12.10 (R294); `j` counts from 0, subindex 01 + j. -/
abbrev Reg.rerequests (j : Nat) : Nat := 0x332A01 + j

/-- LAST_STRIPE_FAILURE 0x332B.01, Table 12.10 (R294). -/
abbrev Reg.lastStripeFailure : Nat := 0x332B01

/-- CIPHER_STATE 0x4000.01, Table 13.7 (R312). -/
abbrev Reg.cipherState : Nat := 0x400001

/-- ALARM_STATUS 0x4000.02, Table 13.7 (R312). -/
abbrev Reg.alarmStatus : Nat := 0x400002

/-- LAST_CURTAIN 0x4000.03, Table 13.7 (R312). -/
abbrev Reg.lastCurtain : Nat := 0x400003

/-- CURTAINS 0x4000.04, Table 13.7 (R312). -/
abbrev Reg.curtains : Nat := 0x400004

/-- DUP_MISMATCHES 0x4000.05, Table 13.7 (R312). -/
abbrev Reg.dupMismatches : Nat := 0x400005

/-- ZERO_FILLS 0x4000.06, Table 13.7 (R312). -/
abbrev Reg.zeroFills : Nat := 0x400006

/-- SUSPENSIONS 0x4000.07, Table 13.7 (R312). -/
abbrev Reg.suspensions : Nat := 0x400007

/-- LANES_IN_SERVICE 0x4000.08, Table 13.7 (R312). -/
abbrev Reg.lanesInService : Nat := 0x400008

/-- LAST_CIPHER_FAULT 0x4000.09, Table 13.7 (R312). -/
abbrev Reg.lastCipherFault : Nat := 0x400009

/-- KLK_LOAD 0x4010.01, Table 13.7 (R312). -/
abbrev Reg.klkLoad : Nat := 0x401001

/-- KLK_STATE 0x4010.02, Table 13.7 (R312). -/
abbrev Reg.klkState : Nat := 0x401002

/-- KLK_NONCE_LAST 0x4010.03, Table 13.7 (R312). -/
abbrev Reg.klkNonceLast : Nat := 0x401003

/-- ROOT_NONCE_LAST 0x4010.04, Table 13.7 (R312). -/
abbrev Reg.rootNonceLast : Nat := 0x401004

/-- SAK_LOAD 0x4011.01, Table 13.7 (R312). -/
abbrev Reg.sakLoad : Nat := 0x401101

/-- SAK_STATE 0x4011.02, Table 13.7 (R312). -/
abbrev Reg.sakState : Nat := 0x401102

/-- PAIR_KEY_LOAD 0x410s.01, Table 13.7 (R312); `k` counts the family's indices from 0. -/
abbrev Reg.pairKeyLoad (k : Nat) : Nat := 0x410001 + 0x100 * k

/-- PAIR_EPOCHS 0x410s.02, Table 13.7 (R312); `k` counts the family's indices from 0. -/
abbrev Reg.pairEpochs (k : Nat) : Nat := 0x410002 + 0x100 * k

/-- PAIR_SWITCH_REQUEST 0x410s.03, Table 13.7 (R312); `k` counts the family's indices from 0. -/
abbrev Reg.pairSwitchRequest (k : Nat) : Nat := 0x410003 + 0x100 * k

/-- TX_IV_COUNT 0x410s.04, Table 13.7 (R312); `k` counts the family's indices from 0. -/
abbrev Reg.txIvCount (k : Nat) : Nat := 0x410004 + 0x100 * k

/-- KEY_CHECK 0x410s.05, Table 13.7 (R312); `k` counts the family's indices from 0. -/
abbrev Reg.keyCheck (k : Nat) : Nat := 0x410005 + 0x100 * k

/-- ERASE_TIME 0x410s.06, Table 13.7 (R312); `k` counts the family's indices from 0. -/
abbrev Reg.eraseTime (k : Nat) : Nat := 0x410006 + 0x100 * k

/-- KEY_ERASE 0x410s.07, Table 13.7 (R312); `k` counts the family's indices from 0. -/
abbrev Reg.keyErase (k : Nat) : Nat := 0x410007 + 0x100 * k

/-- OHB_TAG_FAILURES 0x410s.08, Table 13.7 (R312); `k` counts the family's indices from 0. -/
abbrev Reg.ohbTagFailures (k : Nat) : Nat := 0x410008 + 0x100 * k

/-- EPOCH_NOT_LOADED 0x410s.09, Table 13.7 (R312); `k` counts the family's indices from 0. -/
abbrev Reg.epochNotLoaded (k : Nat) : Nat := 0x410009 + 0x100 * k

/-- CHANNEL_CONFIG 0x3400.01, Table 14.10 (R335); `j` counts from 0, subindex 01 + j. -/
abbrev Reg.channelConfig (j : Nat) : Nat := 0x340001 + j

/-- CHANNEL_STATE 0x3401.01, Table 14.10 (R335); `j` counts from 0, subindex 01 + j. -/
abbrev Reg.channelState (j : Nat) : Nat := 0x340101 + j

/-- RX_POWER_CDBM 0x3402.01, Table 14.10 (R335); `j` counts from 0, subindex 01 + j. -/
abbrev Reg.rxPowerCdbm (j : Nat) : Nat := 0x340201 + j

/-- TX_POWER_CDBM 0x3403.01, Table 14.10 (R335); `j` counts from 0, subindex 01 + j. -/
abbrev Reg.txPowerCdbm (j : Nat) : Nat := 0x340301 + j

/-- FREQ_ERROR_MHZ 0x3404.01, Table 14.10 (R335); `j` counts from 0, subindex 01 + j. -/
abbrev Reg.freqErrorMhz (j : Nat) : Nat := 0x340401 + j

/-- PILOT_RX 0x3405.01, Table 14.10 (R335); `j` counts from 0, subindex 01 + j. -/
abbrev Reg.pilotRx (j : Nat) : Nat := 0x340501 + j

/-- RELOCK_REQUEST 0x3406.01, Table 14.10 (R335); `j` counts from 0, subindex 01 + j. -/
abbrev Reg.relockRequest (j : Nat) : Nat := 0x340601 + j

/-- ENGINE_STATE 0x3410.01, Table 14.10 (R335); `j` counts from 0, subindex 01 + j. -/
abbrev Reg.engineState (j : Nat) : Nat := 0x341001 + j

/-- CAL_ENABLE 0x3420.01, Table 14.10 (R335). -/
abbrev Reg.calEnable : Nat := 0x342001

/-- CAL_PERIOD_S 0x3420.02, Table 14.10 (R335). -/
abbrev Reg.calPeriodS : Nat := 0x342002

/-- CAL_REQUEST 0x3420.03, Table 14.10 (R335). -/
abbrev Reg.calRequest : Nat := 0x342003

/-- RELOCK_HOLD_MS 0x3420.04, Table 14.10 (R335). -/
abbrev Reg.relockHoldMs : Nat := 0x342004

/-- CAL_WAIT_MS 0x3420.05, Table 14.10 (R335). -/
abbrev Reg.calWaitMs : Nat := 0x342005

/-- MONITOR_SELECT 0x3430.01, Table 14.10 (R335). -/
abbrev Reg.monitorSelect : Nat := 0x343001

/-- MONITOR_VALUE 0x3430.02, Table 14.10 (R335). -/
abbrev Reg.monitorValue : Nat := 0x343002

/-- WRONG_LOCKS 0x3440.01, Table 14.10 (R335); `j` counts from 0, subindex 01 + j. -/
abbrev Reg.wrongLocks (j : Nat) : Nat := 0x344001 + j

/-- LOCK_LOSSES 0x3441.01, Table 14.10 (R335); `j` counts from 0, subindex 01 + j. -/
abbrev Reg.lockLosses (j : Nat) : Nat := 0x344101 + j

/-- RELOCKS 0x3442.01, Table 14.10 (R335); `j` counts from 0, subindex 01 + j. -/
abbrev Reg.relocks (j : Nat) : Nat := 0x344201 + j

/-- CALIBRATIONS 0x3443.01, Table 14.10 (R335); `j` counts from 0, subindex 01 + j. -/
abbrev Reg.calibrations (j : Nat) : Nat := 0x344301 + j

/-- CAL_DEFERRALS 0x3444.01, Table 14.10 (R335); `j` counts from 0, subindex 01 + j. -/
abbrev Reg.calDeferrals (j : Nat) : Nat := 0x344401 + j

/-- PILOT_MISMATCHES 0x3445.01, Table 14.10 (R335); `j` counts from 0, subindex 01 + j. -/
abbrev Reg.pilotMismatches (j : Nat) : Nat := 0x344501 + j

/-- PORT_CONFIG 0x2000.01, Table 15.11 (R363); `j` counts from 0, subindex 01 + j. -/
abbrev Reg.portConfig (j : Nat) : Nat := 0x200001 + j

/-- PORT_STATE 0x2001.01, Table 15.11 (R363); `j` counts from 0, subindex 01 + j. -/
abbrev Reg.portState (j : Nat) : Nat := 0x200101 + j

/-- PORT_MAC 0x2002.01, Table 15.11 (R363); `j` counts from 0, subindex 01 + j. -/
abbrev Reg.portMac (j : Nat) : Nat := 0x200201 + j

/-- PEER_MAC 0x2003.01, Table 15.11 (R363); `j` counts from 0, subindex 01 + j. -/
abbrev Reg.peerMac (j : Nat) : Nat := 0x200301 + j

/-- PORT_IPV6 0x2004.01, Table 15.11 (R363); `j` counts from 0, subindex 01 + j. -/
abbrev Reg.portIpv6 (j : Nat) : Nat := 0x200401 + j

/-- PT_UDP_PORT 0x2005.01, Table 15.11 (R363). -/
abbrev Reg.ptUdpPort : Nat := 0x200501

/-- HOST_RETRY_US 0x2006.01, Table 15.11 (R363). -/
abbrev Reg.hostRetryUs : Nat := 0x200601

/-- HOST_RETRY_BUDGET 0x2006.02, Table 15.11 (R363). -/
abbrev Reg.hostRetryBudget : Nat := 0x200602

/-- PORT_FAILOVER_MS 0x2006.03, Table 15.11 (R363). -/
abbrev Reg.portFailoverMs : Nat := 0x200603

/-- LANE_DEGRADE_SER 0x2007.01, Table 15.11 (R363). -/
abbrev Reg.laneDegradeSer : Nat := 0x200701

/-- LANE_STATE 0x2010.01, Table 15.11 (R363); `j` counts from 0, subindex 01 + j. -/
abbrev Reg.laneState (j : Nat) : Nat := 0x201001 + j

/-- SHAPER_PROFILE 0x2020.01, Table 15.11 (R363); `j` counts from 0, subindex 01 + j. -/
abbrev Reg.shaperProfile (j : Nat) : Nat := 0x202001 + j

/-- METER_PROFILE 0x2021.01, Table 15.11 (R363); `j` counts from 0, subindex 01 + j. -/
abbrev Reg.meterProfile (j : Nat) : Nat := 0x202101 + j

/-- PORT_COUNTERS 0x2030.01, Table 15.11 (R363); `j` counts from 0, subindex 01 + j. -/
abbrev Reg.portCounters (j : Nat) : Nat := 0x203001 + j

/-- RING_CONFIG 0x2040.01, Table 15.11 (R363). -/
abbrev Reg.ringConfig : Nat := 0x204001

/-- RING_STATE 0x2040.02, Table 15.11 (R363). -/
abbrev Reg.ringState : Nat := 0x204002

/-- DIVERSIONS 0x2040.03, Table 15.11 (R363). -/
abbrev Reg.diversions : Nat := 0x204003

/-- DIVERTED_CHANNELS 0x2040.04, Table 15.11 (R363). -/
abbrev Reg.divertedChannels : Nat := 0x204004

/-- TIME_MODE 0x7000.01, Table 16.6 (R382). -/
abbrev Reg.timeMode : Nat := 0x700001

/-- TIME_SOURCE_SITES 0x7000.02, Table 16.6 (R382). -/
abbrev Reg.timeSourceSites : Nat := 0x700002

/-- TIME_STATE 0x7000.03, Table 16.6 (R382). -/
abbrev Reg.timeState : Nat := 0x700003

/-- TIME_STATUS 0x7000.04, Table 16.6 (R382). -/
abbrev Reg.timeStatus : Nat := 0x700004

/-- NETWORK_TIME_NS 0x7000.05, Table 16.6 (R382). -/
abbrev Reg.networkTimeNs : Nat := 0x700005

/-- CURRENT_EPOCH 0x7000.06, Table 16.6 (R382). -/
abbrev Reg.currentEpoch : Nat := 0x700006

/-- SERVO_RESTART 0x7000.07, Table 16.6 (R382). -/
abbrev Reg.servoRestart : Nat := 0x700007

/-- LAST_STEP 0x7000.08, Table 16.6 (R382). -/
abbrev Reg.lastStep : Nat := 0x700008

/-- JUMP_THRESHOLD_NS 0x7010.01, Table 16.6 (R382). -/
abbrev Reg.jumpThresholdNs : Nat := 0x701001

/-- JUMP_HOLDOVER_S 0x7010.02, Table 16.6 (R382). -/
abbrev Reg.jumpHoldoverS : Nat := 0x701002

/-- SERVO_BANDWIDTH_MHZ 0x7010.03, Table 16.6 (R382). -/
abbrev Reg.servoBandwidthMhz : Nat := 0x701003

/-- RATE_LIMIT_PPB 0x7010.04, Table 16.6 (R382). -/
abbrev Reg.rateLimitPpb : Nat := 0x701004

/-- TOD_NEXT_PPS 0x7020.01, Table 16.6 (R382). -/
abbrev Reg.todNextPps : Nat := 0x702001

/-- REF_CONFIG 0x7020.02, Table 16.6 (R382). -/
abbrev Reg.refConfig : Nat := 0x702002

/-- PPS_IN_OFFSET_NS 0x7020.03, Table 16.6 (R382). -/
abbrev Reg.ppsInOffsetNs : Nat := 0x702003

/-- ASYMMETRY_PS 0x7030.01, Table 16.6 (R382); `j` counts from 0, subindex 01 + j; `k` counts the family's indices from 0. -/
abbrev Reg.asymmetryPs (k j : Nat) : Nat := 0x703001 + 0x100 * k + j

/-- ROUTE_OFFSET_PS 0x7040.01, Table 16.6 (R382); `j` counts from 0, subindex 01 + j; `k` counts the family's indices from
0. -/
abbrev Reg.routeOffsetPs (k j : Nat) : Nat := 0x704001 + 0x100 * k + j

/-- SITE_OFFSET_PS 0x7050.01, Table 16.6 (R382); `j` counts from 0, subindex 01 + j. -/
abbrev Reg.siteOffsetPs (j : Nat) : Nat := 0x705001 + j

/-- ROUTE_DISAGREE 0x7051.01, Table 16.6 (R382); `j` counts from 0, subindex 01 + j. -/
abbrev Reg.routeDisagree (j : Nat) : Nat := 0x705101 + j

/-- TIME_JUMPS_REFUSED 0x7060.01, Table 16.6 (R382). -/
abbrev Reg.timeJumpsRefused : Nat := 0x706001

/-- ROUTE_DISAGREEMENTS 0x7060.02, Table 16.6 (R382). -/
abbrev Reg.routeDisagreements : Nat := 0x706002

/-- TT_AUTH_FAILURES 0x7060.03, Table 16.6 (R382). -/
abbrev Reg.ttAuthFailures : Nat := 0x706003

/-- HOLDOVER_ENTRIES 0x7060.04, Table 16.6 (R382). -/
abbrev Reg.holdoverEntries : Nat := 0x706004

/-- TX_PATH_PS 0x7070.01, Table 16.6 (R382); `j` counts from 0, subindex 01 + j. -/
abbrev Reg.txPathPs (j : Nat) : Nat := 0x707001 + j

/-- RX_PATH_PS 0x7071.01, Table 16.6 (R382); `j` counts from 0, subindex 01 + j. -/
abbrev Reg.rxPathPs (j : Nat) : Nat := 0x707101 + j

/-- SITE_WEIGHT 0x8500.01, Table 17.5 (R403); `j` counts from 0, subindex 01 + j. -/
abbrev Reg.siteWeight (j : Nat) : Nat := 0x850001 + j

/-- TIE_BREAK_SITE 0x8500.09, Table 17.5 (R403). -/
abbrev Reg.tieBreakSite : Nat := 0x850009

/-- TOUCH_HOLDOFF_MS 0x8500.0A, Table 17.5 (R403). -/
abbrev Reg.touchHoldoffMs : Nat := 0x85000A

/-- QUORUM_STATE 0x8500.0B, Table 17.5 (R403). -/
abbrev Reg.quorumState : Nat := 0x85000B

/-- QUORUM_HOLDS 0x8500.0C, Table 17.5 (R403). -/
abbrev Reg.quorumHolds : Nat := 0x85000C

/-- STATE_STEP 0x8510.01, Table 17.5 (R403). -/
abbrev Reg.stateStep : Nat := 0x851001

/-- LAST_COMMIT_TIME 0x8510.02, Table 17.5 (R403). -/
abbrev Reg.lastCommitTime : Nat := 0x851002

/-- STATE_STEP_SET 0x8510.03, Table 17.5 (R403). -/
abbrev Reg.stateStepSet : Nat := 0x851003

/-- APPLIED_SELECT 0x8510.04, Table 17.5 (R403). -/
abbrev Reg.appliedSelect : Nat := 0x851004

/-- APPLIED_WORD 0x8510.05, Table 17.5 (R403). -/
abbrev Reg.appliedWord : Nat := 0x851005

/-- STATE_HOLDS 0x8510.06, Table 17.5 (R403). -/
abbrev Reg.stateHolds : Nat := 0x851006

/-- COMMITS 0x8510.07, Table 17.5 (R403). -/
abbrev Reg.commits : Nat := 0x851007

/-- HEALTH_SELECT 0x8600.01, Table 17.5 (R403). -/
abbrev Reg.healthSelect : Nat := 0x860001

/-- HEALTH_DECAY 0x8600.02, Table 17.5 (R403). -/
abbrev Reg.healthDecay : Nat := 0x860002

/-- WATCH_POINTS 0x8600.03, Table 17.5 (R403). -/
abbrev Reg.watchPoints : Nat := 0x860003

/-- REPLACE_POINTS 0x8600.04, Table 17.5 (R403). -/
abbrev Reg.replacePoints : Nat := 0x860004

/-- HEALTH_RECORD 0x8600.05, Table 17.5 (R403). -/
abbrev Reg.healthRecord : Nat := 0x860005

/-- HEALTH_WORST 0x8600.06, Table 17.5 (R403). -/
abbrev Reg.healthWorst : Nat := 0x860006

/-- ORDERING_NUMBER 0x1000.01, Table 18.9 (R426). -/
abbrev Reg.orderingNumber : Nat := 0x100001

/-- SILICON_STEPPING 0x1000.02, Table 18.9 (R426). -/
abbrev Reg.siliconStepping : Nat := 0x100002

/-- SERIAL_NUMBER 0x1000.03, Table 18.9 (R426). -/
abbrev Reg.serialNumber : Nat := 0x100003

/-- BOOT_ID 0x1000.04, Table 18.9 (R426). -/
abbrev Reg.bootId : Nat := 0x100004

/-- DICTIONARY_VERSION 0x1000.05, Table 18.9 (R426). -/
abbrev Reg.dictionaryVersion : Nat := 0x100005

/-- ACCEPTED_HSN 0x110t.01, Table 18.9 (R426); `k` counts the family's indices from 0. -/
abbrev Reg.acceptedHsn (k : Nat) : Nat := 0x110001 + 0x100 * k

/-- DSN 0x110t.02, Table 18.9 (R426); `k` counts the family's indices from 0. -/
abbrev Reg.dsn (k : Nat) : Nat := 0x110002 + 0x100 * k

/-- REQUESTS_EXECUTED 0x110t.03, Table 18.9 (R426); `k` counts the family's indices from 0. -/
abbrev Reg.requestsExecuted (k : Nat) : Nat := 0x110003 + 0x100 * k

/-- REQUESTS_REPEATED 0x110t.04, Table 18.9 (R426); `k` counts the family's indices from 0. -/
abbrev Reg.requestsRepeated (k : Nat) : Nat := 0x110004 + 0x100 * k

/-- SEQUENCE_REFUSALS 0x110t.05, Table 18.9 (R426); `k` counts the family's indices from 0. -/
abbrev Reg.sequenceRefusals (k : Nat) : Nat := 0x110005 + 0x100 * k

/-- PDUS_DISCARDED 0x110t.06, Table 18.9 (R426); `k` counts the family's indices from 0. -/
abbrev Reg.pdusDiscarded (k : Nat) : Nat := 0x110006 + 0x100 * k

/-- RESPONSE_SUMMARY 0x110t.07, Table 18.9 (R426); `j` counts from 0, subindex 07 + j; `k` counts the family's indices from
0. -/
abbrev Reg.responseSummary (k j : Nat) : Nat := 0x110007 + 0x100 * k + j

/-- MGMT_MAC 0x1110.01, Table 18.9 (R426). -/
abbrev Reg.mgmtMac : Nat := 0x111001

/-- MGMT_IPV6 0x1110.02, Table 18.9 (R426). -/
abbrev Reg.mgmtIpv6 : Nat := 0x111002

/-- JDP_UDP_PORT 0x1110.03, Table 18.9 (R426). -/
abbrev Reg.jdpUdpPort : Nat := 0x111003

/-- MGMT_LINK_STATE 0x1110.04, Table 18.9 (R426). -/
abbrev Reg.mgmtLinkState : Nat := 0x111004

/-- BUS_ADDRESS 0x1120.01, Table 18.9 (R426). -/
abbrev Reg.busAddress : Nat := 0x112001

/-- BUS_WRITE_ENABLE 0x1120.02, Table 18.9 (R426). -/
abbrev Reg.busWriteEnable : Nat := 0x112002

/-- EVENT_WRITE_SEQ 0x1200.01, Table 18.9 (R426). -/
abbrev Reg.eventWriteSeq : Nat := 0x120001

/-- EVENT_SELECT 0x1200.02, Table 18.9 (R426). -/
abbrev Reg.eventSelect : Nat := 0x120002

/-- EVENT_RECORDS 0x1200.03, Table 18.9 (R426). -/
abbrev Reg.eventRecords : Nat := 0x120003

/-- EVENT_RING_SIZE 0x1200.04, Table 18.9 (R426). -/
abbrev Reg.eventRingSize : Nat := 0x120004

/-- CV_UNITS 0x9000.01, Table 19.7 (R436). -/
abbrev Reg.cvUnits : Nat := 0x900001

/-- CV_CONFIG 0x910u.01, Table 19.7 (R436); `k` counts the family's indices from 0. -/
abbrev Reg.cvConfig (k : Nat) : Nat := 0x910001 + 0x100 * k

/-- CV_RUNNING 0x910u.02, Table 19.7 (R436); `k` counts the family's indices from 0. -/
abbrev Reg.cvRunning (k : Nat) : Nat := 0x910002 + 0x100 * k

/-- CV_STATE 0x910u.03, Table 19.7 (R436); `k` counts the family's indices from 0. -/
abbrev Reg.cvState (k : Nat) : Nat := 0x910003 + 0x100 * k

/-- SCAN_START 0x910u.04, Table 19.7 (R436); `k` counts the family's indices from 0. -/
abbrev Reg.scanStart (k : Nat) : Nat := 0x910004 + 0x100 * k

/-- SCAN_LENGTH 0x910u.05, Table 19.7 (R436); `k` counts the family's indices from 0. -/
abbrev Reg.scanLength (k : Nat) : Nat := 0x910005 + 0x100 * k

/-- SCAN_COMMAND 0x910u.06, Table 19.7 (R436); `k` counts the family's indices from 0. -/
abbrev Reg.scanCommand (k : Nat) : Nat := 0x910006 + 0x100 * k

/-- CV_RECORD 0x910u.07, Table 19.7 (R436); `k` counts the family's indices from 0. -/
abbrev Reg.cvRecord (k : Nat) : Nat := 0x910007 + 0x100 * k

/-- ALIVE 0x910u.08, Table 19.7 (R436); `k` counts the family's indices from 0. -/
abbrev Reg.alive (k : Nat) : Nat := 0x910008 + 0x100 * k

/-- BYTES_CHECKED 0x910u.09, Table 19.7 (R436); `k` counts the family's indices from 0. -/
abbrev Reg.bytesChecked (k : Nat) : Nat := 0x910009 + 0x100 * k

/-- SCANS_FAILED 0x910u.0A, Table 19.7 (R436); `k` counts the family's indices from 0. -/
abbrev Reg.scansFailed (k : Nat) : Nat := 0x91000A + 0x100 * k

/-- CV_RUNNING_LENGTH 0x910u.0B, Table 19.7 (R436); `k` counts the family's indices from 0. -/
abbrev Reg.cvRunningLength (k : Nat) : Nat := 0x91000B + 0x100 * k

/-- SCAN_SAVED 0x910u.0C, Table 19.7 (R436); `k` counts the family's indices from 0. -/
abbrev Reg.scanSaved (k : Nat) : Nat := 0x91000C + 0x100 * k

/-- MODULE_STATE 0x1800.01, Table 20.12 (R456). -/
abbrev Reg.moduleState : Nat := 0x180001

/-- LAST_RESET_CAUSE 0x1800.02, Table 20.12 (R456). -/
abbrev Reg.lastResetCause : Nat := 0x180002

/-- RESET_REQUEST 0x1800.03, Table 20.12 (R456). -/
abbrev Reg.resetRequest : Nat := 0x180003

/-- SAFE_REQUEST 0x1800.04, Table 20.12 (R456). -/
abbrev Reg.safeRequest : Nat := 0x180004

/-- SAFE_CAUSE 0x1800.05, Table 20.12 (R456). -/
abbrev Reg.safeCause : Nat := 0x180005

/-- REHEARSAL_RESULT 0x1800.06, Table 20.12 (R456). -/
abbrev Reg.rehearsalResult : Nat := 0x180006

/-- INTERMISSION_CONTROL 0x1810.01, Table 20.12 (R456). -/
abbrev Reg.intermissionControl : Nat := 0x181001

/-- WAKE_PERIOD_MS 0x1810.02, Table 20.12 (R456). -/
abbrev Reg.wakePeriodMs : Nat := 0x181002

/-- WAKE_ENABLE 0x1810.03, Table 20.12 (R456). -/
abbrev Reg.wakeEnable : Nat := 0x181003

/-- WAKE_LINE_THRESHOLD 0x1810.04, Table 20.12 (R456). -/
abbrev Reg.wakeLineThreshold : Nat := 0x181004

/-- LAST_WAKE 0x1810.05, Table 20.12 (R456). -/
abbrev Reg.lastWake : Nat := 0x181005

/-- WAKE_SAMPLES 0x1810.06, Table 20.12 (R456). -/
abbrev Reg.wakeSamples : Nat := 0x181006

/-- INTERMISSIONS 0x1810.07, Table 20.12 (R456). -/
abbrev Reg.intermissions : Nat := 0x181007

/-- WAKE_PATTERN_PORTS 0x1810.08, Table 20.12 (R456). -/
abbrev Reg.wakePatternPorts : Nat := 0x181008

/-- DIE_TEMP_DC 0x8700.01, Table 21.12 (R475). -/
abbrev Reg.dieTempDc : Nat := 0x870001

/-- HUB_TEMP_DC 0x8701.01, Table 21.12 (R475); `j` counts from 0, subindex 01 + j. -/
abbrev Reg.hubTempDc (j : Nat) : Nat := 0x870101 + j

/-- HBM_TEMP_DC 0x8702.01, Table 21.12 (R475); `j` counts from 0, subindex 01 + j. -/
abbrev Reg.hbmTempDc (j : Nat) : Nat := 0x870201 + j

/-- ENGINE_TEMP_DC 0x8703.01, Table 21.12 (R475); `j` counts from 0, subindex 01 + j. -/
abbrev Reg.engineTempDc (j : Nat) : Nat := 0x870301 + j

/-- COOLANT_IN_DC 0x8704.01, Table 21.12 (R475). -/
abbrev Reg.coolantInDc : Nat := 0x870401

/-- COOLANT_OUT_DC 0x8704.02, Table 21.12 (R475). -/
abbrev Reg.coolantOutDc : Nat := 0x870402

/-- COOLANT_FLOW_CLPM 0x8704.03, Table 21.12 (R475). -/
abbrev Reg.coolantFlowClpm : Nat := 0x870403

/-- HEAT_TO_COOLANT_DW 0x8704.04, Table 21.12 (R475). -/
abbrev Reg.heatToCoolantDw : Nat := 0x870404

/-- HBM_DERATE_DW 0x8705.01, Table 21.12 (R475). -/
abbrev Reg.hbmDerateDw : Nat := 0x870501

/-- RAIL_MV 0x8710.01, Table 21.12 (R475); `j` counts from 0, subindex 01 + j. -/
abbrev Reg.railMv (j : Nat) : Nat := 0x871001 + j

/-- RAIL_CURRENT_DA 0x8711.01, Table 21.12 (R475); `j` counts from 0, subindex 01 + j. -/
abbrev Reg.railCurrentDa (j : Nat) : Nat := 0x871101 + j

/-- RAIL_EXCURSIONS 0x8712.01, Table 21.12 (R475); `j` counts from 0, subindex 01 + j. -/
abbrev Reg.railExcursions (j : Nat) : Nat := 0x871201 + j

/-- VREQ_CODE 0x8713.01, Table 21.12 (R475). -/
abbrev Reg.vreqCode : Nat := 0x871301

/-- STRAPS 0x8713.02, Table 21.12 (R475). -/
abbrev Reg.straps : Nat := 0x871302

end Sys2Proof
end

