-- ==== Sys2Proof/Machine/Tab.lean ====
section
/-! DEFINITION. Reading and writing the sparse tables, and reading bit fields, bytes and signed numbers
out of plain numbers. -/
namespace Sys2Proof

/-- The value a table holds at `i`; `d` where it lists none. -/
def tget {α : Type} (d : α) : Tab α → Nat → α
  | [], _ => d
  | (k, v) :: r, i => if k = i then v else tget d r i

/-- A table without the entry for `i`. -/
def terase {α : Type} : Tab α → Nat → Tab α
  | [], _ => []
  | (k, v) :: r, i => if k = i then terase r i else (k, v) :: terase r i

/-- A table with `(i, v)` put before the first greater number. -/
def tput {α : Type} : Tab α → Nat → α → Tab α
  | [], i, v => [(i, v)]
  | (k, w) :: r, i, v => if i < k then (i, v) :: (k, w) :: r else (k, w) :: tput r i v

/-- Writing `v` at `i`: writing the default removes the entry, so equal contents are equal lists. -/
def tset {α : Type} [DecidableEq α] (d : α) (t : Tab α) (i : Nat) (v : α) : Tab α :=
  if v = d then terase t i else tput (terase t i) i v

/-- The numbers of a table rise strictly, all of them being at least `lo`, and no entry is a default. -/
def twf {α : Type} [DecidableEq α] (d : α) : Nat → Tab α → Bool
  | _, [] => true
  | lo, (k, v) :: r => decide (lo ≤ k) && decide (v ≠ d) && twf d (k + 1) r

/-- Bits `hi` down to `lo` of a number. -/
def bits (v hi lo : Nat) : Nat := v / 2 ^ lo % 2 ^ (hi + 1 - lo)

/-- Bit `i` of a number. -/
def bit (v i : Nat) : Bool := v / 2 ^ i % 2 == 1

/-- 1 for true, 0 for false: a flag as a field of one bit. -/
def b2n (b : Bool) : Nat := if b then 1 else 0

/-- A number with bits `hi` down to `lo` replaced by `x`. -/
def setBits (v hi lo x : Nat) : Nat :=
  v % 2 ^ lo + (x % 2 ^ (hi + 1 - lo)) * 2 ^ lo + v / 2 ^ (hi + 1) * 2 ^ (hi + 1)

/-- A number with bit `i` replaced. -/
def setBit (v i : Nat) (b : Bool) : Nat := setBits v i i (b2n b)

/-- How many of the lowest `n` bits are 1. -/
def popCount : Nat → Nat → Nat
  | 0, _ => 0
  | n + 1, v => popCount n v + b2n (bit v n)

/-- The lowest `i < n` whose bit is 1. -/
def lowestBit (n v : Nat) : Option Nat := (List.range n).find? (fun i => bit v i)

/-- The `w`-bit two's complement of an integer (R409). -/
def toSigned (w : Nat) (x : Int) : Nat := (x % (2 ^ w : Int)).toNat

/-- The integer that `w` bits mean in two's complement (R409). -/
def ofSigned (w v : Nat) : Int := if v % 2 ^ w < 2 ^ (w - 1) then (v % 2 ^ w : Int) else (v % 2 ^ w : Int) - 2 ^ w

/-- `n` bytes of a number, least significant first (R5). -/
def bytesLE : Nat → Nat → List Byte
  | 0, _ => []
  | n + 1, v => BitVec.ofNat 8 (v % 256) :: bytesLE n (v / 256)

/-- The number that bytes mean, least significant first (R5). -/
def ofBytesLE : List Byte → Nat
  | [] => 0
  | b :: r => b.toNat + 256 * ofBytesLE r

/-- `n` bytes of a number in network order (R5). -/
def bytesBE (n v : Nat) : List Byte := (bytesLE n v).reverse

/-- The number that bytes in network order mean (R5). -/
def ofBytesBE (l : List Byte) : Nat := ofBytesLE l.reverse

/-- `n` bytes from position `p` of a byte string. -/
def slice (l : List Byte) (p n : Nat) : List Byte := (l.drop p).take n

/-- Quotient rounded up. -/
def ceilDiv (a b : Nat) : Nat := (a + b - 1) / b

/-- The number of bits of `v`: 0 for 0, else the position of its highest 1 plus 1. -/
def bitLen (v : Nat) : Nat := if v = 0 then 0 else Nat.log2 v + 1

end Sys2Proof
end

