-- ==== Sys2Proof/Machine/Dict.lean ====
section
/-! DEFINITION. The object dictionary: which objects exist, their sizes, access codes and values after
reset (chapters 02 to 21, collected in 22_dictionary_index.md; R8, R9, R410, R476, R477). -/
namespace Sys2Proof

/-- Access codes of Table 0.5 (R8). -/
inductive Access
  | ro | rw | wo | w1c | rl
  deriving DecidableEq, Repr

/-- One row of the dictionary's tables: `nIdx` indices from `idx`, each with `nSub` subindices from
`sub`, of `size` bytes; `dom` for the domain type; the access code; the value after reset. SHEET_DATA
has no size of its own and carries 0. -/
structure ObjRow where
  idx : Nat
  nIdx : Nat
  sub : Nat
  nSub : Nat
  size : Nat
  dom : Bool
  acc : Access
  reset : Nat
  deriving DecidableEq, Repr

/-- The rows of chapter 02. -/
def dictRows02 : List ObjRow := [
  ⟨0x8100, 1, 0x01, 1, 1, false, .rw, 0x0⟩,
  ⟨0x8100, 1, 0x02, 1, 2, false, .rw, 0x2ee⟩,
  ⟨0x8100, 1, 0x03, 1, 2, false, .ro, 0x2ee⟩,
  ⟨0x8100, 1, 0x04, 1, 2, false, .rl, 0x0⟩,
  ⟨0x8100, 1, 0x05, 1, 2, false, .ro, 0x0⟩,
  ⟨0x8100, 1, 0x06, 1, 8, false, .rl, 0x0⟩,
  ⟨0x8200, 1, 0x01, 1, 2, false, .rw, 0xc8⟩,
  ⟨0x8200, 1, 0x02, 1, 4, false, .rw, 0x6e0f⟩,
  ⟨0x8200, 1, 0x03, 1, 2, false, .rl, 0x0⟩,
  ⟨0x8200, 1, 0x04, 1, 2, false, .rl, 0x0⟩,
  ⟨0x8200, 1, 0x05, 1, 8, false, .rl, 0x0⟩,
  ⟨0x8200, 1, 0x06, 1, 8, false, .rl, 0x0⟩,
  ⟨0x8200, 1, 0x07, 1, 8, false, .rl, 0x0⟩,
  ⟨0x8300, 1, 0x01, 1, 8, false, .rl, 0x0⟩,
  ⟨0x8300, 1, 0x02, 20, 4, false, .rl, 0x0⟩,
  ⟨0x8400, 1, 0x01, 1, 8, false, .rw, 0x0⟩]

/-- The rows of chapter 04. -/
def dictRows04 : List ObjRow := [
  ⟨0x5600, 1, 0x01, 1, 2, false, .ro, 0xffff⟩,
  ⟨0x5600, 1, 0x02, 1, 8, false, .rl, 0x0⟩,
  ⟨0x5600, 1, 0x03, 1, 8, false, .rl, 0x0⟩,
  ⟨0x5600, 1, 0x04, 1, 8, false, .rl, 0x0⟩,
  ⟨0x5600, 1, 0x05, 1, 8, false, .rl, 0x0⟩,
  ⟨0x5600, 1, 0x06, 1, 4, false, .wo, 0x0⟩,
  ⟨0x5600, 1, 0x07, 1, 8, false, .rl, 0x0⟩,
  ⟨0x5600, 1, 0x08, 1, 8, false, .rl, 0x0⟩]

/-- The rows of chapter 05. -/
def dictRows05 : List ObjRow := [
  ⟨0x5000, 1, 0x01, 1, 1, false, .ro, 0x0⟩,
  ⟨0x5000, 1, 0x02, 1, 1, false, .ro, 0xff⟩,
  ⟨0x5000, 1, 0x03, 1, 8, false, .ro, 0x0⟩,
  ⟨0x5000, 1, 0x04, 1, 2, false, .ro, 0x0⟩,
  ⟨0x5000, 1, 0x05, 1, 4, false, .rl, 0x0⟩,
  ⟨0x5000, 1, 0x06, 1, 4, false, .rl, 0x0⟩,
  ⟨0x5000, 1, 0x07, 1, 1, false, .w1c, 0x0⟩,
  ⟨0x5000, 1, 0x08, 1, 8, false, .rl, 0x0⟩,
  ⟨0x5000, 1, 0x09, 1, 8, false, .rl, 0x0⟩,
  ⟨0x5000, 1, 0x0A, 1, 8, false, .rl, 0x0⟩,
  ⟨0x5000, 1, 0x0B, 1, 8, false, .rl, 0x0⟩,
  ⟨0x5000, 1, 0x0C, 1, 8, false, .rl, 0x0⟩,
  ⟨0x5000, 1, 0x0D, 1, 8, false, .ro, 0x0⟩,
  ⟨0x5010, 1, 0x01, 1, 4, false, .rl, 0x0⟩,
  ⟨0x5010, 1, 0x02, 1, 4, false, .rw, 0x0⟩,
  ⟨0x5010, 1, 0x03, 1, 32, true, .rl, 0x0⟩,
  ⟨0x5100, 2, 0x01, 1, 1, false, .ro, 0x0⟩,
  ⟨0x5100, 2, 0x02, 1, 1, false, .wo, 0x0⟩,
  ⟨0x5100, 2, 0x03, 1, 4, false, .rw, 0x0⟩,
  ⟨0x5100, 2, 0x04, 1, 0, true, .wo, 0x0⟩,
  ⟨0x5100, 2, 0x05, 1, 4, false, .rw, 0x0⟩,
  ⟨0x5100, 2, 0x06, 1, 4, false, .rw, 0x0⟩,
  ⟨0x5100, 2, 0x07, 1, 8, false, .rw, 0x0⟩,
  ⟨0x5100, 2, 0x08, 1, 2, false, .ro, 0x0⟩]

/-- The rows of chapter 05, continued. -/
def dictRows05b : List ObjRow := [
  ⟨0x5100, 2, 0x09, 1, 4, false, .ro, 0xffffffff⟩,
  ⟨0x5100, 2, 0x0A, 1, 8, false, .ro, 0x0⟩,
  ⟨0x5100, 2, 0x0B, 1, 2, false, .ro, 0x0⟩,
  ⟨0x5200, 1, 0x01, 1, 2, false, .rw, 0x0⟩,
  ⟨0x5200, 1, 0x02, 1, 4, false, .rl, 0x0⟩,
  ⟨0x5200, 1, 0x03, 1, 8, false, .rl, 0x0⟩,
  ⟨0x5300, 1, 0x01, 1, 2, false, .rw, 0x0⟩,
  ⟨0x5300, 1, 0x02, 1, 4, false, .rl, 0x0⟩,
  ⟨0x5300, 1, 0x03, 1, 1, false, .rl, 0x0⟩,
  ⟨0x5300, 1, 0x04, 1, 8, false, .rl, 0x0⟩,
  ⟨0x5300, 1, 0x05, 1, 8, false, .rl, 0x0⟩,
  ⟨0x5300, 1, 0x06, 1, 8, false, .rl, 0x0⟩,
  ⟨0x5300, 1, 0x07, 1, 8, false, .rl, 0x0⟩,
  ⟨0x5400, 1, 0x01, 1, 16, false, .wo, 0x0⟩,
  ⟨0x5400, 1, 0x02, 1, 2, false, .ro, 0x0⟩]

/-- The rows of chapter 06. -/
def dictRows06 : List ObjRow := [
  ⟨0x5500, 1, 0x01, 1, 2, false, .rw, 0x0⟩,
  ⟨0x5500, 1, 0x02, 1, 1, false, .rl, 0x0⟩,
  ⟨0x5500, 1, 0x03, 1, 4, false, .rl, 0x0⟩,
  ⟨0x5500, 1, 0x04, 1, 2, false, .rl, 0x0⟩,
  ⟨0x5500, 1, 0x05, 1, 2, false, .rl, 0x0⟩,
  ⟨0x5500, 1, 0x06, 1, 2, false, .rl, 0xffff⟩,
  ⟨0x5500, 1, 0x07, 1, 4, false, .rl, 0x0⟩,
  ⟨0x5500, 1, 0x08, 1, 8, false, .rl, 0x0⟩,
  ⟨0x5500, 1, 0x09, 1, 8, false, .rl, 0x0⟩,
  ⟨0x5500, 1, 0x0A, 1, 128, true, .rl, 0x0⟩,
  ⟨0x5510, 1, 0x01, 1, 8, false, .rl, 0x0⟩,
  ⟨0x5510, 1, 0x02, 1, 8, false, .rl, 0x0⟩,
  ⟨0x5510, 1, 0x03, 1, 8, false, .rl, 0x0⟩]

/-- The rows of chapter 07. -/
def dictRows07 : List ObjRow := [
  ⟨0x5700, 1, 0x01, 1, 8, false, .rw, 0x0⟩,
  ⟨0x5700, 1, 0x02, 1, 8, false, .rl, 0x0⟩,
  ⟨0x5700, 1, 0x03, 1, 8, false, .rl, 0x0⟩,
  ⟨0x5700, 1, 0x04, 1, 8, false, .rl, 0x0⟩,
  ⟨0x5700, 1, 0x05, 1, 8, false, .rl, 0x0⟩,
  ⟨0x5700, 1, 0x06, 1, 16, true, .rl, 0x0⟩,
  ⟨0x5710, 1, 0x01, 8, 8, false, .rl, 0x0⟩,
  ⟨0x5711, 1, 0x01, 8, 8, false, .rl, 0x0⟩,
  ⟨0x5720, 16, 0x01, 1, 192, true, .rw, 0x0⟩]

/-- The rows of chapter 08. -/
def dictRows08 : List ObjRow := [
  ⟨0x5800, 1, 0x01, 1, 8, false, .rl, 0x0⟩,
  ⟨0x5800, 1, 0x02, 1, 8, false, .rl, 0x0⟩,
  ⟨0x5800, 1, 0x03, 1, 8, false, .rl, 0x0⟩,
  ⟨0x5800, 1, 0x04, 1, 8, false, .rl, 0x0⟩,
  ⟨0x5800, 1, 0x05, 1, 8, false, .rl, 0x0⟩,
  ⟨0x5800, 1, 0x06, 1, 8, false, .rl, 0x0⟩,
  ⟨0x5800, 1, 0x07, 1, 8, false, .rl, 0x0⟩,
  ⟨0x5800, 1, 0x08, 1, 8, false, .rl, 0x0⟩,
  ⟨0x5800, 1, 0x09, 1, 8, false, .rl, 0x0⟩,
  ⟨0x5800, 1, 0x0A, 1, 8, false, .rl, 0x0⟩,
  ⟨0x5800, 1, 0x0B, 1, 8, false, .rl, 0x0⟩,
  ⟨0x5810, 4, 0x01, 1, 16, true, .rw, 0x8006050403020100⟩,
  ⟨0x5810, 4, 0x02, 1, 1, false, .ro, 0x0⟩,
  ⟨0x5810, 4, 0x03, 1, 8, false, .rl, 0x0⟩,
  ⟨0x5810, 4, 0x04, 1, 1, false, .wo, 0x0⟩,
  ⟨0x5810, 4, 0x05, 1, 1, false, .ro, 0x0⟩]

/-- The rows of chapter 09. -/
def dictRows09 : List ObjRow := [
  ⟨0x6000, 1, 0x01, 1, 8, false, .ro, 0x10c388d0000⟩,
  ⟨0x6000, 1, 0x02, 1, 1, false, .ro, 0xf⟩,
  ⟨0x6000, 1, 0x03, 1, 2, false, .rw, 0x18⟩,
  ⟨0x6000, 1, 0x04, 1, 8, false, .rl, 0x0⟩,
  ⟨0x6000, 1, 0x05, 1, 8, false, .rl, 0x0⟩,
  ⟨0x6000, 1, 0x06, 1, 8, false, .rl, 0x0⟩,
  ⟨0x6000, 1, 0x07, 1, 8, false, .rl, 0x0⟩,
  ⟨0x6000, 1, 0x08, 1, 8, false, .rl, 0x0⟩,
  ⟨0x6010, 1, 0x01, 24, 8, false, .rl, 0x0⟩,
  ⟨0x6100, 1, 0x01, 1, 8, false, .rl, 0x0⟩,
  ⟨0x6100, 1, 0x02, 1, 8, false, .rl, 0x0⟩,
  ⟨0x6200, 1, 0x01, 1, 8, false, .rw, 0x0⟩,
  ⟨0x6200, 1, 0x02, 1, 4, false, .rw, 0x0⟩,
  ⟨0x6200, 1, 0x03, 1, 4, false, .rl, 0x0⟩,
  ⟨0x6200, 1, 0x04, 1, 4, false, .rl, 0x0⟩,
  ⟨0x6200, 1, 0x05, 1, 8, false, .rl, 0x0⟩,
  ⟨0x6200, 1, 0x06, 1, 8, false, .rl, 0x0⟩,
  ⟨0x6200, 1, 0x07, 1, 8, false, .rl, 0x0⟩,
  ⟨0x6200, 1, 0x08, 1, 8, false, .rl, 0x0⟩,
  ⟨0x6200, 1, 0x09, 1, 8, false, .rl, 0x0⟩,
  ⟨0x6200, 1, 0x0A, 1, 2, false, .rw, 0x0⟩,
  ⟨0x6200, 1, 0x0B, 1, 8, false, .rl, 0x0⟩,
  ⟨0x6300, 1, 0x01, 64, 8, false, .rw, 0x0⟩,
  ⟨0x6310, 1, 0x01, 64, 4, false, .rl, 0x0⟩]

/-- The rows of chapter 09, continued. -/
def dictRows09b : List ObjRow := [
  ⟨0x6400, 1, 0x01, 64, 16, true, .rw, 0x0⟩,
  ⟨0x6410, 1, 0x01, 1, 8, false, .ro, 0x0⟩]

/-- The rows of chapter 10. -/
def dictRows10 : List ObjRow := [
  ⟨0x3100, 1, 0x01, 1, 8, false, .rl, 0x0⟩,
  ⟨0x3100, 1, 0x02, 1, 1, false, .ro, 0x0⟩,
  ⟨0x3100, 1, 0x03, 1, 1, false, .ro, 0x0⟩,
  ⟨0x3100, 1, 0x04, 1, 16, true, .wo, 0x0⟩,
  ⟨0x3100, 1, 0x05, 1, 8, false, .ro, 0x0⟩,
  ⟨0x3100, 1, 0x06, 1, 4, false, .ro, 0xffffffff⟩,
  ⟨0x3100, 1, 0x07, 1, 4, false, .rw, 0x2710⟩,
  ⟨0x3110, 1, 0x01, 4, 8192, true, .rw, 0x0⟩,
  ⟨0x3111, 1, 0x01, 4, 256, true, .rw, 0x0⟩,
  ⟨0x3120, 1, 0x01, 32, 4, false, .rl, 0x0⟩,
  ⟨0x3121, 1, 0x01, 32, 4, false, .rl, 0x0⟩,
  ⟨0x3122, 1, 0x01, 4, 2, false, .rl, 0x0⟩,
  ⟨0x3123, 1, 0x01, 4, 4, false, .rl, 0x0⟩,
  ⟨0x3130, 1, 0x01, 1, 32, true, .rw, 0x0⟩,
  ⟨0x3131, 1, 0x01, 32, 64, true, .rw, 0x0⟩,
  ⟨0x3132, 1, 0x01, 32, 8, false, .rw, 0x0⟩,
  ⟨0x3133, 1, 0x01, 32, 64, true, .rl, 0x0⟩,
  ⟨0x3140, 1, 0x01, 1, 8, false, .rl, 0x0⟩,
  ⟨0x3140, 1, 0x02, 1, 8, false, .rl, 0x0⟩,
  ⟨0x3140, 1, 0x03, 1, 8, false, .rl, 0x0⟩,
  ⟨0x3140, 1, 0x04, 1, 8, false, .rl, 0x0⟩,
  ⟨0x3140, 1, 0x05, 1, 8, false, .rl, 0x0⟩,
  ⟨0x3140, 1, 0x06, 1, 8, false, .rl, 0x0⟩,
  ⟨0x3140, 1, 0x07, 1, 8, false, .rl, 0x0⟩]

/-- The rows of chapter 10, continued. -/
def dictRows10b : List ObjRow := [
  ⟨0x3140, 1, 0x08, 1, 8, false, .rl, 0x0⟩,
  ⟨0x3140, 1, 0x09, 1, 8, false, .rl, 0x0⟩,
  ⟨0x3140, 1, 0x0A, 1, 8, false, .rl, 0x0⟩]

/-- The rows of chapter 11. -/
def dictRows11 : List ObjRow := [
  ⟨0x3200, 1, 0x01, 1, 4, false, .rw, 0x3d09⟩,
  ⟨0x3200, 1, 0x02, 1, 1, false, .rw, 0x7⟩,
  ⟨0x3200, 1, 0x03, 1, 1, false, .rw, 0x0⟩,
  ⟨0x3200, 1, 0x04, 1, 1, false, .rw, 0x1⟩,
  ⟨0x3200, 1, 0x05, 1, 4, false, .rw, 0x32⟩,
  ⟨0x3200, 1, 0x06, 1, 4, false, .rl, 0x0⟩,
  ⟨0x3200, 1, 0x07, 1, 4, false, .rw, 0x0⟩,
  ⟨0x3200, 1, 0x08, 1, 2, false, .ro, 0x400⟩,
  ⟨0x3210, 1, 0x01, 32, 4, false, .rl, 0x0⟩,
  ⟨0x3220, 1, 0x01, 32, 64, true, .rl, 0x0⟩,
  ⟨0x3230, 1, 0x01, 4, 2, false, .rl, 0x0⟩,
  ⟨0x3231, 1, 0x01, 1, 2, false, .rl, 0x0⟩,
  ⟨0x3250, 1, 0x01, 32, 8, false, .rl, 0x0⟩,
  ⟨0x3251, 1, 0x01, 32, 8, false, .rl, 0x0⟩,
  ⟨0x3252, 1, 0x01, 32, 8, false, .rl, 0x0⟩,
  ⟨0x3253, 1, 0x01, 32, 8, false, .rl, 0x0⟩,
  ⟨0x3260, 1, 0x01, 1, 8, false, .rl, 0x0⟩]

/-- The rows of chapter 12. -/
def dictRows12 : List ObjRow := [
  ⟨0x3300, 1, 0x01, 1, 4, false, .ro, 0xffffffff⟩,
  ⟨0x3300, 1, 0x02, 1, 8, false, .rl, 0x0⟩,
  ⟨0x3310, 1, 0x01, 16, 4, false, .rl, 0x0⟩,
  ⟨0x3311, 1, 0x01, 16, 16, true, .ro, 0x0⟩,
  ⟨0x3312, 1, 0x01, 16, 12, true, .ro, 0x0⟩,
  ⟨0x3313, 1, 0x01, 16, 16, true, .rl, 0x0⟩,
  ⟨0x3320, 1, 0x01, 16, 8, false, .rl, 0x0⟩,
  ⟨0x3321, 1, 0x01, 16, 8, false, .rl, 0x0⟩,
  ⟨0x3322, 1, 0x01, 16, 8, false, .rl, 0x0⟩,
  ⟨0x3323, 1, 0x01, 16, 8, false, .rl, 0x0⟩,
  ⟨0x3324, 1, 0x01, 16, 8, false, .rl, 0x0⟩,
  ⟨0x3325, 1, 0x01, 16, 8, false, .rl, 0x0⟩,
  ⟨0x3326, 1, 0x01, 16, 8, false, .rl, 0x0⟩,
  ⟨0x3327, 1, 0x01, 16, 8, false, .rl, 0x0⟩,
  ⟨0x3328, 1, 0x01, 16, 8, false, .rl, 0x0⟩,
  ⟨0x3329, 1, 0x01, 16, 8, false, .rl, 0x0⟩,
  ⟨0x332A, 1, 0x01, 16, 8, false, .rl, 0x0⟩,
  ⟨0x332B, 1, 0x01, 1, 8, false, .rl, 0x0⟩]

/-- The rows of chapter 13. -/
def dictRows13 : List ObjRow := [
  ⟨0x4000, 1, 0x01, 1, 1, false, .ro, 0x1⟩,
  ⟨0x4000, 1, 0x02, 1, 1, false, .rl, 0x0⟩,
  ⟨0x4000, 1, 0x03, 1, 16, true, .rl, 0x0⟩,
  ⟨0x4000, 1, 0x04, 1, 8, false, .rl, 0x0⟩,
  ⟨0x4000, 1, 0x05, 1, 8, false, .rl, 0x0⟩,
  ⟨0x4000, 1, 0x06, 1, 8, false, .rl, 0x0⟩,
  ⟨0x4000, 1, 0x07, 1, 8, false, .rl, 0x0⟩,
  ⟨0x4000, 1, 0x08, 1, 4, false, .ro, 0x3ff03ff⟩,
  ⟨0x4000, 1, 0x09, 1, 8, false, .rl, 0x0⟩,
  ⟨0x4010, 1, 0x01, 1, 64, true, .wo, 0x0⟩,
  ⟨0x4010, 1, 0x02, 1, 1, false, .ro, 0x0⟩,
  ⟨0x4010, 1, 0x03, 1, 12, true, .ro, 0x0⟩,
  ⟨0x4010, 1, 0x04, 1, 12, true, .ro, 0x0⟩,
  ⟨0x4011, 1, 0x01, 1, 64, true, .wo, 0x0⟩,
  ⟨0x4011, 1, 0x02, 1, 1, false, .ro, 0x0⟩,
  ⟨0x4100, 8, 0x01, 1, 64, true, .wo, 0x0⟩,
  ⟨0x4100, 8, 0x02, 1, 8, false, .rl, 0x0⟩,
  ⟨0x4100, 8, 0x03, 1, 16, true, .wo, 0x0⟩,
  ⟨0x4100, 8, 0x04, 1, 8, false, .rl, 0x0⟩,
  ⟨0x4100, 8, 0x05, 1, 8, false, .ro, 0x0⟩,
  ⟨0x4100, 8, 0x06, 1, 8, false, .rl, 0x0⟩,
  ⟨0x4100, 8, 0x07, 1, 2, false, .wo, 0x0⟩,
  ⟨0x4100, 8, 0x08, 1, 8, false, .rl, 0x0⟩,
  ⟨0x4100, 8, 0x09, 1, 8, false, .rl, 0x0⟩]

/-- The rows of chapter 14. -/
def dictRows14 : List ObjRow := [
  ⟨0x3400, 1, 0x01, 32, 4, false, .rw, 0xd40000⟩,
  ⟨0x3401, 1, 0x01, 32, 4, false, .rl, 0x45⟩,
  ⟨0x3402, 1, 0x01, 32, 2, false, .rl, 0x0⟩,
  ⟨0x3403, 1, 0x01, 32, 2, false, .rl, 0x0⟩,
  ⟨0x3404, 1, 0x01, 32, 4, false, .rl, 0x0⟩,
  ⟨0x3405, 1, 0x01, 32, 4, false, .rl, 0x0⟩,
  ⟨0x3406, 1, 0x01, 32, 1, false, .wo, 0x0⟩,
  ⟨0x3410, 1, 0x01, 8, 1, false, .ro, 0x0⟩,
  ⟨0x3420, 1, 0x01, 1, 1, false, .rw, 0x1⟩,
  ⟨0x3420, 1, 0x02, 1, 4, false, .rw, 0xe10⟩,
  ⟨0x3420, 1, 0x03, 1, 1, false, .wo, 0x0⟩,
  ⟨0x3420, 1, 0x04, 1, 2, false, .rw, 0x64⟩,
  ⟨0x3420, 1, 0x05, 1, 2, false, .rw, 0x2710⟩,
  ⟨0x3430, 1, 0x01, 1, 2, false, .rw, 0x0⟩,
  ⟨0x3430, 1, 0x02, 1, 4, false, .rl, 0x0⟩,
  ⟨0x3440, 1, 0x01, 32, 8, false, .rl, 0x0⟩,
  ⟨0x3441, 1, 0x01, 32, 8, false, .rl, 0x0⟩,
  ⟨0x3442, 1, 0x01, 32, 8, false, .rl, 0x0⟩,
  ⟨0x3443, 1, 0x01, 32, 8, false, .rl, 0x0⟩,
  ⟨0x3444, 1, 0x01, 32, 8, false, .rl, 0x0⟩,
  ⟨0x3445, 1, 0x01, 32, 8, false, .rl, 0x0⟩]

/-- The rows of chapter 15. -/
def dictRows15 : List ObjRow := [
  ⟨0x2000, 1, 0x01, 16, 4, false, .rw, 0x0⟩,
  ⟨0x2001, 1, 0x01, 16, 1, false, .rl, 0x0⟩,
  ⟨0x2002, 1, 0x01, 16, 8, false, .rw, 0x0⟩,
  ⟨0x2003, 1, 0x01, 16, 8, false, .rw, 0x0⟩,
  ⟨0x2004, 1, 0x01, 16, 16, true, .rw, 0x0⟩,
  ⟨0x2005, 1, 0x01, 1, 2, false, .rw, 0xb8ce⟩,
  ⟨0x2006, 1, 0x01, 1, 2, false, .rw, 0x14⟩,
  ⟨0x2006, 1, 0x02, 1, 1, false, .rw, 0x3⟩,
  ⟨0x2006, 1, 0x03, 1, 4, false, .rw, 0x64⟩,
  ⟨0x2007, 1, 0x01, 1, 4, false, .rw, 0x3a980⟩,
  ⟨0x2010, 1, 0x01, 144, 1, false, .rl, 0x0⟩,
  ⟨0x2020, 1, 0x01, 64, 8, false, .rw, 0x0⟩,
  ⟨0x2021, 1, 0x01, 64, 16, true, .rw, 0x0⟩,
  ⟨0x2030, 1, 0x01, 16, 112, true, .rl, 0x0⟩,
  ⟨0x2040, 1, 0x01, 1, 1, false, .rw, 0x0⟩,
  ⟨0x2040, 1, 0x02, 1, 1, false, .rl, 0x0⟩,
  ⟨0x2040, 1, 0x03, 1, 8, false, .rl, 0x0⟩,
  ⟨0x2040, 1, 0x04, 1, 4, false, .rl, 0x0⟩]

/-- The rows of chapter 16. -/
def dictRows16 : List ObjRow := [
  ⟨0x7000, 1, 0x01, 1, 1, false, .rw, 0x0⟩,
  ⟨0x7000, 1, 0x02, 1, 1, false, .rw, 0x0⟩,
  ⟨0x7000, 1, 0x03, 1, 1, false, .ro, 0x0⟩,
  ⟨0x7000, 1, 0x04, 1, 4, false, .rl, 0x0⟩,
  ⟨0x7000, 1, 0x05, 1, 8, false, .rl, 0x0⟩,
  ⟨0x7000, 1, 0x06, 1, 8, false, .rl, 0x0⟩,
  ⟨0x7000, 1, 0x07, 1, 1, false, .wo, 0x0⟩,
  ⟨0x7000, 1, 0x08, 1, 16, true, .rl, 0x0⟩,
  ⟨0x7010, 1, 0x01, 1, 4, false, .rw, 0x1f4⟩,
  ⟨0x7010, 1, 0x02, 1, 2, false, .rw, 0xa⟩,
  ⟨0x7010, 1, 0x03, 1, 2, false, .rw, 0x64⟩,
  ⟨0x7010, 1, 0x04, 1, 2, false, .rw, 0x3e8⟩,
  ⟨0x7020, 1, 0x01, 1, 8, false, .rw, 0x0⟩,
  ⟨0x7020, 1, 0x02, 1, 1, false, .rw, 0x0⟩,
  ⟨0x7020, 1, 0x03, 1, 4, false, .rw, 0x0⟩,
  ⟨0x7030, 8, 0x01, 4, 4, false, .rw, 0x0⟩,
  ⟨0x7040, 8, 0x01, 4, 8, false, .rl, 0x0⟩,
  ⟨0x7050, 1, 0x01, 8, 8, false, .rl, 0x0⟩,
  ⟨0x7051, 1, 0x01, 8, 1, false, .rl, 0x0⟩,
  ⟨0x7060, 1, 0x01, 1, 8, false, .rl, 0x0⟩,
  ⟨0x7060, 1, 0x02, 1, 8, false, .rl, 0x0⟩,
  ⟨0x7060, 1, 0x03, 1, 8, false, .rl, 0x0⟩,
  ⟨0x7060, 1, 0x04, 1, 8, false, .rl, 0x0⟩,
  ⟨0x7070, 1, 0x01, 32, 4, false, .ro, 0x0⟩]

/-- The rows of chapter 16, continued. -/
def dictRows16b : List ObjRow := [
  ⟨0x7071, 1, 0x01, 32, 4, false, .ro, 0x0⟩]

/-- The rows of chapter 17. -/
def dictRows17 : List ObjRow := [
  ⟨0x8500, 1, 0x01, 8, 1, false, .rw, 0x1⟩,
  ⟨0x8500, 1, 0x09, 1, 1, false, .rw, 0x0⟩,
  ⟨0x8500, 1, 0x0A, 1, 4, false, .rw, 0x0⟩,
  ⟨0x8500, 1, 0x0B, 1, 8, false, .rl, 0x0⟩,
  ⟨0x8500, 1, 0x0C, 1, 8, false, .rl, 0x0⟩,
  ⟨0x8510, 1, 0x01, 1, 8, false, .rl, 0xffffffffffffffff⟩,
  ⟨0x8510, 1, 0x02, 1, 8, false, .rl, 0x0⟩,
  ⟨0x8510, 1, 0x03, 1, 8, false, .wo, 0x0⟩,
  ⟨0x8510, 1, 0x04, 1, 4, false, .rw, 0x0⟩,
  ⟨0x8510, 1, 0x05, 1, 8, false, .rl, 0x0⟩,
  ⟨0x8510, 1, 0x06, 1, 8, false, .rl, 0x0⟩,
  ⟨0x8510, 1, 0x07, 1, 8, false, .rl, 0x0⟩,
  ⟨0x8600, 1, 0x01, 1, 2, false, .rw, 0x0⟩,
  ⟨0x8600, 1, 0x02, 1, 2, false, .rw, 0xd⟩,
  ⟨0x8600, 1, 0x03, 1, 4, false, .rw, 0x3e8⟩,
  ⟨0x8600, 1, 0x04, 1, 4, false, .rw, 0x2710⟩,
  ⟨0x8600, 1, 0x05, 1, 8, false, .rl, 0x0⟩,
  ⟨0x8600, 1, 0x06, 1, 8, false, .rl, 0x0⟩]

/-- The rows of chapter 18. -/
def dictRows18 : List ObjRow := [
  ⟨0x1000, 1, 0x01, 1, 10, true, .ro, 0x3834412d3358462d5a49⟩,
  ⟨0x1000, 1, 0x02, 1, 1, false, .ro, 0xb0⟩,
  ⟨0x1000, 1, 0x03, 1, 16, true, .ro, 0x0⟩,
  ⟨0x1000, 1, 0x04, 1, 4, false, .ro, 0x0⟩,
  ⟨0x1000, 1, 0x05, 1, 2, false, .ro, 0x300⟩,
  ⟨0x1100, 2, 0x01, 1, 4, false, .rl, 0xffffffff⟩,
  ⟨0x1100, 2, 0x02, 1, 4, false, .rl, 0x0⟩,
  ⟨0x1100, 2, 0x03, 1, 8, false, .rl, 0x0⟩,
  ⟨0x1100, 2, 0x04, 1, 8, false, .rl, 0x0⟩,
  ⟨0x1100, 2, 0x05, 1, 8, false, .rl, 0x0⟩,
  ⟨0x1100, 2, 0x06, 1, 8, false, .rl, 0x0⟩,
  ⟨0x1100, 2, 0x07, 8, 16, false, .rl, 0xff0000000000000000000000⟩,
  ⟨0x1110, 1, 0x01, 1, 8, false, .rw, 0x0⟩,
  ⟨0x1110, 1, 0x02, 1, 16, true, .rw, 0x0⟩,
  ⟨0x1110, 1, 0x03, 1, 2, false, .rw, 0xb8d8⟩,
  ⟨0x1110, 1, 0x04, 1, 1, false, .ro, 0x0⟩,
  ⟨0x1120, 1, 0x01, 1, 1, false, .ro, 0x0⟩,
  ⟨0x1120, 1, 0x02, 1, 1, false, .rw, 0x1⟩,
  ⟨0x1200, 1, 0x01, 1, 4, false, .rl, 0x0⟩,
  ⟨0x1200, 1, 0x02, 1, 4, false, .rw, 0x0⟩,
  ⟨0x1200, 1, 0x03, 1, 1024, true, .rl, 0x0⟩,
  ⟨0x1200, 1, 0x04, 1, 2, false, .ro, 0x1000⟩]

/-- The rows of chapter 19. -/
def dictRows19 : List ObjRow := [
  ⟨0x9000, 1, 0x01, 1, 1, false, .ro, 0x8⟩,
  ⟨0x9100, 8, 0x01, 1, 32, true, .rw, 0x1a000000000ffffffff00000000ffffffff0000000004c11db7⟩,
  ⟨0x9100, 8, 0x02, 1, 8, false, .rw, 0xffffffff⟩,
  ⟨0x9100, 8, 0x03, 1, 1, false, .rl, 0x0⟩,
  ⟨0x9100, 8, 0x04, 1, 8, false, .rw, 0x0⟩,
  ⟨0x9100, 8, 0x05, 1, 8, false, .rw, 0x0⟩,
  ⟨0x9100, 8, 0x06, 1, 1, false, .wo, 0x0⟩,
  ⟨0x9100, 8, 0x07, 1, 16, true, .rl, 0x0⟩,
  ⟨0x9100, 8, 0x08, 1, 1, false, .rl, 0x0⟩,
  ⟨0x9100, 8, 0x09, 1, 8, false, .rl, 0x0⟩,
  ⟨0x9100, 8, 0x0A, 1, 8, false, .rl, 0x0⟩,
  ⟨0x9100, 8, 0x0B, 1, 8, false, .rw, 0x0⟩,
  ⟨0x9100, 8, 0x0C, 1, 16, true, .rl, 0x0⟩]

/-- The rows of chapter 20. -/
def dictRows20 : List ObjRow := [
  ⟨0x1800, 1, 0x01, 1, 1, false, .ro, 0x0⟩,
  ⟨0x1800, 1, 0x02, 1, 1, false, .ro, 0x1⟩,
  ⟨0x1800, 1, 0x03, 1, 4, false, .wo, 0x0⟩,
  ⟨0x1800, 1, 0x04, 1, 1, false, .wo, 0x0⟩,
  ⟨0x1800, 1, 0x05, 1, 1, false, .ro, 0x0⟩,
  ⟨0x1800, 1, 0x06, 1, 16, true, .rl, 0xff0000000000000000000000⟩,
  ⟨0x1810, 1, 0x01, 1, 1, false, .wo, 0x0⟩,
  ⟨0x1810, 1, 0x02, 1, 2, false, .rw, 0x64⟩,
  ⟨0x1810, 1, 0x03, 1, 1, false, .rw, 0x7⟩,
  ⟨0x1810, 1, 0x04, 1, 1, false, .rw, 0xd4⟩,
  ⟨0x1810, 1, 0x05, 1, 16, true, .rl, 0x0⟩,
  ⟨0x1810, 1, 0x06, 1, 8, false, .rl, 0x0⟩,
  ⟨0x1810, 1, 0x07, 1, 8, false, .rl, 0x0⟩,
  ⟨0x1810, 1, 0x08, 1, 2, false, .rw, 0xffff⟩]

/-- The rows of chapter 21. -/
def dictRows21 : List ObjRow := [
  ⟨0x8700, 1, 0x01, 1, 2, false, .rl, 0x0⟩,
  ⟨0x8701, 1, 0x01, 4, 2, false, .rl, 0x0⟩,
  ⟨0x8702, 1, 0x01, 24, 2, false, .rl, 0x0⟩,
  ⟨0x8703, 1, 0x01, 8, 2, false, .rl, 0x0⟩,
  ⟨0x8704, 1, 0x01, 1, 2, false, .rl, 0x0⟩,
  ⟨0x8704, 1, 0x02, 1, 2, false, .rl, 0x0⟩,
  ⟨0x8704, 1, 0x03, 1, 2, false, .rw, 0x0⟩,
  ⟨0x8704, 1, 0x04, 1, 2, false, .rl, 0x0⟩,
  ⟨0x8705, 1, 0x01, 1, 2, false, .rl, 0x4074⟩,
  ⟨0x8710, 1, 0x01, 14, 2, false, .rl, 0x0⟩,
  ⟨0x8711, 1, 0x01, 14, 2, false, .rl, 0x0⟩,
  ⟨0x8712, 1, 0x01, 14, 8, false, .rl, 0x0⟩,
  ⟨0x8713, 1, 0x01, 1, 1, false, .ro, 0x1e⟩,
  ⟨0x8713, 1, 0x02, 1, 1, false, .ro, 0x0⟩]

/-- The whole dictionary of stepping B0 (R476). -/
def dictRows : List ObjRow :=
  dictRows02 ++ dictRows04 ++ dictRows05 ++ dictRows05b ++ dictRows06 ++ dictRows07 ++ dictRows08 ++ dictRows09 ++ dictRows09b ++ dictRows10 ++ dictRows10b ++ dictRows11 ++ dictRows12 ++ dictRows13 ++ dictRows14 ++ dictRows15 ++ dictRows16 ++ dictRows16b ++ dictRows17 ++ dictRows18 ++ dictRows19 ++ dictRows20 ++ dictRows21

/-- A row holds object number `o`: an index of its family and a subindex of its range (R477). -/
def ObjRow.holds (r : ObjRow) (o : Nat) : Bool :=
  let i := o / 256
  let s := o % 256
  decide (r.idx ≤ i) && decide (i < r.idx + r.nIdx) && decide (r.sub ≤ s) && decide (s < r.sub + r.nSub)

/-- The row of an object, if the dictionary holds one. -/
def dictFind (o : Nat) : Option ObjRow := dictRows.find? (fun r => r.holds o)

/-- The index exists: some row holds a subindex of it (R410, R477). -/
def dictIndexExists (i : Nat) : Bool :=
  dictRows.any (fun r => decide (r.idx ≤ i) && decide (i < r.idx + r.nIdx))

/-- The highest subindex used at an index, which its subindex 0x00 reads as (R410, R476). -/
def dictHighest (i : Nat) : Nat :=
  dictRows.foldl (fun m r => if decide (r.idx ≤ i) && decide (i < r.idx + r.nIdx) then max m (r.sub + r.nSub - 1) else m) 0

/-- The width of an object in bits; 0 where there is none. -/
def objBits (o : Nat) : Nat := match dictFind o with
  | some r => 8 * r.size
  | none => 0

/-- The link-local IPv6 address made from a MAC address by modified EUI-64 (Table 18.9): fe80::/64, the
first three octets with the universal/local bit flipped, ff fe, the last three. Byte 0 of the address is
the lowest byte of the number. -/
def mgmtLinkLocal (mac : Nat) : Nat :=
  let m := bytesBE 6 mac
  let flip := match m with
    | b :: r => (b ^^^ 0x02#8) :: r
    | [] => []
  ofBytesLE ([0xFE#8, 0x80#8, 0, 0, 0, 0, 0, 0] ++ flip.take 3 ++ [0xFF#8, 0xFE#8] ++ flip.drop 3)

/-- The value an object holds after reset: the factory values (R447), else the row's. DESIGN CHOICE, log entry 3. -/
def objReset (o : Nat) : Nat :=
  if o = Reg.serialNumber then Config.serialNumber.toNat
  else if o = Reg.mgmtMac then Config.mgmtMac.toNat
  else if o = Reg.mgmtIpv6 then mgmtLinkLocal Config.mgmtMac.toNat
  else if o / 256 = 0x2002 ∧ dictFind o ≠ none then (Config.portMac (o % 256 - 1)).toNat
  else if o / 256 = 0x7070 ∧ dictFind o ≠ none then (Config.txPathPs (o % 256 - 1)).toNat
  else if o / 256 = 0x7071 ∧ dictFind o ≠ none then (Config.rxPathPs (o % 256 - 1)).toNat
  else match dictFind o with
    | some r => r.reset
    | none => 0

end Sys2Proof
end

