-- ==== Sys2Proof/Machine/State.lean ====
section
/-! DEFINITION. The state of one module, as plain data: every register of the dictionary, device memory,
and everything the chapters say the units hold. -/
namespace Sys2Proof.Machine

/-- Why a command stops the block. No command of this model ends in a fault: the manual gives each an
effect, a refusal status or no effect at all. -/
inductive Fault
  /-- Raised by nothing (safe): kept so that the outcome type has its three cases. -/
  | none
  deriving DecidableEq, Repr

/-- Why a command is refused by the model. -/
inductive Refusal
  /-- Raised by `exec` for a row that has no meaning yet, by its mnemonic (safe: the model stops). -/
  | notModelled (mnemonic : String)
  deriving DecidableEq, Repr

/-- One record of the event ring (Table 18.6). -/
structure EventRec where
  seq : Nat
  code : Nat
  time : Nat
  subject : Nat
  value : Nat
  deriving DecidableEq, Repr

/-- The time unit (chapter 16). Network time in picoseconds is `anchorPs` plus the local time since
`anchorAt`, at the rate correction `ratePpb`. -/
structure TimeSt where
  anchorPs : Int := 0
  anchorAt : Nat := 0
  ratePpb : Int := 0
  /-- Instant of the first estimate of ACQUIRING, and the estimates of that second [ps]. -/
  acqFrom : Nat := 0
  acqSamples : List Int := []
  /-- Since when the offset has stayed within ±20 ns; none while it has not. -/
  nearFrom : Option Nat := none
  /-- Since when every estimate has been refused; none while none has been. -/
  refusedFrom : Option Nat := none
  /-- Instant of the last usable estimate. -/
  usableAt : Nat := 0
  /-- The last epoch boundary that has passed (R381). -/
  lastBoundary : Nat := 0
  /-- Instant of the last 1PPS edge since TOD_NEXT_PPS was written, and of that write (R369). -/
  ppsAt : Option Nat := none
  todAt : Nat := 0
  /-- Departure of the 10 MHz input that the frequency is locked to, as part of ratePpb (R369). -/
  refPpb : Int := 0
  /-- Since when route n toward site s (4s + n) has disagreed, or agreed while flagged (R374). -/
  routeOff : Tab (Option Nat) := []
  routeOn : Tab (Option Nat) := []
  deriving DecidableEq, Repr

/-- Sites in touch and the applied tiles (chapter 17). Bitmaps have bit s for site s. -/
structure SiteSt where
  /-- SITE_INDEX and GATEWAY_INDEX of the sheet that was active last (R118, R384). -/
  own : Option (Nat × Nat) := none
  /-- Far sites with evidence since the last activation, or in touch at it (R384). -/
  evidence : Nat := 0
  outOfTouch : Nat := 0
  /-- Sites for which PEER_LOST is declared. -/
  lost : Nat := 0
  /-- Instant of the last verified parcel or authenticated frame from site s. -/
  evidenceAt : Tab Nat := []
  /-- The APPLIED map, by words of 64 shard tiles (R388). -/
  applied : Tab Nat := []
  deriving DecidableEq, Repr

/-- What waits on the sending side of a stream, in order: bytes of device memory, read when the parcel is
formed or re-sent (R352), in elements of `w` bytes that travel in network order (R60), wire bytes `off` to
`off + len` of the tensor at `base`; bytes a unit made itself, such as a counted-tensor header (R142); the
end of a cue or tensor that pads its parcel (R109); a remote token (R123). `pos` is the cue that owns them. -/
inductive TxItem
  | mem (base off len w pos : Nat)
  | lit (bytes : List Byte) (pos : Nat)
  | flush
  | token (obj n : Nat)
  deriving DecidableEq, Repr

/-- A parcel released on a stream (R277, R345): its PSN, offset, payload, token field (Table 12.6,
TOKEN) and the tags of the sheet that released it. -/
structure Parcel where
  stream : Nat
  psn : Nat
  offset : Nat
  items : List TxItem
  data : List Byte
  token : Nat
  jobTag : Nat
  revision : Nat
  resend : Bool := false
  deriving DecidableEq, Repr

/-- A parcel delivered on a stream: its bytes stay until a cue or the chorus engine has taken them. -/
structure RxParcel where
  psn : Nat
  offset : Nat
  data : List Byte
  token : Nat
  jobTag : Nat
  revision : Nat
  deriving DecidableEq, Repr

/-- A stretch of a stream's inbound byte sequence that a cue covers (R277, R345): where its bytes go
(none: discarded), in elements of `w` bytes (R60), and how many are still to come. -/
structure Cover where
  start : Nat
  len : Nat
  dest : Option Nat
  w : Nat
  pos : Nat
  left : Nat
  /-- The parts of the stretch that have come, as stream positions (from, past). -/
  got : List (Nat × Nat) := []
  /-- Where it goes still holds an earlier outer step that has not been combined: nothing lands yet (R23). -/
  closed : Bool := false
  deriving DecidableEq, Repr

/-- The sender's record of a host parcel (R351). -/
structure HostRec where
  par : Parcel
  head : List Byte
  crc : Nat
  deriving DecidableEq, Repr

/-- The live context of one stream: the fields of Table 5.3 and of its kind, and what the transports keep.
PSNs and limits are 32-bit modular numbers. -/
structure StreamCtx where
  /-- The 64-byte entry the context was loaded from, or 0 while there is none. -/
  entry : Nat := 0
  /-- The reason code of event STREAM_FAILED, once failed. -/
  failed : Option Nat := none
  txLimit : Nat := 0
  /-- INITIAL_CREDIT of the entry it was loaded from; HOST: acknowledged parcels whose credit is not back (R24). -/
  txStart : Nat := 0
  owed : List Parcel := []
  txPsn : Nat := 0
  /-- Stream position of the next byte to put into a parcel, and what waits behind it. -/
  txOffset : Nat := 0
  txQ : List TxItem := []
  /-- Parcels released and not yet sent (HOST) or encrypted (LINE). -/
  outQ : List Parcel := []
  /-- Next PSN with a lower one missing, oldest parcel not taken, and the parcels kept. -/
  rxPsn : Nat := 0
  rxOld : Nat := 0
  rxPars : List RxParcel := []
  /-- Position up to which cues cover the inbound bytes, and the stretches still filling. -/
  rxCover : Nat := 0
  covers : List Cover := []
  /-- The limit granted to the far end, and the credit the sender was last told. -/
  rxLimit : Nat := 0
  /-- Collective framing lost (R148), and bytes of an aborted tensor still to discard (R152). -/
  lostFraming : Bool := false
  parcelsOut : Nat := 0
  parcelsIn : Nat := 0
  tokensOut : Nat := 0
  tokensIn : Nat := 0
  /-- HOST: acknowledged PSN, records, attempts, instants in port UP time, gaps, current port. -/
  acked : Nat := 0
  recs : List HostRec := []
  resendQ : List Nat := []
  attempts : Nat := 0
  lastTx : Nat := 0
  gapActed : Option Nat := none
  gapSeq : Nat := 0
  gapAt : Option Nat := none
  /-- The expected PSN that the last GAP named, and the next inbound byte position (HOST). -/
  gapPsn : Nat := 0
  rxOffset : Nat := 0
  /-- When the last attempt was made (R356). -/
  attemptAt : Nat := 0
  port : Nat := 0
  creditSent : Nat := 0
  ackSent : Nat := 0
  /-- Feedback due: since when, and whether at once. -/
  fbSince : Option Nat := none
  fbNow : Bool := false
  gapDue : Bool := false
  failDue : Bool := false
  /-- Shaper credit and its instant, meter buckets and their instant; in parcels × 10⁹. -/
  shaper : Nat := 0
  shaperAt : Nat := 0
  meterP : Nat := 0
  meterC : Nat := 0
  meterAt : Nat := 0
  /-- Parcels held for the armed sheet (R352). -/
  armedHeld : List RxParcel := []
  /-- LINE: the previous sheet's stream of this index is still draining (R119). -/
  draining : Bool := false
  deriving DecidableEq, Repr

/-- A cue that has been dispatched and has not ended (R129). -/
structure Running where
  pos : Nat
  idx : Nat
  iter : Nat
  time : Nat
  /-- The cells' shares of a cue (R84); cells whose share waits for a retry; cells that retries have taken, and the shares
  they redo there; tiles that retries write again; tiles for which a recompute passed (R95). -/
  shares : List CellShare := []
  waiting : List Nat := []
  onto : List Nat := []
  redo : List CellShare := []
  retried : List Nat := []
  recomputed : List Nat := []
  flags : Nat := 0
  /-- The status it must end with when it cannot complete. -/
  fate : Option Nat := none
  /-- Its accesses are held, so its work has not begun; the disturbances of the checks it will make (R198). -/
  idle : Option (List CellFault) := none
  /-- Stream position that must be reached, or pieces, blocks or bytes done, by class. -/
  goal : Nat := 0
  done : Nat := 0
  deriving DecidableEq, Repr

/-- The cells that its shares are on. -/
def Running.cells (r : Running) : List Nat := r.shares.map (fun h => h.cell.val)

/-- A remote token as it arrived (R123, R124). -/
structure RemoteToken where
  stream : Nat
  obj : Nat
  n : Nat
  jobTag : Nat
  revision : Nat
  deriving DecidableEq, Repr

/-- The completion ring of a sheet (R131): records written into it, base, log2 of its size. -/
structure Ring where
  count : Nat
  base : Nat
  log2 : Nat
  deriving DecidableEq, Repr

/-- What a LINE_IN cue lands for one outer step: its position and iteration, the region, and the positions of the cues that
read it and have not ended COMPLETE (R23). -/
structure Region where
  pos : Nat
  iter : Nat
  addr : Nat
  len : Nat
  readers : List Nat
  deriving DecidableEq, Repr

/-- The cue engine (chapter 05). Positions count in the unrolled order from 0. -/
structure Engine where
  /-- Per queue: positions before this one have been taken by the queue. -/
  qpos : Tab Nat := []
  running : List Running := []
  /-- End status + 1 of positions that have ended, from the first position of pass c − 1 on (R134). -/
  ended : Tab Nat := []
  /-- Oldest position not ended, and the last that ended. -/
  oldest : Nat := 0
  lastEnded : Nat := 0
  marks : List Nat := []
  /-- Positions whose tokens are taken and which wait for a unit. -/
  taken : List Nat := []
  /-- When each of them took its tokens [network time] + 1. -/
  takenAt : Tab Nat := []
  /-- Positions below this one have been read; those of them that mismatched: 2 once, 3 twice (R111, R130). -/
  fetchedTo : Nat := 0
  fetched : Tab Nat := []
  /-- The first BARRIER or HANDOVER that ended otherwise than COMPLETE: nothing behind it runs (R128). -/
  wall : Option Nat := none
  /-- Positions whose hold has been counted: for quorum, for STATE_STEP, for a range (R389, R164). -/
  heldQuorum : List Nat := []
  heldState : List Nat := []
  heldRange : List Nat := []
  /-- Instances each group's queue has passed (R145). -/
  instances : Tab Nat := []
  /-- Remote tokens held for the armed sheet (R124). -/
  held : List RemoteToken := []
  sync : Tab Nat := []
  /-- Completion rings of the sheets activated, newest first (R131). -/
  rings : List Ring := []
  /-- Landing regions of LINE_IN cues that have not been combined, by position (R23). -/
  regions : List Region := []
  deriving DecidableEq, Repr

/-- A sheet slot beyond its objects: a SEAL in progress, and the objects SEAL copied (R158, R204, R429). -/
structure SlotSt where
  sealing : Bool := false
  copies : Tab Nat := []
  /-- The epoch that ARM took from ARM_EPOCH (R115), and whether ACTIVATION_DEFERRED has been written since (R116). -/
  epoch : Nat := 0
  deferred : Bool := false
  deriving DecidableEq, Repr

/-- A member of a collective instance whose header has been accepted. -/
structure Member where
  index : Nat
  count : Nat
  /-- Where its values stand in device memory. -/
  base : Nat
  /-- Its stream and the stream position of its first value; none for the self member. -/
  source : Option (Nat × Nat)
  deriving DecidableEq, Repr

/-- The collective instance a group runs (chapter 06). -/
structure Instance where
  pos : Nat
  num : Nat
  since : Nat
  members : List Member := []
  /-- Members whose landed values are poisoned (R151). -/
  poisoned : List Nat := []
  /-- Result tiles written; how many of them, in order, have been sent under OUT_RESULT; whether the result header has. -/
  tiles : List Nat := []
  sent : Nat := 0
  headerOut : Bool := false
  /-- Its accesses to the self contribution are held, so the self header has not been examined (R198). -/
  selfIdle : Bool := false
  deriving DecidableEq, Repr

/-- What a group reports of its last instance (Table 6.10): its number, L, its members, and the instances that
ended COMPLETE. -/
structure GroupInfo where
  num : Nat := 0
  count : Nat := 0
  members : Nat := 0
  completed : Nat := 0
  deriving DecidableEq, Repr

/-- A running UPDATE cue's progress (chapter 07): shard tiles whose piece is written or held, parameters done of each
of the range's own tiles, and journal blocks written. -/
structure UpdateRun where
  pos : Nat
  pieces : List Nat := []
  recs : Tab Nat := []
  blocks : Nat := 0
  deriving DecidableEq, Repr

/-- A piece held until its whole shard tile is covered (R479): plane bytes waiting, as (address, bytes). -/
structure HeldPiece where
  tile : Nat
  first : Nat
  count : Nat
  pos : Nat
  step : Nat
  writes : List (Nat × List Byte)
  deriving DecidableEq, Repr

/-- The optimizer sequencer (chapter 07). -/
structure OptSt where
  /-- S0, and whether OUTER_STEP_START was written since the activation (R167). -/
  base : Nat := 0
  written : Bool := false
  runs : List UpdateRun := []
  held : List HeldPiece := []
  /-- Blocks that journal entry e holds under table slot k, at 4e + k (R188). -/
  journal : Tab Nat := []
  /-- The outer step + 1 for which journal entry e has been opened since the activation (R168). -/
  opened : Tab Nat := []
  deriving DecidableEq, Repr

/-- A damaged block being resolved (R186): the cue, the block, its address, whether it has been re-requested (else it
is being reread), and the table slot it is charged to (R188). -/
structure Damage where
  pos : Nat
  block : Nat
  addr : Nat
  requested : Bool
  slot : Nat
  deriving DecidableEq, Repr

/-- One pool buffer that is not free (chapter 09). -/
structure Buffer where
  owner : Nat
  /-- Claimants while shared; empty while unshared. -/
  claims : List Nat := []
  last : Nat := 0
  pendingFree : Bool := false
  deriving DecidableEq, Repr

/-- Hubs and pool beyond their objects (chapter 09). -/
structure MemSt where
  /-- Lines that a read of the cue engine (1) or of a decoder (2) has just poisoned: that read's own operation finds the
  poison without reading the line again (R200). -/
  fresh : List (Nat × Nat) := []
  /-- Instants of the training losses of hub h. -/
  losses : Tab (List Nat) := []
  failedHubs : Nat := 0
  buffers : Tab (Option Buffer) := []
  /-- ALLOCATEs deferred, in order: the owner, and the store that wants the buffer (R211). -/
  deferred : List (Nat × Option Nat) := []
  /-- Owners told of a completed FREE whose deferred ALLOCATE has not been retried since. -/
  retry : List Nat := []
  /-- Buffers that a store holds, newest first, as (owner, buffer). Stores: parcels of stream i before a cue takes them,
  at i, and held for the armed sheet, at 16,384 + i; the retransmit store of route n, at 32,768 + n; its deskew and
  stripe hold, at 32,772 + n (R241, R277, R280, R285, R348, R352). -/
  stores : Tab (List (Nat × Nat)) := []
  deriving DecidableEq, Repr

/-- A data parcel of a link under encryption: its 4,144-byte coded body (R273), stream and PSN, key epoch. -/
structure Body where
  stream : Nat
  /-- The receiver's index of the stream: PEER_STREAM when it was encrypted. -/
  peer : Nat
  psn : Nat
  epoch : Nat
  /-- The LINE_OUT cues whose bytes it holds, and whether it holds stream bytes or a token alone. -/
  owners : List Nat
  bytes : List Byte
  /-- The parcel before encryption, until it is route-coded (R152). -/
  par : Option Parcel := none
  deriving DecidableEq, Repr

/-- One stored position of a stripe at the sender (R285): none for a NULL position. -/
structure TxPos where
  body : Option Body
  parity : Bool
  /-- The memory line or word of it that reads poisoned. -/
  poisoned : Option Nat := none
  deriving DecidableEq, Repr

/-- A stripe the sender stores (R272, R285-R287). -/
structure TxStripe where
  ssn : Nat
  nullMap : Nat
  positions : List TxPos
  /-- Instant of the ACK that covers it. -/
  closedAt : Option Nat := none
  /-- The ABANDON sent for it, once failed. -/
  abandoned : Option (List Byte) := none
  /-- Number of the NAK last acted on. -/
  lastNak : Option Nat := none
  attempts : Nat := 0
  lastTx : Nat := 0
  deriving DecidableEq, Repr

/-- A parcel waiting for a slot of its line group: the 4,160 bytes, re-sends first (R274, R285). -/
structure SlotParcel where
  lg : Nat
  ssn : Nat
  resend : Bool
  bytes : List Byte
  deriving DecidableEq, Repr

/-- A stripe open at the receiver (R280, R281). -/
structure RxStripe where
  ssn : Nat
  nullMap : Nat
  /-- Received bodies by position. -/
  bodies : List (Nat × List Byte) := []
  erased : Nat := 0
  delivered : Nat := 0
  rebuilt : Bool := false
  first : Nat := 0
  /-- The instant T_HOLE runs from, and NAKs sent. -/
  holdFrom : Nat := 0
  naks : Nat := 0
  nakOut : Bool := false
  /-- Sets of bodies that did not rebuild a position: the position, then those of the set (R280). -/
  tried : List (List Nat) := []
  deriving DecidableEq, Repr

/-- A re-request waiting for its answer (R287). -/
structure Rereq where
  stream : Nat
  psn : Nat
  num : Nat
  tries : Nat
  at_ : Nat
  /-- The DECOMPRESS cue that waits, and the outcome once there is one. -/
  pos : Nat
  outcome : Option Bool := none
  deriving DecidableEq, Repr

/-- Where bytes of a parcel of a LINE stream were written: the region R186 re-requests from. -/
structure Landing where
  stream : Nat
  psn : Nat
  /-- Byte of the parcel's data from which on `len` bytes are the bytes from `at_` on of a tensor at `base`, of elements of
  `w` bytes (R60). -/
  from_ : Nat
  base : Nat
  at_ : Nat
  len : Nat
  w : Nat
  deriving DecidableEq, Repr

/-- A read of stored parcels that a hub holds (R198): an attempt on a stripe, as `State.attempt` takes it, or a parcel that a
REREQ asks for, by stream and PSN, with the line found poisoned. -/
inductive StoreRead
  | attempt (ssn : Nat) (needed : List Nat) (timer : Bool)
  | again (stream psn : Nat) (poison : Option Nat)
  deriving DecidableEq, Repr

/-- One link (chapter 12): the sender's and the receiver's side. Numbers 0 to 15 are the links of the active
sheet; 16 and above those of earlier sheets that still drain (R119). -/
structure LinkSt where
  /-- The 64-byte link entry it runs under; 0 while not in use. Its number in the sheet it was loaded from. -/
  entry : Nat := 0
  num : Nat := 0
  inUse : Bool := false
  rxEnded : Bool := false
  failed : Bool := false
  /-- Sender. -/
  ssn : Nat := 0
  ready : List Body := []
  stripes : List TxStripe := []
  slots : List SlotParcel := []
  /-- Reads of stored parcels that a hub holds, oldest first (R198). -/
  reads : List StoreRead := []
  drainedEpoch : Option Nat := none
  drainedMf : Nat := 0
  /-- Key epochs of the parcels it has stored, but for those that DRAINED has covered (R288). -/
  epochs : List Nat := []
  /-- Streams of an earlier sheet whose failure on this link has been reported (R119, R286). -/
  failedStreams : List Nat := []
  /-- Receiver. -/
  cum : Nat := 0
  open_ : List RxStripe := []
  closed : List Nat := []
  failedStripes : List Nat := []
  /-- The stripe after the latest one seen in the ordered slots of position i (R281). -/
  seen : Tab (Option Nat) := []
  excess : Nat := 0
  excessFrom : Tab (Option Nat) := []
  rereqs : List Rereq := []
  rereqNum : Nat := 0
  /-- DRAINED received: (epoch, local instant of the first one) (R288, R305). -/
  drainedRx : List (Nat × Nat) := []
  /-- Instant at which the link failed (R286, R305). -/
  failedAt : Nat := 0
  deriving DecidableEq, Repr

/-- A substitution or member-set change being announced on a route (R236): 1 begins, 2 ends, 3 members. -/
structure Ann where
  kind : Nat
  field : Nat
  value : Nat
  /-- Multiframe number of its first multiframe, once started. -/
  start : Option Nat := none
  /-- A diversion begins or ends with the member change (R361). -/
  channel : Nat := 0
  deriving DecidableEq, Repr

/-- The route-level fields of the framer (R235-R242). -/
structure RouteSt where
  txMembers : Nat := 0
  txSubst0 : Nat := 0
  txSubst1 : Nat := 0
  ann : Option Ann := none
  queue : List Ann := []
  /-- Last multiframe whose start was processed, and the one in which the last announcement took effect. -/
  txMf : Option Nat := none
  annEnd : Nat := 0
  rxMembers : Nat := 0
  rxSubst0 : Nat := 0
  rxSubst1 : Nat := 0
  /-- The receive values hold from LFN `rxFrom` on; the ones before it. -/
  rxFrom : Nat := 0
  rxOldMembers : Nat := 0
  rxOldSubst0 : Nat := 0
  rxOldSubst1 : Nat := 0
  /-- Last multiframe read; the announcement being received; values to adopt unannounced (R236):
  (from LFN, members, SUBST0, SUBST1). -/
  rxMf : Option Nat := none
  rxAnn : Option Ann := none
  rxAdopt : Option (Nat × Nat × Nat × Nat) := none
  /-- RX_REQUEST received in the last multiframe, and the value acted on (R242). -/
  rxReqLast : Nat := 0
  rxReq : Nat := 0
  /-- The value this end sends, latched at the multiframe start (R221). -/
  myReq : Nat := 0
  /-- Alignment points of the route's groups, transmit and receive [LFN], newest first, at most four. -/
  alignTx : List Nat := []
  alignRx : List Nat := []
  deriving DecidableEq, Repr

/-- A frame's payload held for deskew (R241). -/
structure HeldFrame where
  lfn : Nat
  payload : List Byte
  deriving DecidableEq, Repr

/-- The framer's state of one channel (chapter 10) and its sampled defects (chapter 11). -/
structure ChannelSt where
  inFrame : Bool := false
  fasGood : Nat := 0
  fasBad : Nat := 0
  mfAligned : Bool := false
  mfBad : Nat := 0
  /-- When the last frame arrived [local ns]. -/
  lastAt : Nat := 0
  lastMfas : Option Nat := none
  lfnValid : Bool := false
  /-- LFN of the last frame by the receiver's own count, octet bytes so far, last octet, bad octets. -/
  rxLfn : Nat := 0
  octet : List Nat := []
  lastOctet : Option Nat := none
  octetBad : Nat := 0
  /-- Trace bytes of this cycle, the last trace and how often it repeated. -/
  trace : List Byte := []
  lastTrace : List Byte := []
  traceRuns : Nat := 0
  traceAccepted : Bool := false
  traceMismatch : Bool := false
  /-- CHANNEL_ID[7] of the last frame received. -/
  foreignRx : Bool := false
  /-- BIP of the last good frame: its LFN and the exclusive OR computed over it. -/
  bip : Option (Nat × Nat) := none
  held : List HeldFrame := []
  excessSkew : Bool := false
  joined : Bool := false
  /-- Transmit: LFN of the last frame sent, BIP of its payload, BEI to report. -/
  txLfn : Option Nat := none
  /-- LFNs of the frames sent on it, in runs (first, last), the latest first (R372). -/
  sent : List (Nat × Nat) := []
  txBip : Nat := 0
  bei : Nat := 0
  /-- Last BACKWARD received and whether it came since the last sample. -/
  backward : Nat := 0
  bdiRun : Nat := 0
  bdiClear : Nat := 0
  /-- Time transfer: stamps of received frames (LFN, m in 2⁻¹⁶ ns), what the far end reported. -/
  rxStamp : Option (Nat × Int) := none
  /-- Sums of m_in − m_out and m_in + m_out over the frames paired since the last estimate, and their number. -/
  ttDiff : Int := 0
  ttSum : Int := 0
  ttCount : Nat := 0
  /-- Defects declared (bit d), entry and exit runs, samples clear for RXFAIL, degraded-second runs. -/
  defects : Nat := 0
  entry : Tab Nat := []
  exit : Tab Nat := []
  rxFail : Bool := false
  rxClear : Nat := 0
  txFail : Bool := false
  degRun : Nat := 0
  goodRun : Nat := 0
  /-- Since when the channel has been clear of failure and request (R237). -/
  clearFrom : Option Nat := none
  /-- Per-second counters 0 to 8 in the order of Table 11.5, and what the second has seen. -/
  second : Tab Nat := []
  seen : Nat := 0
  oos : Bool := false
  /-- Out of service at the last sample (Table 11.6, LOCAL_OOS). -/
  oosNow : Bool := false
  /-- LOS, LOF or LOM was declared at a sample of this second (R255). -/
  losSeen : Bool := false
  deriving DecidableEq, Repr

/-- A block queue of a foreign channel (R245), and the justification in force. -/
structure ForeignSt where
  owner : Nat
  wc : Nat
  blocks : List (List Byte) := []
  /-- Where frames begin in the queue: (blocks before it, LFN, page, members). -/
  heads : List (Nat × Nat × Nat × Nat) := []
  jc : Nat := 0
  started : Bool := false
  /-- The owner's member set of the route, as its last ring parcel told it (Table 10.8, F_MEMBERS). -/
  members : Nat := 0
  deriving DecidableEq, Repr

/-- A foreign channel as it is received on a channel, to be passed on over the ring (R244-R246, Table 15.9
step 6): where the next block lies in the owner's frames, the JC copies of this multiframe, and the blocks
that wait for a ring parcel as (LFN, payload block, page, members, block). -/
structure ForeignRx where
  owner : Nat
  wc : Nat
  rate : Nat
  next : Option (Nat × Nat × Nat × Nat) := none
  votes : List Nat := []
  /-- LFN of the frame read last. -/
  last : Option Nat := none
  buf : List (Nat × Nat × Nat × Nat × List Byte) := []
  deriving DecidableEq, Repr

/-- A line group's place in its byte stream, in one direction: the alignment point it counts from, the bytes
passed since, what is left of the slot being sent or what has come of the slot being received, and whether
some of that was lost. -/
structure GroupPos where
  align : Nat
  pos : Nat
  rest : List Byte := []
  bad : Bool := false
  /-- The bundle it was received on: route and far site. -/
  home : Nat × Nat := (0, 0)
  deriving DecidableEq, Repr

/-- The framer beyond its channels and routes. -/
structure FramerSt where
  /-- The bytes of each line group in the frame being sent, and that frame's LFN. -/
  txLfn : Option Nat := none
  txBytes : Tab (List Byte) := []
  txPos : Tab (Option GroupPos) := []
  rxPos : Tab (Option GroupPos) := []
  /-- LFN of the frame rebuilt last of the bundle of route n toward site f, at 8n + f (R241). -/
  rxDone : Tab (Option Nat) := []
  /-- Switch frames of the last page switches, newest first, at most four. -/
  switches : List Nat := []
  /-- ARQ messages waiting: (message bytes, link, times left by route). -/
  msgs : List (List Byte × Nat × List Nat) := []
  /-- Messages acted on: the message, the site it came from, bit n for each route that has brought a copy, and
  when the first came. -/
  acted : List (List Byte × Nat × Nat × Nat) := []
  /-- Channel entries of the plan that was active last: links that drain after RETIRE send on them (R118). -/
  lastPlan : List Nat := []
  deriving DecidableEq, Repr

/-- Instants and counts of the defect logic that belong to sites and bundles (chapter 11). -/
structure DefectSt where
  /-- When the PEER_LOST holdoff toward site s ends while no link can close stripes; since when link l can. -/
  lossDue : Tab (Option Nat) := []
  okFrom : Tab (Option Nat) := []
  /-- Bundles of route n found down at the last sample, bit s for site s (R257). -/
  bundleDown : Tab Nat := []
  /-- Latched records: (SECOND_SEQ, channel records), newest first, at most 1,024. -/
  records : List (Nat × List Nat) := []
  lastLatch : Nat := 0
  partialNext : Bool := true
  /-- LFN of the frame period of the last sample (R250). -/
  lastSample : Option Nat := none
  /-- Second at which the health scores decayed last (R400). -/
  lastDecay : Nat := 0
  /-- Pre-FEC symbol error ratios of host lanes over the second so far, as last read (R401). -/
  laneSer : List LaneRatio := []
  /-- DEG_THRESHOLD, DEG_SECONDS, DEG_ACTION and TIM_ACTION in force (R268). -/
  degThreshold : Nat := 15625
  degSeconds : Nat := 7
  degAction : Nat := 0
  timAction : Nat := 1
  deriving DecidableEq, Repr

/-- One direction's use of a port's understudy lane (R341-R343). -/
structure LaneSwitch where
  ready : Bool := false
  /-- Working lane asked for, bridged, rolled. -/
  asked : Option Nat := none
  bridged : Option Nat := none
  rolled : Option Nat := none
  /-- Since when lane messages have been decoded without a gap, and the instant of the last one (R341). -/
  heard : Option Nat := none
  last : Nat := 0
  deriving DecidableEq, Repr

/-- One host port (chapter 15). -/
structure PortSt where
  up : Bool := false
  /-- Instant of the last change, UP time before it, and the last instant at which alignment or freedom from faults ended
  (R340). -/
  since : Nat := 0
  upBefore : Nat := 0
  badAt : Nat := 0
  localFault : Bool := false
  remoteFault : Bool := false
  rx : LaneSwitch := {}
  tx : LaneSwitch := {}
  /-- Working lanes failed in the receive direction. -/
  failedRx : Nat := 0
  stuck : Bool := false
  /-- Last stream served, and parcels it may still send in its turn. -/
  cursor : Nat := 0
  turn : Nat := 0
  /-- Ring link: consecutive good hellos and the instant of the last one. -/
  hellos : Nat := 0
  helloAt : Option Nat := none
  ringUp : Bool := false
  /-- Ring parcels waiting to be sent. -/
  ringQ : List (List Byte) := []
  deriving DecidableEq, Repr

/-- A diversion (R361, R362). As owner: the channel, the port it goes over, the carrying understudy. As
carrier: the owner's position, its channel, and our understudy. -/
structure Diversion where
  owner : Bool
  wc : Nat
  port : Nat
  under : Nat
  pos : Nat
  /-- Far site of the channel. -/
  site : Nat
  started : Bool := false
  /-- Owner: it has ended, and the channel's removal from the member set has not taken effect yet. -/
  ending : Bool := false
  /-- Owner: blocks that wait for a ring parcel, as in `ForeignRx`. -/
  buf : List (Nat × Nat × Nat × Nat × List Byte) := []
  deriving DecidableEq, Repr

/-- The frame of a diverted channel being read from the ring (R246). -/
structure RingFrame where
  lfn : Nat
  page : Nat
  members : Nat
  blocks : List (List Byte) := []
  deriving DecidableEq, Repr

/-- The buddy ring beyond the ports. -/
structure RingSt where
  divs : List Diversion := []
  /-- Channels whose request is outstanding: (channel, port asked). -/
  asked : List (Nat × Nat) := []
  /-- When the last hello was sent (R359). -/
  helloTx : Option Nat := none
  /-- Owner side: the frame being read of each channel that comes over the ring, and the port it comes by. -/
  rx : Tab (Option RingFrame) := []
  rxPort : Tab (Option Nat) := []
  /-- When the last whole frame of a channel came over the ring [local ns] + 1. -/
  rxAt : Tab Nat := []
  /-- Channels that the far end diverts, bit c (R243). -/
  rxDiv : Nat := 0
  /-- Foreign channels received on our channels. -/
  foreignRx : Tab (Option ForeignRx) := []
  deriving DecidableEq, Repr

/-- What the block sends or shows outside. -/
inductive Output
  /-- A JDP response on transport 0 (management) or 1 (bus). -/
  | jdp (transport : Nat) (pdu : List Byte)
  /-- An answer of the management port to a solicitation or an echo request. -/
  | mgmt (frame : List Byte)
  /-- A line frame: channel, LFN, its 125 blocks (R219). -/
  | line (channel lfn : Nat) (frame : List Byte)
  /-- A frame of a host port. -/
  | host (port : Nat) (frame : List Byte)
  /-- A channel's pilot tone [kHz] and the word it carries (R321). -/
  | pilot (channel khz word : Nat)
  /-- The 1PPS output rises at this second of network time; the 10 MHz output, locked to network time, begins or ends
  (R370). -/
  | pps (second : Nat)
  | tenMhz (on : Bool)
  /-- The state that lane messages carry from now on: port, state and lane of Table 15.6. -/
  | lane (port state lane : Nat)
  /-- A port's reconciliation sublayer begins or ends sending remote fault (R337). -/
  | remoteFault (port : Nat) (sent : Bool)
  /-- A plaintext delivered by the receive channel of the cipher on its own. -/
  | plain (bytes : List Byte)
  /-- An output that the boundary register drives (R465): one of the 22 low-speed pins from 0 in the order of Table 21.4, or
  a transmit pair from 22, MGMT_TX and then the host lanes. -/
  | boundary (output : Nat) (value : Bool)
  /-- What TDO shows during a scan of a data register, in its order (R465). -/
  | tdo (bits : List Bool)
  /-- A reset, darkening, idling or similar act of a pin or an optic, by name. -/
  | pin (name : String) (value : Nat)
  deriving DecidableEq, Repr

/-- A key epoch held for a site pair (R297, R303, R305). -/
structure KeyEpoch where
  epoch : Nat
  key : List Nat
  /-- When its overlap window ends [local ns], once started. -/
  windowEnd : Option Nat := none
  deriving DecidableEq, Repr

/-- The keys of one site pair: held epochs from the oldest, which of them transmits. -/
structure PairSt where
  held : List KeyEpoch := []
  /-- Number of the transmit epoch among the held ones. -/
  tx : Option Nat := none
  /-- Pending switch: the next epoch and the network epoch E. -/
  pending : Option (Nat × Nat) := none
  ivCount : Nat := 0
  /-- Second of network time of the last PARCEL_AUTH_FAILED + 1, and failures since. -/
  authSecond : Nat := 0
  authFails : Nat := 0
  deriving DecidableEq, Repr

/-- The cipher engine beyond its objects (chapter 13). -/
structure CipherSt where
  klk : Option (List Nat) := none
  sak : Option (List Nat) := none
  pairs : Tab PairSt := []
  /-- Instants + 1 of the last mismatch of lane l (0-9 transmit, 10-19 receive). -/
  mismatch : Tab Nat := []
  /-- Lanes that mismatch on the parcels which the command in hand still verifies, parcel by parcel (R308). -/
  due : List (List Nat) := []
  /-- Supply conditions that persist: bit 0 the core rail, bit 1 another rail (R310). -/
  supplies : Nat := 0
  deriving DecidableEq, Repr

/-- Why a channel waits for substitutions (R327, R330). -/
inductive WaitReason
  | none | calibrate | disable
  deriving DecidableEq, Repr

/-- The optical control block's view of one channel (chapter 14). -/
structure OpticSt where
  /-- Since when every fine reading has exceeded ±2.5 GHz; coarse readings out of order in a row. -/
  fineFrom : Option Nat := none
  coarseRun : Nat := 0
  /-- Instant at which the hold after a locked sweep ends, or a wait expires. -/
  holdUntil : Option Nat := none
  waitUntil : Option Nat := none
  wait : WaitReason := .none
  /-- A graceful disable arrived in CALIBRATING. -/
  disableAfter : Bool := false
  pilotRun : Nat := 0
  wordRun : Nat := 0
  pilotBadAt : Option Nat := none
  nextRate : Nat := 0
  /-- When it was last calibrated, or its calibration deferred to the next period (R327). -/
  calibratedAt : Option Nat := none
  /-- Its sweep has failed: LASER_FAILED, which DARK hides while it lasts (Table 14.4). -/
  laserFailed : Bool := false
  /-- Since when the transmit tap has read more than 3 dB below LAUNCH_POWER (R325). -/
  lowFrom : Option Nat := none
  deriving DecidableEq, Repr

/-- One optical engine: instants of training losses, rota cursor, channel named by CAL_REQUEST. -/
structure EngineSt where
  losses : List Nat := []
  cursor : Nat := 0
  calNext : Option Nat := none
  deriving DecidableEq, Repr

/-- The power manager (chapter 02). Draw in mW. -/
structure PowerSt where
  belowFloor : Bool := false
  /-- Instant of the last step of the voltage request. -/
  lastStepAt : Option Nat := none
  slewInForce : Nat := 200
  ballast : Nat := 0
  throttled : Bool := false
  /-- Pre-ramp target draw [mW] while one runs. -/
  preramp : Option Nat := none
  /-- Draw at the last ticks [mW], newest first, at most 500. -/
  draws : List Nat := []
  /-- The change of draw since the last reset that R46 exempts [mW], and whether the next change is exempt. -/
  exempt : Int := 0
  exemptDue : Bool := false
  /-- The change of draw at entry into the Safe state goes on: the rail has not yet come down to the line floor (R444). -/
  safeEntry : Bool := false
  /-- The draw without the exempt changes at the last ticks [mW], newest first, at most 100; its mean over 100 ms at
  each of them. -/
  adjusted : List Int := []
  means : List Int := []
  /-- Highest and lowest mean that R43 allows at this tick [mW]. -/
  bounds : Option (Int × Int) := none
  notHeld : Bool := false
  /-- Ballast energy below one joule [µJ]. -/
  energyRest : Nat := 0
  /-- Rails outside their tolerance at the last reading, bit n − 1 for rail n. -/
  railsOut : Nat := 0
  /-- The power plan entry in force: that of the cue dispatched last among those the plan names (R107). -/
  planAt : Option Nat := none
  deriving DecidableEq, Repr

/-- One cached response (R416): HSN, CRC-32 of the request, the response PDU, its summary. -/
structure CacheEntry where
  hsn : Nat
  reqCrc : Nat
  pdu : List Byte
  summary : Nat
  deriving DecidableEq, Repr

/-- A JDP session (R415, R416): cached responses, newest first, at most eight. -/
structure Session where
  cache : List CacheEntry := []
  deriving DecidableEq, Repr

/-- A check-value unit beyond its objects (chapter 19): the CHECK cue it runs, and whether it scans. -/
structure CvSt where
  cue : Option Nat := none
  scanning : Bool := false
  deriving DecidableEq, Repr

/-- The wake settings in force during an Intermission, taken as it begins (R451, R452): the sample period [ms],
WAKE_ENABLE, the line threshold [0.5 dB], the ports with a pattern detector, the channels sampled (bit c), and the
ports sampled (bit p). -/
structure WakeCfg where
  period : Nat := 0
  enable : Nat := 0
  threshold : Int := 0
  patterns : Nat := 0
  channels : Nat := 0
  ports : Nat := 0
  deriving DecidableEq, Repr

/-- Progress of power-up and of Intermission (chapter 20). -/
structure BootSt where
  /-- The instant from which Table 20.2 counts. -/
  released : Nat := 0
  bootDrawn : Bool := false
  mgmtUp : Bool := false
  coreUp : Bool := false
  linksUp : Bool := false
  rehearsalFrom : Nat := 0
  /-- What failed in rehearsal: the item of Table 20.3 and the element (R440, R441). -/
  failedItems : List (Nat × Nat) := []
  /-- The module holds itself in reset until PWR_GOOD rises (R461). -/
  held : Bool := false
  /-- A SOFT reset follows the response to the request that wrote RESET_REQUEST (R446). -/
  resetDue : Bool := false
  enterAt : Nat := 0
  exitAt : Nat := 0
  wake : WakeCfg := {}
  /-- The first wake of this Intermission has come (R454). -/
  woken : Bool := false
  /-- Writes stored for the exit of this Intermission, oldest first: object and value (R451). -/
  atExit : List (Nat × Nat) := []
  baseTaken : Bool := false
  /-- Channels and ports active at the baseline and since; those active in the last sample (R452). -/
  blockedCh : Nat := 0
  blockedPorts : Nat := 0
  lastCh : Nat := 0
  lastPorts : Nat := 0
  windowAt : Nat := 0
  hotFrom : Option Nat := none
  /-- Items 3 and 4 of Table 20.3 have run (R445). -/
  memTested : Bool := false
  /-- What the running rehearsal has found so far (R443). -/
  found : Option RehearsalFindings := none
  deriving DecidableEq, Repr

/-- The pins the block answers to. -/
structure Pins where
  resetN : Bool := true
  pwrGood : Bool := true
  /-- The boundary-scan instruction in force (R465); IDCODE after power-up (PRESUMED, log entry 85). -/
  tap : Nat := 0x01
  /-- The cells of the boundary register from TDO (R465). The spec gives them no reset value: DESIGN CHOICE, log entry 145. -/
  boundary : BitVec 501 := 0
  /-- The always-on domain drives VREQ; until then VREQ is high-impedance (R462). -/
  vreqDriven : Bool := false
  deriving DecidableEq, Repr

/-- One module (FX-3). Every field of type `Tab` lists what differs from its default. -/
structure State where
  /-- The commands that wait, first in, first out. -/
  pending : List Instr := []
  /-- The module's own elapsed time [ns], counted from the release of RESET_N. -/
  now : Nat := 0
  /-- Counter of free values used. DESIGN CHOICE, log entry 2. -/
  free : Nat := 0
  /-- Objects of the dictionary that differ from their reset value, by object number. -/
  objs : Tab Nat := []
  /-- Device memory: bytes that are not 0. -/
  mem : List Host.Cell := []
  /-- Poisoned lines of HBM and words of the staging store, by address, rising (R200). -/
  poison : List Nat := []
  /-- What has been sent or shown outside, in order, oldest first. -/
  out : List Output := []
  /-- Status of the last register command. -/
  answer : Nat := 0
  /-- The event ring, newest first, at most 4,096 records (R423). -/
  ring : List EventRec := []
  /-- Events written since the last reset: N of R423. -/
  events : Nat := 0
  /-- Health scores by element (class × 256 + index) and elements set FAILED (R400, R401). -/
  scores : Tab Nat := []
  failedEls : List Nat := []
  tm : TimeSt := {}
  site : SiteSt := {}
  eng : Engine := {}
  slot0 : SlotSt := {}
  slot1 : SlotSt := {}
  streams : Tab StreamCtx := []
  groups : Tab (Option Instance) := []
  groupInfo : Tab GroupInfo := []
  opt : OptSt := {}
  damages : List Damage := []
  landings : List Landing := []
  memSt : MemSt := {}
  links : Tab LinkSt := []
  framer : FramerSt := {}
  routes : Tab RouteSt := []
  chans : Tab ChannelSt := []
  foreign : Tab (Option ForeignSt) := []
  defects : DefectSt := {}
  ports : Tab PortSt := []
  ringSt : RingSt := {}
  cipher : CipherSt := {}
  optics : Tab OpticSt := []
  engines : Tab EngineSt := []
  /-- Instant at which the running monitor integration started (R334). -/
  monitor : Option Nat := none
  power : PowerSt := {}
  cells : Tab Nat := []
  jdp0 : Session := {}
  jdp1 : Session := {}
  /-- Management addresses still in force after a write of their objects, by object, each + 1 (R421). -/
  mgmtChange : Tab Nat := []
  cvs : Tab CvSt := []
  boot : BootSt := {}
  pins : Pins := {}
  deriving DecidableEq, Repr

/-- The machine right after a POWER_ON reset whose RESET_N has been released and whose boards power it:
every object at its reset value, nothing listed in memory, no sheet, no key, network time 0. -/
def State.reset : State := {}

end Sys2Proof.Machine
end

