-- ==== Sys2Proof/Machine/Ops.lean ====
section
/-! DEFINITION. The named operations over registers, memory, time, events and health scores that every
chapter shares. -/
namespace Sys2Proof.Machine

/-- Status codes of Table 18.4, of Table 19.5 and of chapter 20 (R422). -/
abbrev Status := Nat

abbrev stOk : Status := 0x0000
abbrev stStarted : Status := 0x0001
abbrev stTooLarge : Status := 0x0101
abbrev stSequenceGap : Status := 0x0102
abbrev stSequenceReused : Status := 0x0103
abbrev stSyncReadOnly : Status := 0x0104
abbrev stNotApplied : Status := 0x0105
abbrev stNoObject : Status := 0x0106
abbrev stTypeMismatch : Status := 0x0107
abbrev stReadOnly : Status := 0x0108
abbrev stAccessDenied : Status := 0x0109
abbrev stReservedNonzero : Status := 0x0200
abbrev stOutOfRange : Status := 0x0201
abbrev stInconsistent : Status := 0x0202
abbrev stSlotBusy : Status := 0x0203
abbrev stSafeState : Status := 0x0204
abbrev stEpochPassed : Status := 0x0205
abbrev stTooLate : Status := 0x0206
abbrev stSwitchPending : Status := 0x0207
abbrev stSheetCheckFailed : Status := 0x0300
abbrev stSheetVersion : Status := 0x0301
abbrev stMalformedSheet : Status := 0x0302
abbrev stPaceUnreachable : Status := 0x0303
abbrev stCapacityExceeded : Status := 0x0304
abbrev stMalformedCue : Status := 0x0305
abbrev stSyncConflict : Status := 0x0306
abbrev stJobMismatch : Status := 0x0307
abbrev stCarryMismatch : Status := 0x0308
abbrev stNoQuorum : Status := 0x0309
abbrev stStateUnknown : Status := 0x030A
abbrev stTimeoutBelowMinimum : Status := 0x030B
abbrev stTableInUse : Status := 0x030C
abbrev stTableInFlight : Status := 0x030D
abbrev stPageActive : Status := 0x0400
abbrev stChannelInService : Status := 0x0401
abbrev stCurtainActive : Status := 0x0500
abbrev stNoKey : Status := 0x0501
abbrev stReplayed : Status := 0x0502
abbrev stOutOfSequence : Status := 0x0503
abbrev stKeySlotsFull : Status := 0x0504
abbrev stAuthFailed : Status := 0x0505
abbrev stKeyInUse : Status := 0x0506
abbrev stCipherFault : Status := 0x0507
abbrev stUnitBusy : Status := 0x0600
abbrev stWrongState : Status := 0x0601
abbrev stElementFailed : Status := 0x0602

/-- The outcome of every command of this model: the machine goes on. -/
abbrev Result := Host.Outcome State Fault Refusal

/-- The module's own clock moves to the instant of a command; it never goes back. DESIGN CHOICE, log entry 6. -/
def State.tick (s : State) (t : Nat) : State := { s with now := max s.now t }

/-- An object's stored value: the listed one, else its value after reset (R9). -/
def State.obj (s : State) (o : Nat) : Nat := tget (objReset o) s.objs o

/-- Storing an object, cut to its width. -/
def State.setObj (s : State) (o v : Nat) : State :=
  { s with objs := tset (objReset o) s.objs o (v % 2 ^ objBits o) }

/-- Adding to a cumulative counter, which wraps at its width. -/
def State.bumpBy (s : State) (o n : Nat) : State := s.setObj o (s.obj o + n)

/-- Adding one to a cumulative counter. -/
def State.bump (s : State) (o : Nat) : State := s.bumpBy o 1

/-- Something the block sends or shows outside. -/
def State.emit (s : State) (x : Output) : State := { s with out := s.out ++ [x] }

/-- A free value: nothing constrains it (DESIGN CHOICE, log entry 2). -/
def State.takeFree (s : State) : Nat × State := (Config.freeValue s.free, { s with free := s.free + 1 })

/-- A register write's status goes back to the writer. -/
def State.reply (r : Status × State) : State := { r.2 with answer := r.1 }

/-- RESET_N or PWR_GOOD is low, or the module holds itself in reset. -/
def State.inReset (s : State) : Bool := !s.pins.resetN || !s.pins.pwrGood || s.boot.held

/-- EXTEST, EXTEST_PULSE and EXTEST_TRAIN. -/
def tapDrives (code : Nat) : Bool := code == 0x00 || code == 0x03 || code == 0x04

/-- The boundary register drives the management pins: JDP answers on neither transport (R465, R474). -/
def State.extest (s : State) : Bool := tapDrives s.pins.tap

/-- The management controller takes requests: it has booted, and is neither in reset nor cut off by EXTEST (R439, R461,
R474). -/
def State.answersRequests (s : State) : Bool := s.boot.mgmtUp && !s.inReset && !s.extest

/-- A request that writes: it is discarded while the management controller takes none. -/
def State.managed (s : State) (f : State → Status × State) : State := if s.answersRequests then State.reply (f s) else s

/-! ### Network time (R364, R365) -/

/-- Network time in picoseconds at local instant `t`. -/
def TimeSt.psAt (x : TimeSt) (t : Nat) : Int :=
  x.anchorPs + (t - x.anchorAt : Nat) * 1000 + (t - x.anchorAt : Nat) * x.ratePpb / 1000000

/-- Network time [ns], an unsigned 64-bit count. -/
def State.net (s : State) : Nat := toSigned 64 (s.tm.psAt s.now / 1000)

/-- The current epoch; it never decreases (R365, R381). -/
def State.epoch (s : State) : Nat := max s.tm.lastBoundary (s.net / 1000000)

/-- The local transmit line frame number (R218). -/
def State.lfn (s : State) : Nat := s.net / 640

/-! ### Events (R423-R425) -/

/-- Writing one event: it takes the next sequence, and the ring keeps the latest 4,096. -/
def State.event (s : State) (code subject value : Nat) : State :=
  let r : EventRec := ⟨s.obj Reg.eventWriteSeq, code, s.net, subject % 2 ^ 64, value % 2 ^ 64⟩
  ({ s with ring := (r :: s.ring).take 4096, events := s.events + 1 } : State).bump Reg.eventWriteSeq

/-- An event written as the first of all: it takes sequence 0, and events written while none could be read follow it (R447;
DEDUCED, log entry 143). -/
def State.firstEvent (s : State) (code subject value : Nat) : State :=
  let r : EventRec := ⟨0, code, s.net, subject % 2 ^ 64, value % 2 ^ 64⟩
  let later := s.ring.map (fun e => { e with seq := e.seq + 1 })
  ({ s with ring := (later ++ [r]).take 4096, events := s.events + 1 } : State).bump Reg.eventWriteSeq

/-! ### Health (R400-R402) -/

/-- Elements by class: core die, host lane, channel, route toward site, hub link, HBM stack, tensor cell,
cipher lane, optical engine, host port (Table 17.5, HEALTH_SELECT). -/
def healthCount : Nat → Nat
  | 0 => 1 | 1 => 144 | 2 => 32 | 3 => 32 | 4 => 4 | 5 => 24 | 6 => 16 | 7 => 20 | 8 => 8 | 9 => 16 | _ => 0

/-- An element by class and index, as HEALTH_SELECT writes it. -/
def element (cls idx : Nat) : Nat := cls * 256 + idx

/-- The element exists. -/
def elementExists (e : Nat) : Bool := decide (e % 256 < healthCount (e / 256))

/-- Every element, rising. -/
def elements : List Nat :=
  (List.range 10).flatMap (fun c => (List.range (healthCount c)).map (fun i => element c i))

/-- GOOD 0, WATCH 1, REPLACE 2, FAILED 3 (R402). -/
def State.healthOf (s : State) (e : Nat) : Nat :=
  if s.failedEls.contains e then 3
  else
    let x := tget 0 s.scores e
    if s.obj Reg.replacePoints ≤ x then 2 else if s.obj Reg.watchPoints ≤ x then 1 else 0

/-- HEALTH_STATE_CHANGED for the elements of `es` whose state differs from `before` (R402). -/
def State.healthEvents (s before : State) (es : List Nat) : State :=
  es.foldl (fun u e =>
    if u.healthOf e = before.healthOf e then u else u.event 0x8009 e (u.healthOf e)) s

/-- Adding points to an element; the score saturates (R400, R401). -/
def State.points (s : State) (e n : Nat) : State :=
  let x := min (tget 0 s.scores e + n) 0xFFFFFFFF
  State.healthEvents { s with scores := tset 0 s.scores e x } s [e]

/-- Setting an element FAILED until the next reset (R401). -/
def State.failElement (s : State) (e : Nat) : State :=
  if s.failedEls.contains e then s
  else State.healthEvents { s with failedEls := e :: s.failedEls } s [e]

/-! ### Device memory (R194, R197, R200) -/

/-- What an address reads as. An unlisted byte reads as 0 (DESIGN CHOICE, log entry 5). -/
def readByte (m : List Host.Cell) (a : Nat) : Byte := tget 0#8 m a

/-- One byte written; the canonical form is kept. -/
def writeByte (m : List Host.Cell) (a : Nat) (b : Byte) : List Host.Cell := tset 0#8 m a b

/-- The canonical form of memory: addresses rise strictly and no byte is the default. -/
abbrev Memory.wf (m : List Host.Cell) : Prop := twf 0#8 0 m = true

/-- Bytes written at rising addresses. -/
def writeCells : List Host.Cell → Nat → List Byte → List Host.Cell
  | m, _, [] => m
  | m, a, b :: r => writeCells (writeByte m a b) (a + 1) r

/-- `n` bytes from `a`. -/
def State.read (s : State) (a n : Nat) : List Byte := (List.range n).map (fun i => readByte s.mem (a + i))

/-- `n` bytes from `a` as a little-endian number. -/
def State.readLE (s : State) (a n : Nat) : Nat := ofBytesLE (s.read a n)

/-- The address lies in the staging store. -/
def inStaging (a : Nat) : Bool := decide (0x800000000000 ≤ a)

/-- What an error is confined to at an address: a 64-byte line of HBM, a 64-bit word of the staging store
(R199). -/
def unitSize (a : Nat) : Nat := if inStaging a then 8 else 64

/-- Storing bytes; a line or word whose bytes are all written is no longer poisoned (R200). -/
def State.write (s : State) (a : Nat) (bs : List Byte) : State :=
  { s with mem := writeCells s.mem a bs,
           poison := s.poison.filter (fun l => !(decide (a ≤ l) && decide (l + unitSize l ≤ a + bs.length))) }

/-- The lines and words of a stretch of memory that are poisoned, rising. -/
def State.poisoned (s : State) (a n : Nat) : List Nat :=
  s.poison.filter (fun l => decide (a < l + unitSize l) && decide (l < a + n))

/-- A line number put in its place in a rising list without repeats. -/
def insertRising (x : Nat) : List Nat → List Nat
  | [] => [x]
  | y :: r => if x < y then x :: y :: r else if x = y then y :: r else y :: insertRising x r

/-- LAST_MEMORY_ERROR (Table 9.9). -/
def memoryErrorWord (addr kind : Nat) (cleared : Bool) (consumer : Nat) : Nat :=
  addr % 2 ^ 48 + 2 ^ 48 * kind + 2 ^ 50 * b2n cleared + 2 ^ 51 * consumer + 2 ^ 63

/-- The HBM map (R196): hub, stack of the hub, stack-local address, pseudo-channel. -/
def mapHbm (a : Nat) : Nat × Nat × Nat × Nat :=
  let q := a / 4096
  (q % 4, q / 4 % 6, q / 24 * 4096 + a % 4096, a / 64 % 64)

/-- The health element of an address: its HBM stack, or the core die. -/
def memoryElement (a : Nat) : Nat :=
  if inStaging a then element 0 0 else
    let m := mapHbm a
    element 5 (m.1 * 6 + m.2.1)

/-- A poisoned line read again: its consumer is recorded, nothing is counted again (R200, R201). The last
of several poisoned lines is the one named (DEDUCED, log entry 40). A line that the consumer's read has only just poisoned
is no line read again. -/
def State.notePoison (s : State) (a n consumer : Nat) : State :=
  let ls := s.poisoned a n
  let w : State := { s with memSt := { s.memSt with fresh := s.memSt.fresh.filter (fun p => !(p.2 == consumer && ls.contains p.1)) } }
  match ls.getLast? with
  | none => s
  | some l => if s.memSt.fresh.contains (l, consumer) then w else w.setObj Reg.lastMemoryError (memoryErrorWord l 3 false consumer)

/-- Some byte of a stretch of memory is poisoned. -/
def State.isPoisoned (s : State) (a n : Nat) : Bool := !(s.poisoned a n).isEmpty

/-- `n` free bytes: what an invalid output area holds (R133, DESIGN CHOICE, log entry 2). -/
def State.freeBytes : Nat → State → List Byte × State
  | 0, s => ([], s)
  | n + 1, s =>
    let (v, s) := s.takeFree
    let (r, s) := State.freeBytes n s
    (BitVec.ofNat 8 v :: r, s)

/-- An output area becomes invalid: its bytes are free values. Its poison stays: no write has covered it (R200). -/
def State.invalidate (s : State) (a n : Nat) : State :=
  let (bs, s) := State.freeBytes n s
  { s with mem := writeCells s.mem a bs }

/-! ### Tables of the chapters -/

def State.stream (s : State) (i : Nat) : StreamCtx := tget {} s.streams i
def State.setStream (s : State) (i : Nat) (x : StreamCtx) : State := { s with streams := tset {} s.streams i x }
def State.link (s : State) (l : Nat) : LinkSt := tget {} s.links l
def State.setLink (s : State) (l : Nat) (x : LinkSt) : State := { s with links := tset {} s.links l x }
def State.route (s : State) (n : Nat) : RouteSt := tget {} s.routes n
def State.setRoute (s : State) (n : Nat) (x : RouteSt) : State := { s with routes := tset {} s.routes n x }
def State.chan (s : State) (c : Nat) : ChannelSt := tget {} s.chans c
def State.setChan (s : State) (c : Nat) (x : ChannelSt) : State := { s with chans := tset {} s.chans c x }
def State.optic (s : State) (c : Nat) : OpticSt := tget {} s.optics c
def State.setOptic (s : State) (c : Nat) (x : OpticSt) : State := { s with optics := tset {} s.optics c x }
def State.engineSt (s : State) (e : Nat) : EngineSt := tget {} s.engines e
def State.setEngineSt (s : State) (e : Nat) (x : EngineSt) : State := { s with engines := tset {} s.engines e x }
def State.port (s : State) (p : Nat) : PortSt := tget {} s.ports p
def State.setPort (s : State) (p : Nat) (x : PortSt) : State := { s with ports := tset {} s.ports p x }
def State.pair (s : State) (f : Nat) : PairSt := tget {} s.cipher.pairs f
def State.setPair (s : State) (f : Nat) (x : PairSt) : State :=
  { s with cipher := { s.cipher with pairs := tset {} s.cipher.pairs f x } }
def State.cv (s : State) (u : Nat) : CvSt := tget {} s.cvs u
def State.setCv (s : State) (u : Nat) (x : CvSt) : State := { s with cvs := tset {} s.cvs u x }
def State.slotSt (s : State) (n : Nat) : SlotSt := if n = 0 then s.slot0 else s.slot1
def State.setSlotSt (s : State) (n : Nat) (x : SlotSt) : State :=
  if n = 0 then { s with slot0 := x } else { s with slot1 := x }
def State.session (s : State) (k : Nat) : Session := if k = 0 then s.jdp0 else s.jdp1
def State.setSession (s : State) (k : Nat) (x : Session) : State :=
  if k = 0 then { s with jdp0 := x } else { s with jdp1 := x }
def State.groupInst (s : State) (g : Nat) : Option Instance := tget none s.groups g
def State.setGroupInst (s : State) (g : Nat) (x : Option Instance) : State :=
  { s with groups := tset none s.groups g x }
def State.sync (s : State) (o : Nat) : Nat := tget 0 s.eng.sync o
def State.setSync (s : State) (o v : Nat) : State :=
  { s with eng := { s.eng with sync := tset 0 s.eng.sync o v } }

/-! ### Slots and engine (Table 5.6, Table 5.15) -/

abbrev slotEmpty : Nat := 0
abbrev slotLoading : Nat := 1
abbrev slotSealed : Nat := 2
abbrev slotArmed : Nat := 3
abbrev slotActive : Nat := 4

abbrev engIdle : Nat := 0
abbrev engRunning : Nat := 1
abbrev engParked : Nat := 2
abbrev engStopped : Nat := 3

def State.slotStateOf (s : State) (n : Nat) : Nat := s.obj (Reg.slotState n)

/-- The active slot, if a sheet is active. -/
def State.active (s : State) : Option Nat :=
  if s.obj Reg.activeSlot < 2 then some (s.obj Reg.activeSlot) else none

/-- Armed slots in the order of their epochs; slot 0 first when equal (DEDUCED, log entry 78). -/
def State.armedSlots (s : State) : List Nat :=
  let l := [0, 1].filter (fun n => s.slotStateOf n == slotArmed)
  if l.length = 2 ∧ s.slot1.epoch < s.slot0.epoch then [1, 0] else l

/-- The armed slot that activates first, if one is armed. -/
def State.armed (s : State) : Option Nat := s.armedSlots.head?

def State.engState (s : State) : Nat := s.obj Reg.cueEngineState

/-- Some slot is in one of the states `ss`. -/
def State.anySlot (s : State) (ss : List Nat) : Bool := ss.contains (s.slotStateOf 0) || ss.contains (s.slotStateOf 1)

/-! ### Module states (Table 20.1) -/

abbrev modPowerUp : Nat := 0
abbrev modRehearsal : Nat := 1
abbrev modReady : Nat := 2
abbrev modSafe : Nat := 3
abbrev modEntering : Nat := 4
abbrev modIntermission : Nat := 5
abbrev modExiting : Nat := 6

def State.modState (s : State) : Nat := s.obj Reg.moduleState

/-- From the start of entry to the end of exit of an Intermission (Table 20.1). -/
def State.asleep (s : State) : Bool :=
  s.modState == modEntering || s.modState == modIntermission || s.modState == modExiting

/-- Item i of rehearsal has failed (Table 20.4, FAILED_ITEMS). -/
def State.itemFailed (s : State) (i : Nat) : Bool := bit (s.obj Reg.rehearsalResult) i

end Sys2Proof.Machine
end

