-- ==== Sys2Proof/Machine/Sheet.lean ====
section
/-! DEFINITION. Reading a sheet image out of its slot: header, cues, sync and stream tables, channel plan,
power plan, and the unrolled order (R103-R110, R269-R271, R291, R344). -/
namespace Sys2Proof.Machine

/-- Where slot n stands in cue storage (Table 9.1). -/
def slotBase (n : Nat) : Nat := n * 0x50000000

/-- Largest image of a slot (R113). -/
def slotSize : Nat := 1342177280

/-! ### Header (Table 5.1) -/

def State.hdr (s : State) (n : Nat) : Nat := s.readLE (slotBase n) 88
def hMagic (h : Nat) : Nat := bits h 31 0
def hVersion (h : Nat) : Nat := bits h 47 32
def hJobId (h : Nat) : Nat := bits h 127 64
def hRevision (h : Nat) : Nat := bits h 143 128
def hJobTag (h : Nat) : Nat := bits h 159 144
def hSite (h : Nat) : Nat := bits h 162 160
def hSiteCount (h : Nat) : Nat := bits h 167 164
def hGateway (h : Nat) : Nat := bits h 177 168
def hGatewayCount (h : Nat) : Nat := bits h 194 184
def hPace (h : Nat) : Nat := bits h 223 208
def hCueCount (h : Nat) : Nat := bits h 248 224
def hLoopStart (h : Nat) : Nat := bits h 279 256
def hLoopEnd (h : Nat) : Nat := bits h 304 280
def hLoopCount (h : Nat) : Nat := bits h 351 320
def hImageLength (h : Nat) : Nat := bits h 383 352
def hCueOffset (h : Nat) : Nat := bits h 415 384
def hSyncOffset (h : Nat) : Nat := bits h 447 416
def hStreamOffset (h : Nat) : Nat := bits h 479 448
def hStreamCount (h : Nat) : Nat := bits h 494 480
def hPlanOffset (h : Nat) : Nat := bits h 543 512
def hPowerOffset (h : Nat) : Nat := bits h 575 544
def hParams (h : Nat) : Nat := bits h 639 576
def hRingBase (h : Nat) : Nat := bits h 687 640
def hRingLog2 (h : Nat) : Nat := bits h 692 688

/-! ### Cues (Table 5.4) -/

/-- A cue as its 512 bits. -/
abbrev Cue := Nat

def State.cueAt (s : State) (n idx : Nat) : Cue := s.readLE (slotBase n + hCueOffset (s.hdr n) + 64 * idx) 64
def cUnit (c : Cue) : Nat := bits c 3 0
def cVop (c : Cue) : Nat := bits c 7 4
def cOrder (c : Cue) : Nat := bits c 9 8
def cRnd (c : Cue) : Nat := bits c 12 10
def cSat (c : Cue) : Bool := bit c 13
def cFmtA (c : Cue) : Nat := bits c 17 14
def cFmtB (c : Cue) : Nat := bits c 21 18
def cFmtAux (c : Cue) : Nat := bits c 25 22
def cFmtOut (c : Cue) : Nat := bits c 29 26
def cAuxEn (c : Cue) : Bool := bit c 30
def cRecordEn (c : Cue) : Bool := bit c 31
def cArg (c : Cue) : Nat := bits c 47 32
def cTag (c : Cue) : Nat := bits c 63 48
def cWait0Obj (c : Cue) : Nat := bits c 76 64
def cWait0N (c : Cue) : Nat := bits c 84 77
def cWait1Obj (c : Cue) : Nat := bits c 97 85
def cWait1N (c : Cue) : Nat := bits c 105 98
def cSig0Obj (c : Cue) : Nat := bits c 118 106
def cSig0N (c : Cue) : Nat := bits c 126 119
def cSig1Obj (c : Cue) : Nat := bits c 139 127
def cSig1N (c : Cue) : Nat := bits c 147 140
def cTokenStream (c : Cue) : Nat := bits c 161 148
def cRemoteObj (c : Cue) : Nat := bits c 174 162
def cRemoteN (c : Cue) : Nat := bits c 182 175
def cRemoteEn (c : Cue) : Bool := bit c 183
def cAddrA (c : Cue) : Nat := bits c 239 192
def cAddrB (c : Cue) : Nat := bits c 287 240
def cAddrOut (c : Cue) : Nat := bits c 335 288
def cAddrAux (c : Cue) : Nat := bits c 383 336
def cAddrFlag (c : Cue) : Nat := bits c 431 384
def cM (c : Cue) : Nat := bits c 455 432
def cN (c : Cue) : Nat := bits c 479 456
def cK (c : Cue) : Nat := bits c 496 480

/-- Unit classes of Table 5.5. -/
abbrev uControl : Nat := 0
abbrev uTile : Nat := 1
abbrev uVector : Nat := 2
abbrev uCollective : Nat := 3
abbrev uOptimizer : Nat := 4
abbrev uMove : Nat := 5
abbrev uCompress : Nat := 6
abbrev uDecompress : Nat := 7
abbrev uHostOut : Nat := 8
abbrev uHostIn : Nat := 9
abbrev uLineOut : Nat := 10
abbrev uLineIn : Nat := 11
abbrev uCheck : Nat := 12

/-- The stream of a data-moving cue, and its FLUSH bit (Table 5.5). -/
def cStream (c : Cue) : Nat := bits (cArg c) 13 0
def cFlush (c : Cue) : Bool := bit (cArg c) 14

/-- The group of a COLLECTIVE cue. -/
def cGroup (c : Cue) : Nat := bits (cArg c) 8 0

/-- The cue is a CONTROL cue that holds back the cues after it: BARRIER or HANDOVER. -/
def isBarrier (c : Cue) : Bool := cUnit c == uControl && (bits (cArg c) 1 0 == 1 || bits (cArg c) 1 0 == 2)
def isHandover (c : Cue) : Bool := cUnit c == uControl && bits (cArg c) 1 0 == 2

/-- The queue of a cue, of the 532 of R127: 0 control, 1 tensor, 2 optimizer, 3 move, 4 host out, 5 host
in, 6 line out, 7 line in, 8 + g group g, 520 + u compress, 522 + u decompress, 524 + u check. -/
def queueOf (c : Cue) : Nat :=
  let u := cUnit c
  if u = uControl then 0
  else if u = uTile ∨ u = uVector then 1
  else if u = uCollective then 8 + bits (cArg c) 8 0
  else if u = uOptimizer then 2
  else if u = uMove then 3
  else if u = uCompress then 520 + bits (cArg c) 0 0
  else if u = uDecompress then 522 + bits (cArg c) 0 0
  else if u = uHostOut then 4
  else if u = uHostIn then 5
  else if u = uLineOut then 6
  else if u = uLineIn then 7
  else 524 + bits (cArg c) 2 0

/-! ### Tables -/

/-- Entry of a sync object (Table 5.2). -/
def State.syncEntry (s : State) (n o : Nat) : Nat := s.readLE (slotBase n + hSyncOffset (s.hdr n) + 8 * o) 8

/-- Entry of a stream (Table 5.3); 0 at STREAM_COUNT and above (R106, R115). -/
def State.streamEntry (s : State) (n i : Nat) : Nat :=
  let h := s.hdr n
  if i < hStreamCount h then s.readLE (slotBase n + hStreamOffset h + 64 * i) 64 else 0

def eKind (e : Nat) : Nat := bits e 3 0
def eCarry (e : Nat) : Bool := bit e 4
def ePeerGateway (e : Nat) : Nat := bits e 17 8
def ePeerSite (e : Nat) : Nat := bits e 20 18
def ePeerStream (e : Nat) : Nat := bits e 37 24
def eInitialCredit (e : Nat) : Nat := bits e 95 64
def eCollEn (e : Nat) : Bool := bit e 128
/-- The entry binds its stream to a group: the binding is one of HOST and LINE entries (R138). -/
def eBound (e : Nat) : Bool := (eKind e == 1 || eKind e == 2) && eCollEn e
def eCollIn (e : Nat) : Bool := bit e 129
def eOutSelf (e : Nat) : Bool := bit e 130
def eOutResult (e : Nat) : Bool := bit e 131
def eGroup (e : Nat) : Nat := bits e 140 132
def eStage (e : Nat) : Nat := bits e 143 141
def eMember (e : Nat) : Nat := bits e 153 144
def ePort (e : Nat) : Nat := bits e 163 160
def eAltPort (e : Nat) : Nat := bits e 167 164
def eLink (e : Nat) : Nat := bits e 163 160
def eRxOwner (e : Nat) : Nat := bits e 173 168
def eShaper (e : Nat) : Nat := bits e 181 176
def eMeter (e : Nat) : Nat := bits e 189 184
def eRxHold (e : Nat) : Nat := bits e 223 192
def eFarStream (e : Nat) : Nat := bits e 255 224
def ePeerIp (e : Nat) : Nat := bits e 383 256
abbrev kindHost : Nat := 1
abbrev kindLine : Nat := 2

/-! ### Channel plan (R269, Tables 12.1 to 12.4) -/

def State.planAt (s : State) (n : Nat) : Nat := slotBase n + hPlanOffset (s.hdr n)
def State.linkCount (s : State) (n : Nat) : Nat := bits (s.readLE (s.planAt n) 1) 4 0
def State.chanEntry (s : State) (n c : Nat) : Nat := s.readLE (s.planAt n + 64 + 4 * c) 4
def State.routeEntry (s : State) (n r : Nat) : Nat := s.readLE (s.planAt n + 192 + 16 * r) 16
def State.linkEntry (s : State) (n l : Nat) : Nat :=
  if l < s.linkCount n then s.readLE (s.planAt n + 256 + 64 * l) 64 else 0
def pRole (e : Nat) : Nat := bits e 1 0
def pFarSite (e : Nat) : Nat := bits e 4 2
def pRate (e : Nat) : Nat := bits e 6 5
def lFarSite (e : Nat) : Nat := bits e 2 0
def lFarGateway (e : Nat) : Nat := bits e 12 3
def lCode (e : Nat) : Nat := bits e 15 13
def lBudget (e : Nat) : Nat := if bits e 18 16 = 0 then 3 else bits e 18 16
def lPosLg (e i : Nat) : Nat := bits e (37 + 8 * i) (32 + 8 * i)
def lPosRoute (e i : Nat) : Nat := bits e (39 + 8 * i) (38 + 8 * i)
def lDelayMax (e : Nat) : Nat := bits e 79 64
def lSkewMax (e : Nat) : Nat := bits e 95 80
def lRetain (e : Nat) : Nat := bits e 223 192

/-- k and m of a route code (Table 12.4); none for the reserved codes. -/
def codeKM : Nat → Option (Nat × Nat)
  | 0 => some (4, 0) | 1 => some (3, 1) | 2 => some (2, 2) | 3 => some (2, 1) | 4 => some (1, 1) | _ => none

def lK (e : Nat) : Nat := ((codeKM (lCode e)).getD (0, 0)).1
def lM (e : Nat) : Nat := ((codeKM (lCode e)).getD (0, 0)).2
def lPositions (e : Nat) : Nat := lK e + lM e

/-- The three timers of a link: derived minima and effective values [µs] (R291, Table 12.8). -/
structure LinkTimers where
  holeMin : Nat
  hole : Nat
  retryMin : Nat
  retry : Nat
  failMin : Nat
  fail : Nat
  deriving DecidableEq, Repr

def linkTimers (e : Nat) : LinkTimers :=
  let pick (cfg min : Nat) : Nat := if cfg = 0 then min else cfg
  let holeMin := ceilDiv (100 * lSkewMax e + 271 + 128) 100
  let hole := pick (bits e 127 96) holeMin
  let retryMin := ceilDiv (200 * lDelayMax e + 100 * hole + 1800 + 512 + 271) 100
  let retry := pick (bits e 159 128) retryMin
  let failMin := ceilDiv (100 * ((lBudget e + 1) * retry) + 100 * lDelayMax e + 256 + 900 + 100000) 100
  { holeMin := holeMin, hole := hole, retryMin := retryMin, retry := retry, failMin := failMin,
    fail := pick (bits e 191 160) failMin }

/-- Far sites that some link of the sheet leads to, bit s for site s. -/
def State.farSites (s : State) (n : Nat) : Nat :=
  (List.range (s.linkCount n)).foldl (fun a l => setBit a (lFarSite (s.linkEntry n l)) true) 0

/-- The derived minimum of TOUCH_HOLDOFF toward a site [ms] (R385): the largest effective T_FAIL of its
links, in whole milliseconds, plus 1. -/
def State.touchMin (s : State) (n site : Nat) : Nat :=
  let m := (List.range (s.linkCount n)).foldl (fun a l =>
    let e := s.linkEntry n l
    if lFarSite e = site then max a (linkTimers e).fail else a) 0
  ceilDiv m 1000 + 1

/-- The derived minimum toward any site of the sheet. -/
def State.touchMinAll (s : State) (n : Nat) : Nat :=
  (List.range 8).foldl (fun a f => if bit (s.farSites n) f then max a (s.touchMin n f) else a) 0

/-! ### The power plan (R107) -/

/-- Entries of the power plan of slot n, and entry k of it. -/
def State.powerCount (s : State) (n : Nat) : Nat := s.readLE (slotBase n + hPowerOffset (s.hdr n)) 4
def State.powerEntry (s : State) (n k : Nat) : Nat := s.readLE (slotBase n + hPowerOffset (s.hdr n) + 8 + 8 * k) 8

/-- CUE_INDEX and DRAW_ABOVE_IDLE_DW of an entry, the latter in mW. -/
def planCue (e : Nat) : Nat := bits e 23 0
def planAboveMw (e : Nat) : Nat := 100 * bits e 47 32

/-- The entry that names a cue. -/
def State.planOf (s : State) (n idx : Nat) : Option Nat :=
  (List.range (s.powerCount n)).find? (fun k => planCue (s.powerEntry n k) == idx)

/-- A cue has been dispatched: the plan entry that names it, if there is one, is in force from now on. -/
def State.notePlan (s : State) (n idx : Nat) : State :=
  match s.planOf n idx with
  | some k => { s with power := { s.power with planAt := some k } }
  | none => s

/-! ### The unrolled order (R104) -/

/-- Where the epilogue cues behind a body without end are numbered: such a cue x stands for position 2⁹⁶ + x, which
nothing reaches (R134; DEDUCED, log entry 74). -/
def beyond : Nat := 2 ^ 96

/-- The cue at a position: its index and its pass; none past the end. -/
def unrolled (h p : Nat) : Option (Nat × Nat) :=
  let a := hLoopStart h
  let b := hLoopEnd h - hLoopStart h
  let e := hCueCount h - hLoopEnd h
  if p < a then some (p, 0)
  else if b ≠ 0 ∧ hLoopCount h = 0 ∧ beyond ≤ p then (if p - beyond < hCueCount h then some (p - beyond, 0) else none)
  else if b = 0 then (if p - a < e then some (hLoopEnd h + (p - a), 0) else none)
  else if hLoopCount h = 0 ∨ p - a < b * hLoopCount h then some (a + (p - a) % b, (p - a) / b)
  else if p - a - b * hLoopCount h < e then some (hLoopEnd h + (p - a - b * hLoopCount h), 0)
  else none

/-- The number of positions; none when the order has no end. -/
def unrolledLength (h : Nat) : Option Nat :=
  let b := hLoopEnd h - hLoopStart h
  if b ≠ 0 ∧ hLoopCount h = 0 then none
  else some (hLoopStart h + b * (if b = 0 then 0 else hLoopCount h) + (hCueCount h - hLoopEnd h))

/-- The position of cue `x` in pass `k` of the body, or in the prologue or epilogue. -/
def positionOf (h x k : Nat) : Nat :=
  let b := hLoopEnd h - hLoopStart h
  if x < hLoopStart h then x
  else if x < hLoopEnd h then hLoopStart h + k * b + (x - hLoopStart h)
  else hLoopStart h + b * (if b = 0 then 0 else hLoopCount h) + (x - hLoopEnd h)

/-- The cue at a position of the active sheet, with its index and 32-bit iteration. -/
def State.posCue (s : State) (n p : Nat) : Option (Cue × Nat × Nat) :=
  (unrolled (s.hdr n) p).map (fun q => (s.cueAt n q.1, q.1, q.2 % 2 ^ 32))

/-! ### Device memory ranges (Table 9.1) -/

/-- An area lies wholly in one cue-addressable range: general HBM outside the pool, or the sheet area of
the staging store (R110, R194, R195). -/
def State.addressable (s : State) (a n : Nat) : Bool :=
  let pool := s.obj Reg.poolBase
  let poolEnd := pool + 65536 * s.obj Reg.poolBuffers
  let clear := decide (a + n ≤ pool) || decide (poolEnd ≤ a) || decide (pool = poolEnd)
  (decide (0xA0000000 ≤ a) && decide (a + n ≤ 0x010C388D0000) && clear)
    || (decide (0x800000000000 ≤ a) && decide (a + n ≤ 0x80000F000000))

/-- Two areas share a byte. -/
def overlap (a n b m : Nat) : Bool := decide (a < b + m) && decide (b < a + n) && decide (0 < n) && decide (0 < m)

/-- Hubs that an HBM area touches, as a bitmap (R196). -/
def hubsOf (a n : Nat) : Nat :=
  if inStaging a ∨ n = 0 then 0
  else if 16384 ≤ n then 15
  else (List.range (n / 4096 + 2)).foldl (fun m i =>
    if a / 4096 + i ≤ (a + n - 1) / 4096 then setBit m ((a / 4096 + i) % 4) true else m) 0

/-- Hubs that are away: their link has failed, or has lost training and holds their accesses until it is back (R198). -/
def State.hubsAway (s : State) : Nat := 15 - bits (s.obj Reg.hubLinkState) 3 0

/-- An access to some of the areas is held (R198). What a unit does with the bytes it reads waits, and so does the end of a
cue; a write behind the link, which nothing can read meanwhile, is done at once (DESIGN CHOICE, log entry 115). -/
def State.held (s : State) (as : List (Nat × Nat)) : Bool :=
  s.hubsAway != 0 && as.any (fun a => hubsOf a.1 a.2 &&& s.hubsAway != 0)

/-- An access to parcels stored in buffers of the pool is held: a buffer lies on all four hubs, and where in it a parcel
stands is not modelled (R196, R198, R207; DESIGN CHOICE, log entry 115). -/
def State.poolHeld (s : State) : Bool := s.hubsAway != 0

end Sys2Proof.Machine
end

