-- ==== Sys2Proof/Machine/Touch.lean ====
section
/-! DEFINITION. Touch, quorum and commit (17_sites_and_resilience.md, R383-R391). -/
namespace Sys2Proof.Machine

/-- The sum of SITE_WEIGHT over the sites of a bitmap. -/
def State.weight (s : State) (sites : Nat) : Nat :=
  (List.range 8).foldl (fun a f => if bit sites f then a + s.obj (Reg.siteWeight f) else a) 0

/-- The total weight T of a sheet's sites (R383). -/
def State.totalWeight (s : State) (n : Nat) : Nat := s.weight (2 ^ hSiteCount (s.hdr n) - 1)

/-- The sites of a bitmap hold quorum for the sheet of slot n (R386). -/
def State.quorumOf (s : State) (n sites : Nat) : Bool :=
  let w := s.weight sites
  let t := s.totalWeight n
  let tie := s.obj Reg.tieBreakSite
  decide (0 < t) && (decide (t < 2 * w) || (decide (2 * w = t) && bit tie 7 && bit sites (bits tie 2 0)))

/-- The touch set: the own site, and far sites under R384. With no sheet active it is the own site alone, which the sheet
that was active last names; after a reset no sheet has named one (DEDUCED, log entry 41). -/
def State.touchSet (s : State) : Nat :=
  match s.active with
  | none => match s.site.own with
    | some o => 2 ^ o.1
    | none => 0
  | some n => setBit (s.farSites n &&& s.site.evidence &&& (255 - s.site.outOfTouch % 256)) (hSite (s.hdr n)) true

/-- The gateway holds quorum (R386). -/
def State.quorum (s : State) : Bool :=
  match s.active with
  | none => false
  | some n => s.quorumOf n s.touchSet

/-- 0x8500.0B QUORUM_STATE. -/
def State.quorumWord (s : State) : Nat :=
  match s.active with
  | none => 2 * s.touchSet + 2 ^ 9 * s.weight s.touchSet
  | some n => b2n s.quorum + 2 * s.touchSet + 2 ^ 9 * s.weight s.touchSet + 2 ^ 20 * s.totalWeight n

/-- Number of shard tiles of the active sheet (R388). -/
def State.tileCount (s : State) : Nat :=
  match s.active with
  | none => 0
  | some n => ceilDiv (hParams (s.hdr n)) 4096

/-- The APPLIED bit of a shard tile. -/
def State.applied (s : State) (i : Nat) : Bool := bit (tget 0 s.site.applied (i / 64)) (i % 64)

/-- Setting the APPLIED bit of a shard tile. -/
def State.setApplied (s : State) (i : Nat) : State :=
  let w := setBit (tget 0 s.site.applied (i / 64)) (i % 64) true
  { s with site := { s.site with applied := tset 0 s.site.applied (i / 64) w } }

/-- Every bit of the APPLIED map is 1. -/
def State.allApplied (s : State) : Bool :=
  let n := s.tileCount
  decide (0 < n) && (List.range (ceilDiv n 64)).all (fun w =>
    tget 0 s.site.applied w == 2 ^ (min 64 (n - 64 * w)) - 1)

/-- Commit of the outer step, when every tile is applied while quorum is held (R390). -/
def State.commitIfDue (s : State) : State :=
  if s.quorum && s.allApplied then
    let step := (s.obj Reg.stateStep + 1) % 2 ^ 64
    let s := { s with site := { s.site with applied := [] } }
    let s := (s.setObj Reg.stateStep step).setObj Reg.lastCommitTime s.net
    (s.bump Reg.commits).event 0x8008 step 0
  else s

/-- QUORUM_LOST or QUORUM_GAINED when quorum differs from `before` (R386), and a commit that waited. -/
def State.quorumEvents (s : State) (before : Bool) : State :=
  if s.quorum = before then s
  else if s.quorum then State.commitIfDue (s.event 0x8007 s.quorumWord 0)
  else s.event 0x8006 s.quorumWord 0

/-- Events for the sites by which the touch set differs from `before`, then the quorum event (R384). DEDUCED, log entry 102.
-/
def State.touchEvents (s : State) (before : Nat) (q : Bool) : State :=
  let u := (List.range 8).foldl (fun u f =>
    if bit s.touchSet f = bit before f then u
    else if bit s.touchSet f then u.event 0x8005 f 0
    else u.event 0x8004 f 0) s
  u.quorumEvents q

/-- A verified parcel or authenticated OH-B frame from the peer at site f (R384). -/
def State.evidence (s : State) (f : Nat) : State :=
  let lost := bit s.site.lost f
  let x := { s.site with evidence := setBit s.site.evidence f true,
                         evidenceAt := tset 0 s.site.evidenceAt f s.now,
                         outOfTouch := if lost then s.site.outOfTouch else setBit s.site.outOfTouch f false }
  State.touchEvents { s with site := x } s.touchSet s.quorum

/-- Effective TOUCH_HOLDOFF toward a site [ms] (R385). -/
def State.touchHoldoff (s : State) (n f : Nat) : Nat :=
  if s.obj Reg.touchHoldoffMs = 0 then s.touchMin n f else s.obj Reg.touchHoldoffMs

/-- TOUCH_HOLDOFF passes with PEER_LOST declared, so the site leaves the touch set (R384). -/
def execTouchHoldoffExpiry (t : Nat) (site : Fin 8) (s0 : State) : Result :=
  let s := s0.tick t
  match s.active with
  | none => .next s
  | some n =>
    let f := site.val
    if bit s.site.lost f && !bit s.site.outOfTouch f
        && decide (tget 0 s.site.evidenceAt f + 1000000 * s.touchHoldoff n f ≤ s.now) then
      let x := { s.site with outOfTouch := setBit s.site.outOfTouch f true }
      .next (State.touchEvents { s with site := x } s.touchSet s.quorum)
    else .next s

/-- The write of STATE_STEP_SET (R391). -/
def State.writeStateStep (s : State) (v : Nat) : Status × State :=
  if s.engState = engRunning ∨ s.engState = engParked then (stSlotBusy, s)
  else (stOk, ({ s with site := { s.site with applied := [] } } : State).setObj Reg.stateStep v)

def execStateStepSet (t : Nat) (value : Word64) (s0 : State) : Result :=
  .next ((s0.tick t).managed (fun s => s.writeStateStep value.toNat))

/-- Every whole second each health score decays, once (R400). A host lane whose pre-FEC symbol error ratio over the second
that ends, as last read, was above LANE_DEGRADE_SER / 10 scores first (R401; DESIGN CHOICE, log entry 114). -/
def execHealthDecayTick (t : Nat) (s0 : State) : Result :=
  let s := s0.tick t
  if s.net / 1000000000 = s.defects.lastDecay then .next s
  else
    let s := s.defects.laneSer.foldl (fun u r => if u.obj Reg.laneDegradeSer < 10 * r.ser then u.points (element 1 r.lane.val) 10 else u)
      { s with defects := { s.defects with lastDecay := s.net / 1000000000, laneSer := [] } }
    let d := s.obj Reg.healthDecay
    let scores := s.scores.foldl (fun m p => tset 0 m p.1 (p.2 - ceilDiv (p.2 * d) 65536)) s.scores
    .next (State.healthEvents { s with scores := scores } s (s.scores.map Prod.fst))

end Sys2Proof.Machine
end

