-- ==== Sys2Proof/Machine/Channels.lean ====
section
/-! DEFINITION. What several chapters ask of a wavelength channel and its route: its state, its role in the
active plan, pages, member set, substitutions and announcements (R224, R228, R235-R242, R261, R323). -/
namespace Sys2Proof.Machine

abbrev chDark : Nat := 0
abbrev chLocking : Nat := 1
abbrev chInService : Nat := 2
abbrev chCalibrating : Nat := 3
abbrev chRelocking : Nat := 4
abbrev chDisabled : Nat := 5
abbrev chLaserFailed : Nat := 6
abbrev chEngineFailed : Nat := 7
abbrev chRateChange : Nat := 8
abbrev chWaitSubst : Nat := 9

/-- CHANNEL_STATE.STATE (Table 14.9). -/
def State.chState (s : State) (c : Nat) : Nat := bits (s.obj (Reg.channelState c)) 3 0
def State.chRate (s : State) (c : Nat) : Nat := bits (s.obj (Reg.channelState c)) 5 4
def State.inService (s : State) (c : Nat) : Bool := s.chState c == chInService
def State.pilotMismatch (s : State) (c : Nat) : Bool := bit (s.obj (Reg.channelState c)) 10

/-- Replacing bits of CHANNEL_STATE. -/
def State.setChBits (s : State) (c hi lo v : Nat) : State :=
  s.setObj (Reg.channelState c) (setBits (s.obj (Reg.channelState c)) hi lo v)

/-- A channel's new state, and whether its output is dark. -/
def State.setChState (s : State) (c st : Nat) (dark : Bool) : State :=
  (s.setChBits c 3 0 st).setChBits c 6 6 (b2n dark)

/-- A channel leaves service with a cause of Table 14.9. -/
def State.leaveService (s : State) (c st : Nat) (dark : Bool) (cause : Nat) : State :=
  (s.setChState c st dark).setChBits c 15 12 cause

/-- Channel points score nothing while the channel is out of service locally (R261, R401). -/
def State.channelPoints (s : State) (c n : Nat) : State :=
  if s.inService c then s.points (element 2 c) n else s

/-- The channel's entry in the active sheet's plan; 0 with no active sheet. -/
def State.planEntry (s : State) (c : Nat) : Nat :=
  match s.active with
  | none => 0
  | some n => s.chanEntry n c

def State.role (s : State) (c : Nat) : Nat := pRole (s.planEntry c)

/-- Tributary slots of a rate code (Table 10.1). -/
def slotsOf : Nat → Nat
  | 0 => 64 | 1 => 48 | _ => 32

/-- Entry `e` of a connection memory: `rx` receive, page 0 A or 1 B (Table 10.4). -/
def State.cmEntry (s : State) (rx : Bool) (page e : Nat) : Nat :=
  bits (s.obj (Reg.cmPage (2 * b2n rx + page))) (32 * e + 31) (32 * e)

/-- Entry g of a line-group table (Table 10.5). -/
def State.lgEntry (s : State) (rx : Bool) (page g : Nat) : Nat :=
  bits (s.obj (Reg.lgTable (2 * b2n rx + page))) (32 * g + 31) (32 * g)

def gEnable (e : Nat) : Bool := bit e 0
def gRoute (e : Nat) : Nat := bits e 2 1
def gFarSite (e : Nat) : Nat := bits e 5 3

/-- The channel has a valid entry in a page's connection memory. -/
def State.hasEntry (s : State) (rx : Bool) (page c : Nat) : Bool :=
  (List.range 64).any (fun t => bit (s.cmEntry rx page (64 * c + t)) 31)

/-- The far site of the groups that hold entries on a channel, in a page; none without entries (R224). -/
def State.entrySite (s : State) (rx : Bool) (page c : Nat) : Option Nat :=
  ((List.range 64).find? (fun t => bit (s.cmEntry rx page (64 * c + t)) 31)).map (fun t =>
    gFarSite (s.lgEntry rx page (bits (s.cmEntry rx page (64 * c + t)) 5 0)))

/-- The channels of the receive bundle of route n toward a site (R224). -/
def State.bundle (s : State) (n site : Nat) : List Nat :=
  ((List.range 8).map (fun i => 8 * n + i)).filter (fun c =>
    s.entrySite true (s.obj Reg.pageActive) c == some site)

/-- A SUBST field: valid, carried index, understudy index (Table 10.6). -/
def substValid (v : Nat) : Bool := bit v 7
def substCarried (v : Nat) : Nat := bits v 2 0
def substUnder (v : Nat) : Nat := bits v 5 3

/-- The understudy index that carries channel index i under two SUBST fields. -/
def carrierIn (s0 s1 i : Nat) : Option Nat :=
  if substValid s0 && substCarried s0 == i then some (substUnder s0)
  else if substValid s1 && substCarried s1 == i then some (substUnder s1)
  else none

/-- The channel index that understudy index u carries under two SUBST fields. -/
def carriedIn (s0 s1 u : Nat) : Option Nat :=
  if substValid s0 && substUnder s0 == u then some (substCarried s0)
  else if substValid s1 && substUnder s1 == u then some (substCarried s1)
  else none

/-- The transmit fields (members, SUBST0, SUBST1) after an announcement has taken effect. -/
def Ann.apply (a : Ann) (f : Nat × Nat × Nat) : Nat × Nat × Nat :=
  if a.kind = 3 then (a.value, f.2.1, f.2.2)
  else if a.field = 0 then (f.1, if a.kind = 2 then 0 else a.value, f.2.2)
  else (f.1, f.2.1, if a.kind = 2 then 0 else a.value)

/-- The transmit fields once every announcement made or waiting has taken effect (R236). -/
def RouteSt.planned (r : RouteSt) : Nat × Nat × Nat :=
  let f := (r.txMembers, r.txSubst0, r.txSubst1)
  let f := match r.ann with
    | some a => a.apply f
    | none => f
  r.queue.foldl (fun f a => a.apply f) f

/-- An announcement waits its turn (R236). -/
def State.queueAnn (s : State) (n : Nat) (a : Ann) : State :=
  let r := s.route n
  s.setRoute n { r with queue := r.queue ++ [a] }

/-- The channel carries another channel, in effect or announced. -/
def State.carries (s : State) (u : Nat) : Bool :=
  let f := (s.route (u / 8)).planned
  (carriedIn f.2.1 f.2.2 (u % 8)).isSome

/-- The channel carries a buddy's channel, or is reserved for one (R361). -/
def State.foreignTx (s : State) (u : Nat) : Bool :=
  s.ringSt.divs.any (fun d => !d.owner && d.under == u)

/-- The channel qualifies as understudy for channel c (R235). -/
def State.qualifies (s : State) (u c : Nat) : Bool :=
  s.inService u && decide (u ≠ c) && decide (s.chRate u = s.chRate c)
    && !s.hasEntry false (s.obj Reg.pageActive) u && decide (s.role u = 2)
    && !s.carries u && !s.foreignTx u

/-- Starting the substitution of a channel, or its removal from the member set (R235, R240). A channel
that is already carried, or no member, needs nothing. With both fields in use the second is written over (DESIGN CHOICE, log
entry 133). -/
def State.substitute (s : State) (c : Nat) : State :=
  let n := c / 8
  let i := c % 8
  let f := (s.route n).planned
  if (carrierIn f.2.1 f.2.2 i).isSome || !bit f.1 i then s
  else match ((List.range 8).map (fun j => 8 * n + j)).find? (fun u => s.qualifies u c) with
    | some u =>
      let field := if substValid f.2.1 then 1 else 0
      s.queueAnn n { kind := 1, field := field, value := 0x80 + 8 * (u % 8) + i }
    | none => s.queueAnn n { kind := 3, field := 0, value := setBit f.1 i false, channel := c }

/-- The channel's substitution is in effect in both directions (R327, 0x3123 ROUTE_SUBST). -/
def State.bothSubstituted (s : State) (c : Nat) : Bool :=
  let r := s.route (c / 8)
  (carrierIn r.txSubst0 r.txSubst1 (c % 8)).isSome && (carrierIn r.rxSubst0 r.rxSubst1 (c % 8)).isSome

/-- A receive condition of R242: this end cannot use the channel. -/
def State.cannotUse (s : State) (c : Nat) : Bool :=
  let x := s.chan c
  !x.inFrame || !x.lfnValid || x.excessSkew || x.rxFail || !s.inService c || s.pilotMismatch c

/-- A change of draw that the slew limit does not cover (R46): event SLEW_EXEMPT_CHANGE, and the next change of draw
that the power manager finds exempt is left out of the comparison of R43. Codes of Table 18.7. -/
def State.slewExempt (s : State) (code : Nat) : State :=
  State.event { s with power := { s.power with exemptDue := true } } 0x8003 code (s.obj Reg.drawNowDw)

end Sys2Proof.Machine
end

