-- ==== Sys2Proof/Machine/Crc.lean ====
section
/-! DEFINITION. Cyclic redundancy checks in the parameterised model of R427 (19_check_value_units.md,
Table 19.1), and the ones the manual uses elsewhere. -/
namespace Sys2Proof

/-- Bits 0 to `n` − 1 of a number in reverse order. -/
def reflect : Nat → Nat → Nat
  | 0, _ => 0
  | n + 1, v => v % 2 * 2 ^ n + reflect n (v / 2)

/-- The parameters of one CRC (R427). -/
structure CrcCfg where
  width : Nat
  poly : Nat
  init : Nat
  xorout : Nat
  refin : Bool
  refout : Bool
  deriving DecidableEq, Repr

/-- `n` shifts of the register (R427). -/
def crcShift (c : CrcCfg) : Nat → Nat → Nat
  | 0, reg => reg
  | n + 1, reg =>
    let d := reg * 2 % 2 ^ c.width
    crcShift c n (if bit reg (c.width - 1) then d ^^^ c.poly else d)

/-- One byte into the register (R427 update). -/
def crcUpdate (c : CrcCfg) (reg : Nat) (b : Byte) : Nat :=
  let x := if c.refin then reflect 8 b.toNat else b.toNat
  crcShift c 8 (reg ^^^ (x * 2 ^ (c.width - 8)))

/-- Bytes in increasing order into the register. -/
def crcFeed (c : CrcCfg) (reg : Nat) (l : List Byte) : Nat := l.foldl (crcUpdate c) reg

/-- The result of a register (R427 final). -/
def crcFinal (c : CrcCfg) (reg : Nat) : Nat := (if c.refout then reflect c.width reg else reg) ^^^ c.xorout

/-- The CRC of a byte string. -/
def crcOf (c : CrcCfg) (l : List Byte) : Nat := crcFinal c (crcFeed c c.init l)

/-- CUE_CRC (R111). -/
def crc8Cue : CrcCfg := ⟨8, 0x2F, 0xFF, 0xFF, false, false⟩

/-- HDR_CHECK (R141). -/
def crc16Hdr : CrcCfg := ⟨16, 0x1021, 0xFFFF, 0, false, false⟩

/-- SHEET_CRC, and the CRC of JDP (R113, R407). -/
def crc32 : CrcCfg := ⟨32, 0x04C11DB7, 0xFFFFFFFF, 0xFFFFFFFF, true, true⟩

end Sys2Proof
end

