-- ==== Sys2Proof/Machine/Gf.lean ====
section
/-! DEFINITION. The route code: parity and recovery over GF(2⁸) with polynomial 0x11D (R273). -/
namespace Sys2Proof

/-- Twice an element of the field. -/
def gfDouble (a : Nat) : Nat := if a < 128 then 2 * a else (2 * a - 256) ^^^ 0x1D

/-- The product of two elements, by the lowest n bits of b. -/
def gfMulAux : Nat → Nat → Nat → Nat
  | 0, _, _ => 0
  | n + 1, a, b => (if b % 2 = 1 then a else 0) ^^^ gfMulAux n (gfDouble a) (b / 2)

def gfMul (a b : Nat) : Nat := gfMulAux 8 a b

/-- The inverses of 2 and of 3. -/
def gfHalf (a : Nat) : Nat := gfMul a 0x8E
def gfThird (a : Nat) : Nat := gfMul a 0xF4

/-- α^j for j = 0 to 3. -/
def gfPow (j : Nat) : Nat := 2 ^ j

/-- Bodies as numbers. -/
abbrev GfBody := List Nat

def gfAdd (a b : GfBody) : GfBody := List.zipWith (fun x y => x ^^^ y) a b
def gfScale (c : Nat) (a : GfBody) : GfBody := a.map (gfMul c)

/-- Σ α^(r·i)·d_i over the given data bodies, of n bytes. -/
def gfSum (n r : Nat) (ds : List (Nat × GfBody)) : GfBody :=
  ds.foldl (fun a p => gfAdd a (if r = 0 then p.2 else gfScale (gfPow p.1) p.2)) (List.replicate n 0)

/-- Data body j from k known bodies, given as (position, body); positions k and above are parity (R273). -/
def gfRecover (n k : Nat) (known : List (Nat × GfBody)) (j : Nat) : Option GfBody :=
  let ds := known.filter (fun p => decide (p.1 < k))
  let ps := known.filter (fun p => decide (k ≤ p.1))
  match ds.find? (fun p => p.1 == j) with
  | some d => some d.2
  | none =>
    if ds.length + ps.length ≠ k then none
    else match ps with
      | [(q, b)] =>
        let r := q - k
        let x := gfAdd b (gfSum n r ds)
        if r = 0 then some x else if j = 0 then some x else if j = 1 then some (x.map gfHalf) else none
      | [(q, b), (q', b')] =>
        if k ≠ 2 then none
        else
          let p0 := if q < q' then b else b'
          let p1 := if q < q' then b' else b
          let d1 := (gfAdd p0 p1).map gfThird
          if j = 1 then some d1 else some (gfAdd p0 d1)
      | _ => none

/-- The sublists of a list with n members, in order. -/
def choose {α : Type} : Nat → List α → List (List α)
  | 0, _ => [[]]
  | _ + 1, [] => []
  | n + 1, x :: r => (choose n r).map (fun l => x :: l) ++ choose (n + 1) r

end Sys2Proof
end

