-- ==== Sys2Proof/Machine/Aes.lean ====
section
/-! DEFINITION. AES-256 and Galois/Counter Mode, the one algorithm of the cipher engine (13_cipher.md,
R297-R301, R307; NIST SP 800-38D, which the manual names). Bytes are numbers below 256 here. -/
namespace Sys2Proof

/-- Part 1 of the AES S-box. -/
def aesSbox1 : List Nat := [0x63, 0x7c, 0x77, 0x7b, 0xf2, 0x6b, 0x6f, 0xc5, 0x30, 0x01, 0x67, 0x2b, 0xfe, 0xd7, 0xab, 0x76, 0xca, 0x82, 0xc9, 0x7d, 0xfa, 0x59, 0x47, 0xf0, 0xad, 0xd4, 0xa2, 0xaf, 0x9c, 0xa4, 0x72, 0xc0, 0xb7, 0xfd, 0x93, 0x26, 0x36, 0x3f, 0xf7, 0xcc, 0x34, 0xa5, 0xe5, 0xf1, 0x71, 0xd8, 0x31, 0x15, 0x04, 0xc7, 0x23, 0xc3, 0x18, 0x96, 0x05, 0x9a, 0x07, 0x12, 0x80, 0xe2, 0xeb, 0x27, 0xb2, 0x75]

/-- Part 2 of the AES S-box. -/
def aesSbox2 : List Nat := [0x09, 0x83, 0x2c, 0x1a, 0x1b, 0x6e, 0x5a, 0xa0, 0x52, 0x3b, 0xd6, 0xb3, 0x29, 0xe3, 0x2f, 0x84, 0x53, 0xd1, 0x00, 0xed, 0x20, 0xfc, 0xb1, 0x5b, 0x6a, 0xcb, 0xbe, 0x39, 0x4a, 0x4c, 0x58, 0xcf, 0xd0, 0xef, 0xaa, 0xfb, 0x43, 0x4d, 0x33, 0x85, 0x45, 0xf9, 0x02, 0x7f, 0x50, 0x3c, 0x9f, 0xa8, 0x51, 0xa3, 0x40, 0x8f, 0x92, 0x9d, 0x38, 0xf5, 0xbc, 0xb6, 0xda, 0x21, 0x10, 0xff, 0xf3, 0xd2]

/-- Part 3 of the AES S-box. -/
def aesSbox3 : List Nat := [0xcd, 0x0c, 0x13, 0xec, 0x5f, 0x97, 0x44, 0x17, 0xc4, 0xa7, 0x7e, 0x3d, 0x64, 0x5d, 0x19, 0x73, 0x60, 0x81, 0x4f, 0xdc, 0x22, 0x2a, 0x90, 0x88, 0x46, 0xee, 0xb8, 0x14, 0xde, 0x5e, 0x0b, 0xdb, 0xe0, 0x32, 0x3a, 0x0a, 0x49, 0x06, 0x24, 0x5c, 0xc2, 0xd3, 0xac, 0x62, 0x91, 0x95, 0xe4, 0x79, 0xe7, 0xc8, 0x37, 0x6d, 0x8d, 0xd5, 0x4e, 0xa9, 0x6c, 0x56, 0xf4, 0xea, 0x65, 0x7a, 0xae, 0x08]

/-- Part 4 of the AES S-box. -/
def aesSbox4 : List Nat := [0xba, 0x78, 0x25, 0x2e, 0x1c, 0xa6, 0xb4, 0xc6, 0xe8, 0xdd, 0x74, 0x1f, 0x4b, 0xbd, 0x8b, 0x8a, 0x70, 0x3e, 0xb5, 0x66, 0x48, 0x03, 0xf6, 0x0e, 0x61, 0x35, 0x57, 0xb9, 0x86, 0xc1, 0x1d, 0x9e, 0xe1, 0xf8, 0x98, 0x11, 0x69, 0xd9, 0x8e, 0x94, 0x9b, 0x1e, 0x87, 0xe9, 0xce, 0x55, 0x28, 0xdf, 0x8c, 0xa1, 0x89, 0x0d, 0xbf, 0xe6, 0x42, 0x68, 0x41, 0x99, 0x2d, 0x0f, 0xb0, 0x54, 0xbb, 0x16]

/-- The AES substitution box. -/
def aesSbox : List Nat := aesSbox1 ++ aesSbox2 ++ aesSbox3 ++ aesSbox4

def subByte (b : Nat) : Nat := aesSbox.getD (b % 256) 0

/-- Exclusive OR of two byte strings. -/
def xorBytes (a b : List Nat) : List Nat := List.zipWith (fun x y => x ^^^ y) a b

/-- Multiplication by 2 in the field of AES. -/
def xtime (b : Nat) : Nat := if b < 128 then 2 * b else (2 * b - 256) ^^^ 0x1B

/-- One column of MixColumns. -/
def mixColumn (c : List Nat) : List Nat :=
  match c with
  | [a, b, x, y] =>
    let t := a ^^^ b ^^^ x ^^^ y
    [a ^^^ t ^^^ xtime (a ^^^ b), b ^^^ t ^^^ xtime (b ^^^ x), x ^^^ t ^^^ xtime (x ^^^ y), y ^^^ t ^^^ xtime (y ^^^ a)]
  | c => c

/-- ShiftRows over 16 bytes held column by column. -/
def shiftRows (s : List Nat) : List Nat :=
  [0, 5, 10, 15, 4, 9, 14, 3, 8, 13, 2, 7, 12, 1, 6, 11].map (fun i => s.getD i 0)

def mixColumns (s : List Nat) : List Nat :=
  mixColumn (s.take 4) ++ mixColumn ((s.drop 4).take 4) ++ mixColumn ((s.drop 8).take 4) ++ mixColumn (s.drop 12)

/-- Words of the key schedule, newest first, made from the eight newest; `i` counts words. -/
def keyExpand : Nat → Nat → Nat → List (List Nat) → List (List Nat)
  | 0, _, _, ws => ws
  | fuel + 1, i, rcon, ws =>
    let prev := ws.headD []
    let old := ws.getD 7 []
    let t :=
      if i % 8 = 0 then
        match (prev.drop 1 ++ prev.take 1).map subByte with
        | a :: r => (a ^^^ rcon) :: r
        | [] => []
      else if i % 8 = 4 then prev.map subByte
      else prev
    keyExpand fuel (i + 1) (if i % 8 = 0 then xtime rcon else rcon) (xorBytes old t :: ws)

/-- The 15 round keys of a 32-byte key. -/
def roundKeys (key : List Nat) : List (List Nat) :=
  let ws0 := (List.range 8).map (fun i => (key.drop (4 * i)).take 4)
  let ws := (keyExpand 52 8 1 ws0.reverse).reverse
  (List.range 15).map (fun r => ((ws.drop (4 * r)).take 4).flatten)

/-- The rounds after the first key addition. -/
def aesRounds : List (List Nat) → List Nat → List Nat
  | [], s => s
  | [k], s => xorBytes (shiftRows (s.map subByte)) k
  | k :: ks, s => aesRounds ks (xorBytes (mixColumns (shiftRows (s.map subByte))) k)

/-- Encryption of one 16-byte block under prepared round keys. -/
def aesBlock (rks : List (List Nat)) (b : List Nat) : List Nat :=
  match rks with
  | [] => b
  | k :: ks => aesRounds ks (xorBytes b k)

/-- Encryption of one 16-byte block under a 32-byte key. -/
def aes256 (key b : List Nat) : List Nat := aesBlock (roundKeys key) b

/-- A 16-byte block as the 128-bit number GHASH works on: bit 0 of the field is the first bit of byte 0. -/
def blockNum (b : List Nat) : Nat := b.foldl (fun a x => a * 256 + x) 0

/-- The 16 bytes of such a number. -/
def numBlock (v : Nat) : List Nat := (List.range 16).map (fun i => v / 2 ^ (8 * (15 - i)) % 256)

/-- Multiplication in the field of GHASH, bit by bit; `v` is the second factor as it is doubled. -/
def ghashMulAux : Nat → Nat → Nat → Nat → Nat
  | 0, _, _, z => z
  | n + 1, x, v, z =>
    let z' := if bit x n then z ^^^ v else z
    let v' := if v % 2 = 1 then (v / 2) ^^^ (0xE1 * 2 ^ 120) else v / 2
    ghashMulAux n x v' z'

def ghashMul (x y : Nat) : Nat := ghashMulAux 128 x y 0

/-- A byte string cut into blocks of 16, the last padded with zeros. -/
def blocks16 : Nat → List Nat → List (List Nat)
  | 0, _ => []
  | fuel + 1, l => if l.isEmpty then [] else
      let b := l.take 16
      (b ++ List.replicate (16 - b.length) 0) :: blocks16 fuel (l.drop 16)

/-- GHASH of additional data and ciphertext under the subkey `h`. -/
def ghash (h : Nat) (aad ct : List Nat) : Nat :=
  let bs := blocks16 (aad.length + 1) aad ++ blocks16 (ct.length + 1) ct
    ++ [numBlock (8 * aad.length * 2 ^ 64 + 8 * ct.length)]
  bs.foldl (fun y b => ghashMul (y ^^^ blockNum b) h) 0

/-- Counter mode over a message: block i is masked with the encryption of IV ‖ counter. -/
def ctrMode (rks : List (List Nat)) (iv : List Nat) : Nat → Nat → List Nat → List Nat
  | 0, _, _ => []
  | fuel + 1, ctr, l => if l.isEmpty then [] else
      xorBytes (l.take 16) (aesBlock rks (iv ++ (bytesBE 4 ctr).map BitVec.toNat)) ++ ctrMode rks iv fuel (ctr + 1) (l.drop 16)

/-- The 16-byte tag of a ciphertext under a 96-bit IV. -/
def gcmTag (key iv aad ct : List Nat) : List Nat :=
  let rks := roundKeys key
  let h := blockNum (aesBlock rks (List.replicate 16 0))
  xorBytes (numBlock (ghash h aad ct)) (aesBlock rks (iv ++ [0, 0, 0, 1]))

/-- Encryption under AES-256-GCM: ciphertext and tag. -/
def gcmSeal (key iv aad pt : List Nat) : List Nat × List Nat :=
  let ct := ctrMode (roundKeys key) iv (pt.length + 1) 2 pt
  (ct, gcmTag key iv aad ct)

/-- Verification and decryption under AES-256-GCM: none when the tag fails. -/
def gcmOpen (key iv aad ct tag : List Nat) : Option (List Nat) :=
  if gcmTag key iv aad ct = tag then some (ctrMode (roundKeys key) iv (ct.length + 1) 2 ct) else none

/-- GMAC: the tag of additional data alone (R307). -/
def gmac (key iv aad : List Nat) : List Nat := gcmTag key iv aad []

/-- Byte strings of the model as numbers and back. -/
def natsOf (l : List Byte) : List Nat := l.map BitVec.toNat
def bytesOf (l : List Nat) : List Byte := l.map (BitVec.ofNat 8)

end Sys2Proof
end

