-- ==== Sys2Proof/Machine/Cipher.lean ====
section
/-! DEFINITION. The cipher engine: keys and their loading, epochs, the curtain, lanes and the two tags
(13_cipher.md, R295-R312). -/
namespace Sys2Proof.Machine

/-! ### Derived keys and IVs (R298, R300, R307) -/

/-- Block Xj of R298. -/
def derivationBlock (u a b j : Nat) : List Nat := [0x4B, u, a, b] ++ List.replicate 11 0 ++ [j]

/-- The directional key for a use: 1 parcels, 2 the ARQ tag. -/
def deriveKey (key : List Nat) (u a b : Nat) : List Nat :=
  aes256 key (derivationBlock u a b 1) ++ aes256 key (derivationBlock u a b 2)

/-- A 12-byte IV: its kind, the sending site and gateway, and nine bytes more. -/
def cipherIv (kind site gw : Nat) (rest : List Nat) : List Nat :=
  let w := site * 8192 + gw
  [kind, w / 256, w % 256] ++ rest

def parcelIv (site gw count : Nat) : List Nat := cipherIv 0xD1 site gw ([0, 0, 0] ++ natsOf (bytesBE 6 count))
def arqIv (site gw c lfn : Nat) : List Nat := cipherIv 0xA2 site gw (c :: natsOf (bytesBE 8 lfn))
def timeIv (site gw c lfn : Nat) : List Nat := cipherIv 0x7A site gw (c :: natsOf (bytesBE 8 lfn))

/-- The sheet that gives the module its site: the active one, else the armed one (R312). -/
def State.namingSlot (s : State) : Option Nat :=
  match s.active with
  | some n => some n
  | none => s.armed

def State.ownSite (s : State) : Nat := match s.namingSlot with
  | some n => hSite (s.hdr n)
  | none => 0
def State.ownGateway (s : State) : Nat := match s.namingSlot with
  | some n => hGateway (s.hdr n)
  | none => 0

/-- SITE_INDEX and GATEWAY_INDEX under which the line sends: the active sheet's, or those of the sheet that RETIRE ended,
whose links go on (R118). -/
def State.lineSite (s : State) : Nat × Nat := match s.active with
  | some n => (hSite (s.hdr n), hGateway (s.hdr n))
  | none => s.site.own.getD (s.ownSite, s.ownGateway)

/-- The pair objects of the own site are refused (R312). -/
def State.isOwnSite (s : State) (f : Nat) : Bool := s.namingSlot.isSome && s.ownSite == f

/-! ### The pair's epochs -/

/-- Epoch a lies earlier than epoch b, modulo 2¹⁶ (R304). -/
def epochEarlier (a b : Nat) : Bool :=
  let d := (b + 65536 - a) % 65536
  decide (1 ≤ d) && decide (d ≤ 32767)

def PairSt.key (p : PairSt) (e : Nat) : Option (List Nat) := (p.held.find? (fun k => k.epoch == e)).map (fun k => k.key)

/-- The loaded next epoch: the one held after the transmit epoch. -/
def PairSt.next (p : PairSt) : Option Nat :=
  match p.tx with
  | none => none
  | some e => ((p.held.dropWhile (fun k => k.epoch != e)).drop 1).head?.map (fun k => k.epoch)

/-- The held epochs before the transmit epoch: they drain. -/
def PairSt.draining (p : PairSt) : List KeyEpoch :=
  match p.tx with
  | none => []
  | some e => p.held.takeWhile (fun k => k.epoch != e)

/-- 0x410s.02 PAIR_EPOCHS (Table 13.8). -/
def State.pairEpochs (s : State) (f : Nat) : Nat :=
  let p := s.pair f
  let oldest := p.held.head?
  p.tx.getD 0 + 2 ^ 16 * p.next.getD 0 + 2 ^ 32 * ((oldest.map (fun k => k.epoch)).getD 0)
    + 2 ^ 48 * p.held.length + 2 ^ 50 * b2n p.next.isSome + 2 ^ 51 * b2n p.pending.isSome
    + 2 ^ 52 * b2n (match oldest with
      | some k => k.windowEnd.isSome
      | none => false)

/-- 0x410s.06 ERASE_TIME. -/
def State.eraseTime (s : State) (f : Nat) : Nat :=
  match (s.pair f).draining.head? with
  | some k => match k.windowEnd with
    | some w => toSigned 64 ((s.net : Int) + w - s.now)
    | none => 0
  | none => 0

/-! ### Overlap windows (R305) -/

/-- Links of the active sheet that lead to site f. -/
def State.linksTo (s : State) (f : Nat) : List Nat :=
  match s.active with
  | none => []
  | some n => (List.range (s.linkCount n)).filter (fun l => lFarSite (s.linkEntry n l) == f)

/-- Measured one-way delay of route n on link l [ns] (0x3313 ROUTE_DELAY_NS). -/
def State.routeDelay (s : State) (l n : Nat) : Nat := bits (s.obj (Reg.routeDelayNs l)) (32 * n + 31) (32 * n)

/-- Routes that a link's positions use. -/
def linkRoutes (e : Nat) : List Nat := (List.range 4).filter (fun n => (List.range (lPositions e)).any (fun i => lPosRoute e i == n))

/-- The length of the overlap window of the pair now [ns]. Routes never measured read 0 and take no part
(DEDUCED, log entry 43). -/
def State.overlapWindow (s : State) (f : Nat) : Nat :=
  let ds := ((s.linksTo f).flatMap (fun l => (linkRoutes (s.link l).entry).map (fun n => s.routeDelay l n))).filter (fun d => d != 0)
  let hi := ds.foldl max 0
  let lo := ds.foldl min hi
  2 * (2 * hi) + (hi - lo) + 1000000

/-- The instant at which link l counts as drained for epoch e; `drainsNow`: e is draining. -/
def State.drainedAt (s : State) (l e : Nat) (drainsNow : Bool) : Option Nat :=
  let k := s.link l
  let ds := (k.drainedRx.filter (fun p => p.1 == e || epochEarlier e p.1)).map Prod.snd
  let first := match ds with
    | [] => none
    | d :: r => some (r.foldl min d)
  if k.failed && drainsNow then some (match first with
    | some d => min d k.failedAt
    | none => k.failedAt)
  else first

/-- The latest of instants, none if one is missing. -/
def latest : List (Option Nat) → Option Nat
  | [] => some 0
  | none :: _ => none
  | some a :: r => (latest r).map (fun b => max a b)

/-- The windows of the pair's epochs that can start now do (R305); none does for the own site's index, whose keys stay held
(R312). -/
def State.windowCheck (s : State) (f : Nat) : State :=
  if s.isOwnSite f then s else
  let p := s.pair f
  let ls := s.linksTo f
  let dr := p.draining.map (fun k => k.epoch)
  let held := p.held.map (fun k =>
    let d := dr.contains k.epoch
    if k.windowEnd.isSome then k
    else if ls.isEmpty then (if d then { k with windowEnd := some (s.now + s.overlapWindow f) } else k)
    else if !d && p.tx != some k.epoch then k
    else match latest (ls.map (fun l => s.drainedAt l k.epoch d)) with
      | some a => { k with windowEnd := some (a + s.overlapWindow f) }
      | none => k)
  s.setPair f { p with held := held }

/-- The windows of every pair. -/
def State.windowCheckAll (s : State) : State := (List.range 8).foldl (fun u f => u.windowCheck f) s

/-- The next epoch becomes the transmit epoch and the previous one drains (R303). -/
def State.switchEpoch (s : State) (f e : Nat) : State :=
  let p := s.pair f
  (s.setPair f { p with tx := some e, ivCount := 0, pending := none }).windowCheck f

/-- A pending switch whose epoch has come takes effect (R303, R365), but not one of the own site's index (R312). -/
def State.dueSwitch (s : State) (f : Nat) : State :=
  match (s.pair f).pending with
  | some (e, at_) => if at_ ≤ s.epoch ∧ !s.isOwnSite f then s.switchEpoch f e else s
  | none => s

/-- The key of epoch e is overwritten with everything derived from it (R305). -/
def State.eraseEpoch (s : State) (f e : Nat) : State :=
  let p := s.pair f
  let pend := match p.pending with
    | some (x, a) => if x = e then none else some (x, a)
    | none => none
  (s.setPair f { p with held := p.held.filter (fun k => k.epoch != e), pending := pend }).event 0x4002 f e

/-! ### Lanes, mismatches and the curtain (R308-R310) -/

/-- Bit of LANES_IN_SERVICE of lane 0 to 19. -/
def laneBit (l : Nat) : Nat := if l < 10 then l else 16 + (l - 10)

def State.laneInService (s : State) (l : Nat) : Bool := bit (s.obj Reg.lanesInService) (laneBit l)

/-- The curtain: KLK and SAK are erased (R309). `causes` has the bits of ALARM_STATUS and bit 3 duplicate. -/
def State.curtain (s : State) (causes : Nat) : State :=
  let s := { s with cipher := { s.cipher with klk := none, sak := none } }
  let s := ((s.setObj Reg.klkState 0).setObj Reg.sakState 0).setObj Reg.cipherState 1
  let s := s.setObj Reg.lastCurtain (s.net + 2 ^ 64 * causes)
  (s.event 0x4001 causes 0).bump Reg.curtains

/-- A mismatch on lane 0 to 19 of a message of channel row `ch` of Table 13.1 (R308). -/
def State.laneMismatch (s : State) (l ch : Nat) : State :=
  let last := tget 0 s.cipher.mismatch l
  let out := decide (last ≠ 0) && decide (s.now < last - 1 + 1000000000)
  let s := { s with cipher := { s.cipher with mismatch := tset 0 s.cipher.mismatch l (s.now + 1) } }
  let s := (s.bump Reg.zeroFills).bump Reg.dupMismatches
  let s := s.setObj Reg.lastCipherFault (l % 10 + 16 * (l / 10) + 32 * ch + 256 * b2n out + 512)
  let s := s.points (element 7 l) 1000
  let s := if out then (s.setObj Reg.lanesInService (setBit (s.obj Reg.lanesInService) (laneBit l) false)).failElement (element 7 l) else s
  s.curtain 8

/-- The lanes on which a message mismatches, in turn: at most two, each in service when its turn comes. The
number tells whether the message is lost (2). -/
def State.mismatches (s : State) (ch : Nat) : List Nat → Nat × State
  | [] => (0, s)
  | [a] => if s.laneInService a then (1, s.laneMismatch a ch) else (0, s)
  | a :: b :: _ =>
    if !s.laneInService a then (0, s)
    else
      let s := s.laneMismatch a ch
      if a ≠ b && s.laneInService b then (2, s.laneMismatch b ch) else (1, s)

def alarmBit : AlarmCause → Nat
  | .tamper => 0 | .coreSupply => 1 | .supply => 1 | .temperature => 2

/-- The supply conditions after one has arisen or ended: the core rail's and the other rails' (R310). -/
def supplyBits (v : Nat) (on : Bool) : AlarmCause → Nat
  | .coreSupply => setBit v 0 on
  | .supply => setBit v 1 on
  | _ => v

/-- An alarm condition arises; one that already persists arises no second time (R310). The supply alarm of the core
rail is masked in an Intermission (R451). -/
def execAlarm (t : Nat) (cause : AlarmCause) (s0 : State) : Result :=
  let s := s0.tick t
  let b := alarmBit cause
  let st := s.obj Reg.alarmStatus
  let s := if cause == .coreSupply && s.asleep then s
    else { s with cipher := { s.cipher with supplies := supplyBits s.cipher.supplies true cause } }
  if bit st b || (cause == .coreSupply && s.asleep) then .next s
  else .next ((s.setObj Reg.alarmStatus (setBit st b true)).curtain (2 ^ b))

/-- An alarm condition stops persisting; the supply alarm goes on while the other supply condition does (R310). -/
def execAlarmConditionEnd (t : Nat) (cause : AlarmCause) (s0 : State) : Result :=
  let s := s0.tick t
  let v := supplyBits s.cipher.supplies false cause
  let s := { s with cipher := { s.cipher with supplies := v } }
  let still := decide (alarmBit cause = 1) && v != 0
  .next (s.setObj Reg.alarmStatus (setBit (s.obj Reg.alarmStatus) (alarmBit cause) still))

/-- An urgent message suspends a normal message on a lane; the saved contexts may mismatch (R311). The
message is of channel row 0 on a transmit lane and of row 1 on a receive lane. -/
def execUrgentSuspension (t : Nat) (lane : Fin 20) (mismatch : Bool) (s0 : State) : Result :=
  let s := s0.tick t
  if !s.laneInService lane.val then .next s
  else
    let s := s.bump Reg.suspensions
    .next (if mismatch then s.laneMismatch lane.val (lane.val / 10) else s)

/-! ### Loading keys (R299) -/

/-- A nonce as a 96-bit number in network order; the object holds its bytes in blob order. -/
def nonceOf (obj : Nat) : Nat := ofBytesBE (bytesLE 12 obj)

/-- The result of unwrapping: a status and, when it is OK, the key. -/
def State.unwrap (s : State) (obj : Nat) (b : List Byte) (wrap : List Nat) (mm : List Nat) : Status × Option (List Nat) × State :=
  let (k, s) := s.mismatches 3 mm
  if 2 ≤ k then (stCipherFault, none, s)
  else if k = 1 then (stCurtainActive, none, s)
  else match gcmOpen wrap (natsOf (slice b 4 12)) (natsOf (bytesBE 2 (obj / 256) ++ bytesBE 1 (obj % 256) ++ slice b 0 4))
      (natsOf (slice b 16 32)) (natsOf (slice b 48 16)) with
    | some key => (stOk, some key, s)
    | none => (stAuthFailed, none, s.bump Reg.zeroFills)

/-- The nonce field of a blob as an object holds it. -/
def nonceObj (b : List Byte) : Nat := ofBytesLE (slice b 4 12)

/-- The device root key as bytes. -/
def rootKeyBytes : List Nat := natsOf (bytesLE 32 Config.rootKey.toNat)

/-- The write of KLK_LOAD (R299). WRONG_STATE of an Intermission comes before the reserved bits (R10, R451; DESIGN CHOICE, log
entry 146). -/
def State.writeKlkLoad (s : State) (v : Nat) (mm : List Nat) : Status × State :=
  let b := bytesLE 64 v
  if s.asleep then (stWrongState, s)
  else if bits v 31 0 ≠ 0 then (stReservedNonzero, s)
  else if s.obj Reg.alarmStatus ≠ 0 then (stCurtainActive, s)
  else if ofBytesBE (slice b 4 12) ≤ nonceOf (s.obj Reg.rootNonceLast) then (stReplayed, s)
  else match s.unwrap Reg.klkLoad b rootKeyBytes mm with
    | (st, none, s) => (st, s)
    | (_, some key, s) =>
      let s := { s with cipher := { s.cipher with klk := some key, sak := none } }
      let s := (s.setObj Reg.rootNonceLast (nonceObj b)).setObj Reg.klkNonceLast 0
      (stOk, ((s.setObj Reg.klkState 1).setObj Reg.sakState 0).setObj Reg.cipherState 0)

/-- The write of SAK_LOAD (R299). WRONG_STATE of an Intermission comes before the reserved bits (R10, R451; DESIGN CHOICE, log
entry 146). -/
def State.writeSakLoad (s : State) (v : Nat) (mm : List Nat) : Status × State :=
  let b := bytesLE 64 v
  if s.asleep then (stWrongState, s)
  else if bits v 31 0 ≠ 0 then (stReservedNonzero, s)
  else if s.obj Reg.alarmStatus ≠ 0 then (stCurtainActive, s)
  else match s.cipher.klk with
    | none => (stNoKey, s)
    | some klk =>
      if ofBytesBE (slice b 4 12) ≤ nonceOf (s.obj Reg.klkNonceLast) then (stReplayed, s)
      else match s.unwrap Reg.sakLoad b klk mm with
        | (st, none, s) => (st, s)
        | (_, some key, s) =>
          let s := { s with cipher := { s.cipher with sak := some key } }
          (stOk, (s.setObj Reg.klkNonceLast (nonceObj b)).setObj Reg.sakState 1)

/-- The write of PAIR_KEY_LOAD (R299, R302). WRONG_STATE of an Intermission and OUT_OF_RANGE of the own pair come before the
reserved bits (R10, R312, R451; DESIGN CHOICE, log entry 146). -/
def State.writePairKeyLoad (s : State) (f v : Nat) (mm : List Nat) : Status × State :=
  let b := bytesLE 64 v
  let e := ofBytesBE (slice b 0 2)
  let p := s.pair f
  if s.asleep then (stWrongState, s)
  else if s.isOwnSite f then (stOutOfRange, s)
  else if bits v 31 16 ≠ 0 then (stReservedNonzero, s)
  else if s.obj Reg.alarmStatus ≠ 0 then (stCurtainActive, s)
  else match s.cipher.klk with
    | none => (stNoKey, s)
    | some klk =>
      if ofBytesBE (slice b 4 12) ≤ nonceOf (s.obj Reg.klkNonceLast) then (stReplayed, s)
      else if (p.key e).isSome || (match p.held.getLast? with
          | some k => e != (k.epoch + 1) % 65536
          | none => false) then (stOutOfSequence, s)
      else if 3 ≤ p.held.length then (stKeySlotsFull, s)
      else match s.unwrap (Reg.pairKeyLoad f) b klk mm with
        | (st, none, s) => (st, s)
        | (_, some key, s) =>
          let s := s.setObj Reg.klkNonceLast (nonceObj b)
          let p := s.pair f
          let s := s.setPair f { p with held := p.held ++ [{ epoch := e, key := key }] }
          let check := ofBytesBE (bytesOf ((aes256 key (List.replicate 16 0)).take 6))
          let s := s.setObj (Reg.keyCheck f) (e + 2 ^ 16 * check)
          (stOk, if p.tx.isNone || decide (2 ^ 48 ≤ p.ivCount) then s.switchEpoch f e else s)

def execKlkLoad (t : Nat) (blob : BitVec 512) (mismatch : List (Fin 20)) (s0 : State) : Result :=
  .next ((s0.tick t).managed (fun s => s.writeKlkLoad blob.toNat (mismatch.map Fin.val)))

def execSakLoad (t : Nat) (blob : BitVec 512) (mismatch : List (Fin 20)) (s0 : State) : Result :=
  .next ((s0.tick t).managed (fun s => s.writeSakLoad blob.toNat (mismatch.map Fin.val)))

def execPairKeyLoad (t : Nat) (f : Fin 8) (blob : BitVec 512) (mismatch : List (Fin 20)) (s0 : State) : Result :=
  .next ((s0.tick t).managed (fun s => s.writePairKeyLoad f.val blob.toNat (mismatch.map Fin.val)))

/-- The write of PAIR_SWITCH_REQUEST (R303). OUT_OF_RANGE of the own pair comes before the reserved bits (R10, R312; DESIGN
CHOICE, log entry 146). -/
def State.writePairSwitch (s : State) (f v : Nat) : Status × State :=
  let e := bits v 15 0
  let at_ := bits v 127 64
  let p := s.pair f
  if s.isOwnSite f then (stOutOfRange, s)
  else if bits v 63 16 ≠ 0 then (stReservedNonzero, s)
  else if p.next ≠ some e then (stNoKey, s)
  else if p.pending.isSome then (stSwitchPending, s)
  else if at_ ≠ 0 ∧ at_ ≤ s.epoch then (stEpochPassed, s)
  else if at_ = 0 then (stOk, s.switchEpoch f e)
  else (stOk, s.setPair f { p with pending := some (e, at_) })

def execPairSwitchRequest (t : Nat) (f : Fin 8) (value : BitVec 128) (s0 : State) : Result :=
  .next ((s0.tick t).managed (fun s => s.writePairSwitch f.val value.toNat))

/-- The write of KEY_ERASE (Table 13.5). -/
def State.writeKeyErase (s : State) (f e : Nat) : Status × State :=
  let p := s.pair f
  if s.isOwnSite f then (stOutOfRange, s)
  else if (p.key e).isNone then (stNoKey, s)
  else if p.tx = some e then (stKeyInUse, s)
  else (stOk, s.eraseEpoch f e)

def execKeyErase (t : Nat) (f : Fin 8) (value : BitVec 16) (s0 : State) : Result :=
  .next ((s0.tick t).managed (fun s => s.writeKeyErase f.val value.toNat))

/-- Overlap windows of the pair that have ended: their keys are erased (R305). -/
def execKeyErased (t : Nat) (f : Fin 8) (s0 : State) : Result :=
  let s := s0.tick t
  let due := (s.pair f.val).draining.filter (fun k => match k.windowEnd with
    | some w => decide (w ≤ s.now)
    | none => false)
  .next (if s.isOwnSite f.val then s else due.foldl (fun u k => u.eraseEpoch f.val k.epoch) s)

/-! ### Parcels (R300-R304) -/

/-- A data parcel failed under a held epoch or an epoch not loaded: counted and reported (R304). DEDUCED, log entry 46. -/
def State.authFailure (s : State) (f l route reason : Nat) : State :=
  let s := (s.bump (Reg.authFailed l)).points (element 3 (8 * route + f)) 100
  let p := s.pair f
  let sec := s.net / 1000000000 + 1
  let n := p.authFails + 1
  if p.authSecond = sec then s.setPair f { p with authFails := n }
  else
    let s := s.setPair f { p with authFails := 0, authSecond := sec }
    s.event 0x4006 (f + 256 * route) (reason + 2 ^ 32 * (n % 2 ^ 32))

/-- Verifying and decrypting one received data parcel of 4,144 bytes, from byte 16 of the parcel on, that
came on link l over a route (R300, R301, R304, R306, Table 13.4): its plaintext payload. -/
def State.openParcel (s : State) (l route : Nat) (body : List Byte) : Option (List Byte) × State :=
  let k := (s.link l).entry
  let f := lFarSite k
  let p := s.pair f
  let e := ofBytesBE (slice body 24 2)
  let iv := ofBytesBE (slice body 26 6)
  match p.key e with
  | some key =>
    let pk := deriveKey key 1 f s.ownSite
    match gcmOpen pk (parcelIv f (lFarGateway k) iv) (natsOf (slice body 0 32)) (natsOf (slice body 48 4096)) (natsOf (slice body 32 16)) with
    | some pt => (some (bytesOf pt), s)
    | none => (none, (s.bump Reg.zeroFills).authFailure f l route 1)
  | none =>
    match p.held.getLast? with
    | some n =>
      if epochEarlier n.epoch e then (none, (s.bump (Reg.epochNotLoaded f)).authFailure f l route 2)
      else (none, s.bump (Reg.staleEpoch l))
    | none => (none, (s.bump (Reg.epochNotLoaded f)).authFailure f l route 2)

/-- The pair has a transmit epoch with a value left, once a due switch has taken effect (R302). -/
def State.canEncrypt (s : State) (f : Nat) : Bool :=
  let p := (s.dueSwitch f).pair f
  p.tx.isSome && decide (p.ivCount < 2 ^ 48)

/-- Taking one IV_COUNT: its epoch, its value, and the events of R302. -/
def State.takeIv (s0 : State) (f : Nat) : Nat × Nat × State :=
  let s := s0.dueSwitch f
  let p := s.pair f
  let e := p.tx.getD 0
  let v := p.ivCount
  let s := s.setPair f { p with ivCount := v + 1 }
  let s := if v + 1 = 2 ^ 47 then s.event 0x4003 f e else s
  if v + 1 = 2 ^ 48 then
    match p.next with
    | some n => (e, v, (s.event 0x4005 f n).switchEpoch f n)
    | none => (e, v, s.event 0x4004 f e)
  else (e, v, s)

/-- The coded body of a data parcel: header bytes 16 to 39 given, KEY_EPOCH and IV_COUNT added, tag and
ciphertext behind them (R301, Table 12.6). -/
def State.sealParcel (s : State) (f epoch iv : Nat) (head payload : List Byte) : List Byte :=
  let h := head ++ bytesBE 2 epoch ++ bytesBE 6 iv
  let key := deriveKey (((s.pair f).key epoch).getD []) 1 s.ownSite f
  let (ct, tag) := gcmSeal key (parcelIv s.ownSite s.ownGateway iv) (natsOf h) (natsOf payload)
  h ++ bytesOf tag ++ bytesOf ct

/-! ### The tags of OH-B and of TIME (R307, R372) -/

/-- The tag of OH-B bytes 0 to 239 sent toward site f; none without a transmit epoch. -/
def State.arqTag (s : State) (f c lfn : Nat) (oh : List Byte) : Option (List Byte) :=
  let p := s.pair f
  match p.tx with
  | none => none
  | some e => (p.key e).map (fun k => bytesOf (gmac (deriveKey k 2 s.lineSite.1 f) (arqIv s.lineSite.1 s.lineSite.2 c lfn) (natsOf oh)))

/-- A held epoch, from the newest, under which a received OH-B tag matches. -/
def State.arqTagOk (s : State) (f gw c lfn : Nat) (oh tag : List Byte) : Bool :=
  (s.pair f).held.reverse.any (fun k => gmac (deriveKey k.key 2 f s.lineSite.1) (arqIv f gw c lfn) (natsOf oh) == natsOf tag)

/-- The tag of a time-transfer message: zeros while no SAK is held (R307). -/
def State.timeTag (s : State) (site gw c lfn : Nat) (msg : List Byte) : List Byte :=
  match s.cipher.sak with
  | none => List.replicate 16 0#8
  | some k => bytesOf (gmac k (timeIv site gw c lfn) (natsOf msg))

/-- A received time-transfer tag verifies. -/
def State.timeTagOk (s : State) (site gw c lfn : Nat) (msg tag : List Byte) : Bool :=
  match s.cipher.sak with
  | none => false
  | some k => gmac k (timeIv site gw c lfn) (natsOf msg) == natsOf tag

end Sys2Proof.Machine
end

