-- ==== Sys2Proof/Machine/Format.lean ====
section
/-! DEFINITION. Number formats: decoding every code of every format exactly, rounding once into a format,
and the flags this raises (03_number_formats.md, R50-R73). -/
namespace Sys2Proof

/-- Format codes of Table 3.1; 0xF is reserved (R50). -/
inductive Fmt
  | binary64 | binary32 | binary16 | e16 | f8a | f8b | f6a | f6b | f4 | bs8 | bs4 | i32 | i16 | i8 | i4
  deriving DecidableEq, Repr

/-- The format a 4-bit code names. -/
def fmtOf : Nat → Option Fmt
  | 0 => some .binary64 | 1 => some .binary32 | 2 => some .binary16 | 3 => some .e16 | 4 => some .f8a
  | 5 => some .f8b | 6 => some .f6a | 7 => some .f6b | 8 => some .f4 | 9 => some .bs8 | 10 => some .bs4
  | 11 => some .i32 | 12 => some .i16 | 13 => some .i8 | 14 => some .i4 | _ => none

/-- Bits of one element (Table 3.1); the scale byte of a block is extra. -/
def Fmt.width : Fmt → Nat
  | .binary64 => 64 | .binary32 => 32 | .binary16 => 16 | .e16 => 16 | .f8a => 8 | .f8b => 8
  | .f6a => 6 | .f6b => 6 | .f4 => 4 | .bs8 => 8 | .bs4 => 4 | .i32 => 32 | .i16 => 16 | .i8 => 8 | .i4 => 4

/-- Width of the exponent field, width of the fraction field, bias, and whether the format has
infinities and NaNs (Table 3.1, R52); none for the formats that are not floating-point. -/
def Fmt.float : Fmt → Option (Nat × Nat × Int × Bool)
  | .binary64 => some (11, 52, 1023, true)
  | .binary32 => some (8, 23, 127, true)
  | .binary16 => some (5, 10, 15, true)
  | .e16 => some (8, 7, 127, true)
  | .f8a => some (4, 3, 7, false)
  | .f8b => some (5, 2, 15, true)
  | .f6a => some (3, 2, 3, false)
  | .f6b => some (2, 3, 1, false)
  | .f4 => some (2, 1, 1, false)
  | _ => none

/-- The format is a block-scaled one (R57). -/
def Fmt.isBlock : Fmt → Bool
  | .bs8 => true | .bs4 => true | _ => false

/-- The format is an integer one (R58). -/
def Fmt.isInt : Fmt → Bool
  | .i32 => true | .i16 => true | .i8 => true | .i4 => true | _ => false

/-- A value between decoding and rounding. A decoded code is the manual's W (R62): `fin` with a 64-bit
significand whose top bit is 1, its value being ± `mag` × 2^`e`. A partial of a sum is the same with up to
186 bits and a sticky bit (R81), or a cancelled zero (R81), or a special. The payload of a NaN is the
manual's SIG[62:0]. -/
inductive Val
  | zero (neg : Bool)
  | cancel (sticky : Bool)
  | fin (neg : Bool) (mag : Nat) (e : Int) (sticky : Bool)
  | inf (neg : Bool)
  | nan (neg : Bool) (payload : Nat) (signalling : Bool)
  deriving DecidableEq, Repr

/-- The canonical NaN of Table 3.3. -/
def Val.qnan : Val := .nan false 0 false

/-- The value is not finite. -/
def Val.isSpecial : Val → Bool
  | .inf _ => true | .nan _ _ _ => true | _ => false

/-- A magnitude with its leading bit moved to bit 63 (R62). -/
def normal64 (neg : Bool) (mag : Nat) (e : Int) : Val :=
  if mag = 0 then .zero neg
  else
    let k := bitLen mag
    .fin neg (mag * 2 ^ (64 - k)) (e - (64 - k : Int)) false

/-- Decoding one code of a format that is not block-scaled (R63). -/
def decodeCode (f : Fmt) (code : Nat) : Val :=
  match f.float with
  | some (eb, fb, bias, specials) =>
    let frac := code % 2 ^ fb
    let ex := code / 2 ^ fb % 2 ^ eb
    let neg := bit code (eb + fb)
    if specials && decide (ex = 2 ^ eb - 1) then
      if frac = 0 then .inf neg
      else .nan neg (frac % 2 ^ (fb - 1) * 2 ^ (64 - fb)) (frac / 2 ^ (fb - 1) == 0)
    else if decide (f = .f8a) && code == 0x80 then .qnan
    else if ex = 0 then normal64 neg frac (1 - bias - (fb : Int))
    else normal64 neg (2 ^ fb + frac) ((ex : Int) - bias - (fb : Int))
  | none =>
    let v := ofSigned f.width code
    normal64 (decide (v < 0)) v.natAbs 0

/-- Decoding one element of a block under its scale byte (R57). -/
def decodeBlockCode (f : Fmt) (scale code : Nat) : Val :=
  if scale = 0xFF then .qnan
  else
    let v := ofSigned f.width code
    normal64 (decide (v < 0)) v.natAbs ((scale : Int) - (if f = .bs8 then 133 else 129))

/-- Conversion flags of Table 3.13. -/
def flagInexact : Nat := 1
def flagUnderflow : Nat := 2
def flagOverflow : Nat := 4
def flagInvalid : Nat := 8

/-- Rounding attributes of Table 3.10; 0b101 to 0b111 are reserved (R65). -/
inductive Rnd
  | rne | rna | rtp | rtn | rtz
  deriving DecidableEq, Repr

def rndOf : Nat → Option Rnd
  | 0 => some .rne | 1 => some .rna | 2 => some .rtp | 3 => some .rtn | 4 => some .rtz | _ => none

/-- A magnitude cut at weight 2^q: the whole part, whether anything was cut, and how the cut part
compares with one half. A sticky bit counts as a 1 below every bit (R86): the cut part is then never zero
and never exactly one half. -/
structure Cut where
  keep : Nat
  inexact : Bool
  overHalf : Bool
  half : Bool
  deriving DecidableEq, Repr

def cutAt (mag : Nat) (e q : Int) (sticky : Bool) : Cut :=
  if q ≤ e then { keep := mag * 2 ^ (e - q).toNat, inexact := sticky, overHalf := false, half := false }
  else
    let s := (q - e).toNat
    let r := 2 * (mag % 2 ^ s)
    { keep := mag / 2 ^ s,
      inexact := sticky || r != 0,
      overHalf := decide (2 ^ s < r) || (r == 2 ^ s && sticky),
      half := r == 2 ^ s && !sticky }

/-- The last column of Table 3.10. -/
def roundsUp (rnd : Rnd) (c : Cut) (neg : Bool) : Bool :=
  match rnd with
  | .rne => c.overHalf || (c.half && c.keep % 2 == 1)
  | .rna => c.overHalf || c.half
  | .rtp => c.inexact && !neg
  | .rtn => c.inexact && neg
  | .rtz => false

/-- The whole part after rounding. -/
def roundCut (rnd : Rnd) (c : Cut) (neg : Bool) : Nat := c.keep + b2n (roundsUp rnd c neg)

/-- The code of the largest finite magnitude of a floating-point format, without its sign. -/
def largestCode (eb fb : Nat) (specials : Bool) : Nat :=
  if specials then (2 ^ eb - 1) * 2 ^ fb - 1 else 2 ^ (eb + fb) - 1

/-- The code of a zero: F8A has no negative zero (R54). -/
def zeroCode (f : Fmt) (neg : Bool) : Nat :=
  if f = .f8a then 0 else match f.float with
    | some (eb, fb, _, _) => b2n neg * 2 ^ (eb + fb)
    | none => 0

/-- Table 3.11. -/
def overflowCode (f : Fmt) (rnd : Rnd) (sat neg : Bool) : Nat :=
  match f.float with
  | none => 0
  | some (eb, fb, _, specials) =>
    let sign := b2n neg * 2 ^ (eb + fb)
    let large := sign + largestCode eb fb specials
    let infinite := sign + (2 ^ eb - 1) * 2 ^ fb
    if !specials || sat then large
    else match rnd with
      | .rne => infinite
      | .rna => infinite
      | .rtz => large
      | .rtp => if neg then large else infinite
      | .rtn => if neg then infinite else large

/-- Rounding a finite non-zero magnitude into a floating-point format (R66, R67, R68, R86): the code and
the flags. -/
def roundFloat (f : Fmt) (rnd : Rnd) (sat : Bool) (neg : Bool) (mag : Nat) (e : Int) (sticky : Bool) : Nat × Nat :=
  match f.float with
  | none => (0, 0)
  | some (eb, fb, bias, specials) =>
    let p : Nat := fb + 1
    let emin : Int := 1 - bias
    let ex : Int := (bitLen mag : Int) - 1 + e
    let q0 : Int := max ex emin - fb
    let c := cutAt mag e q0 sticky
    let k0 := roundCut rnd c neg
    let carry := k0 == 2 ^ p
    let keep := if carry then 2 ^ fb else k0
    let q := if carry then q0 + 1 else q0
    let emaxField : Int := if specials then 2 ^ eb - 2 else 2 ^ eb - 1
    if emaxField - bias - fb < q then (overflowCode f rnd sat neg, flagOverflow ||| flagInexact)
    else
      let unb := roundCut rnd (cutAt mag e (ex - fb) sticky) neg
      let tiny := decide (ex < emin) && !(decide (ex = emin - 1) && unb == 2 ^ p)
      let flags := if c.inexact then flagInexact ||| (if tiny then flagUnderflow else 0) else 0
      if keep = 0 then (zeroCode f neg, flags)
      else
        let sign := b2n neg * 2 ^ (eb + fb)
        if keep < 2 ^ fb then (sign + keep, flags)
        else (sign + (q + fb + bias).toNat * 2 ^ fb + (keep - 2 ^ fb), flags)

/-- Rounding a finite non-zero magnitude into an integer format (R70). -/
def roundInt (w : Nat) (rnd : Rnd) (neg : Bool) (mag : Nat) (e : Int) (sticky : Bool) : Nat × Nat :=
  let c := cutAt mag e 0 sticky
  let k := roundCut rnd c neg
  if neg && decide (2 ^ (w - 1) < k) then (2 ^ (w - 1), flagInvalid)
  else if !neg && decide (2 ^ (w - 1) ≤ k) then (2 ^ (w - 1) - 1, flagInvalid)
  else (toSigned w (if neg then -(k : Int) else k), if c.inexact then flagInexact else 0)

/-- Delivering one value into a format that is not block-scaled (R64, R66-R70, R86-R88, Tables 3.11 and
3.12): the code and the flags. -/
def deliver (f : Fmt) (rnd : Rnd) (sat : Bool) : Val → Nat × Nat
  | .zero neg => (zeroCode f neg, 0)
  | .cancel sticky => (zeroCode f (decide (rnd = .rtn)), if sticky then flagInexact else 0)
  | .fin neg mag e sticky =>
    if f.isInt then roundInt f.width rnd neg mag e sticky else roundFloat f rnd sat neg mag e sticky
  | .inf neg =>
    match f.float with
    | some (eb, fb, _, specials) =>
      let sign := b2n neg * 2 ^ (eb + fb)
      if specials then (sign + (2 ^ eb - 1) * 2 ^ fb, 0)
      else if f = .f8a then (if sat then sign + largestCode eb fb specials else 0x80, flagInvalid)
      else (sign + largestCode eb fb specials, flagInvalid)
    | none => (if neg then 2 ^ (f.width - 1) else 2 ^ (f.width - 1) - 1, flagInvalid)
  | .nan neg payload signalling =>
    match f.float with
    | some (eb, fb, _, specials) =>
      let inv := if signalling then flagInvalid else 0
      if specials then
        (b2n neg * 2 ^ (eb + fb) + (2 ^ eb - 1) * 2 ^ fb + 2 ^ (fb - 1) + payload / 2 ^ (64 - fb) % 2 ^ (fb - 1), inv)
      else if f = .f8a then (0x80, inv)
      else (0, flagInvalid)
    | none => (0, flagInvalid)

/-- One element of a block: the integer it rounds to under weight 2^q, and whether it was rounded. -/
def blockElem (rnd : Rnd) (q : Int) : Val → Int × Bool
  | .fin neg mag e sticky =>
    let c := cutAt mag e q sticky
    let k := roundCut rnd c neg
    (if neg then -(k : Int) else k, c.inexact)
  | .cancel sticky => (0, sticky)
  | _ => (0, false)

/-- The exponent of a finite non-zero value. -/
def Val.expOf : Val → Option Int
  | .fin _ mag e _ => some ((bitLen mag : Int) - 1 + e)
  | _ => none

/-- Encoding up to 32 values as one block (R71, R86): the scale byte, the 32 element codes and the flags.
Padding of a short block counts as element 0 (R61). -/
def encodeBlock (f : Fmt) (rnd : Rnd) (vs : List Val) : Nat × List Nat × Nat :=
  let b : Int := if f = .bs8 then 133 else 129
  let top : Int := if f = .bs8 then 127 else 7
  let bottom : Int := if f = .bs8 then -128 else -8
  let w := f.width
  if vs.any Val.isSpecial then
    let inv := vs.any (fun v => match v with
      | .inf _ => true
      | .nan _ _ s => s
      | _ => false)
    (0xFF, List.replicate 32 0, if inv then flagInvalid else 0)
  else
    let sticky0 := vs.any (fun v => match v with | .cancel s => s | _ => false)
    match (vs.filterMap Val.expOf) with
    | [] => (0, List.replicate 32 0, if sticky0 then flagInexact else 0)
    | x0 :: xs =>
      let m := xs.foldl max x0
      let x1 : Int := min (max (m + 127) 0) 254
      let els1 := vs.map (blockElem rnd (x1 - b))
      let again := els1.any (fun p => decide (top < p.1)) && decide (x1 < 254)
      let x := if again then x1 + 1 else x1
      let els := if again then vs.map (blockElem rnd (x - b)) else els1
      let clamped := els.any (fun p => decide (top < p.1) || decide (p.1 < bottom))
      let lost := (vs.zip els).any (fun p => p.1.expOf != none && p.2.1 == 0)
      let flags := (if clamped then flagOverflow ||| flagInexact else 0)
        ||| (if els.any (fun p => p.2) then flagInexact else 0)
        ||| (if lost then flagUnderflow ||| flagInexact else 0)
      let codes := els.map (fun p => toSigned w (min (max p.1 bottom) top))
      (x.toNat, codes ++ List.replicate (32 - codes.length) 0, flags)

/-- Bytes that `n` elements of a format take (R59, R61). -/
def storageBytes (f : Fmt) (n : Nat) : Nat :=
  match f with
  | .bs8 => 33 * ceilDiv n 32
  | .bs4 => 17 * ceilDiv n 32
  | .f6a => 3 * ceilDiv n 4
  | .f6b => 3 * ceilDiv n 4
  | _ => ceilDiv (n * f.width) 8

/-- The offset and the bit position of element `i` in its tensor, for the formats without blocks (R59). -/
def elemCode (f : Fmt) (rd : Nat → Nat) (i : Nat) : Nat :=
  match f with
  | .f6a => (rd (3 * (i / 4)) + 256 * rd (3 * (i / 4) + 1) + 65536 * rd (3 * (i / 4) + 2)) / 2 ^ (6 * (i % 4)) % 64
  | .f6b => (rd (3 * (i / 4)) + 256 * rd (3 * (i / 4) + 1) + 65536 * rd (3 * (i / 4) + 2)) / 2 ^ (6 * (i % 4)) % 64
  | .bs8 => rd (33 * (i / 32) + 1 + i % 32)
  | .bs4 => rd (17 * (i / 32) + 1 + i % 32 / 2) / 16 ^ (i % 2) % 16
  | f =>
    if f.width = 4 then rd (i / 2) / 16 ^ (i % 2) % 16
    else (List.range (f.width / 8)).foldl (fun a k => a + 256 ^ k * rd (i * (f.width / 8) + k)) 0

/-- Element `i` of a tensor whose byte at offset `o` is `rd o` (R57, R59, R63). -/
def elemVal (f : Fmt) (rd : Nat → Nat) (i : Nat) : Val :=
  match f with
  | .bs8 => decodeBlockCode f (rd (33 * (i / 32))) (elemCode f rd i)
  | .bs4 => decodeBlockCode f (rd (17 * (i / 32))) (elemCode f rd i)
  | f => decodeCode f (elemCode f rd i)

/-- Packing codes narrower than a byte or of whole bytes (R59, R61); 6-bit codes go four to three bytes. -/
def packCodes (w : Nat) : List Nat → List Byte
  | a :: b :: c :: d :: r =>
    if w = 6 then bytesLE 3 (a + 64 * b + 4096 * c + 262144 * d) ++ packCodes w r
    else if w = 4 then bytesLE 1 (a + 16 * b) ++ bytesLE 1 (c + 16 * d) ++ packCodes w r
    else bytesLE (w / 8) a ++ bytesLE (w / 8) b ++ bytesLE (w / 8) c ++ bytesLE (w / 8) d ++ packCodes w r
  | [a, b, c] =>
    if w = 6 then bytesLE 3 (a + 64 * b + 4096 * c)
    else if w = 4 then bytesLE 1 (a + 16 * b) ++ bytesLE 1 c
    else bytesLE (w / 8) a ++ bytesLE (w / 8) b ++ bytesLE (w / 8) c
  | [a, b] =>
    if w = 6 then bytesLE 3 (a + 64 * b)
    else if w = 4 then bytesLE 1 (a + 16 * b)
    else bytesLE (w / 8) a ++ bytesLE (w / 8) b
  | [a] => if w = 6 then bytesLE 3 a else bytesLE (max 1 (w / 8)) a
  | [] => []

/-- A list cut into pieces of `n`; `fuel` bounds the pieces. -/
def chunks {α : Type} (n : Nat) : Nat → List α → List (List α)
  | 0, _ => []
  | fuel + 1, l => if l.isEmpty then [] else l.take n :: chunks n fuel (l.drop n)

/-- A run of delivered values as it lies in memory: its bytes, the element codes in order, and the flags
ORed together (R59, R61, R64, R71, R72). -/
def deliverAll (f : Fmt) (rnd : Rnd) (sat : Bool) (vs : List Val) : List Byte × List (Nat × Nat) × Nat :=
  if f.isBlock then
    let blocks := (chunks 32 vs.length vs).map (fun b => (b.length, encodeBlock f rnd b))
    (blocks.flatMap (fun p => bytesLE 1 p.2.1 ++ packCodes f.width p.2.2.1),
     blocks.flatMap (fun p => (p.2.2.1.take p.1).map (fun c => (p.2.1, c))),
     blocks.foldl (fun a p => a ||| p.2.2.2) 0)
  else
    let cs := vs.map (deliver f rnd sat)
    (packCodes f.width (cs.map Prod.fst), cs.map (fun c => (0, c.1)), cs.foldl (fun a c => a ||| c.2) 0)

/-- The value a delivered code means, given the scale byte of its block (0 for other formats). -/
def deliveredVal (f : Fmt) (scale code : Nat) : Val :=
  if f.isBlock then decodeBlockCode f scale code else decodeCode f code

end Sys2Proof
end

