-- ==== Sys2Proof/Machine/Scan.lean ====
section
/-! DEFINITION. Check-value units: configuration, running context, records, and the memory-scan engine
(19_check_value_units.md, R427, R428, R431, R433-R435). -/
namespace Sys2Proof.Machine

/-- The configuration a CV_CONFIG word means (Table 19.2). -/
def cvCfg (v : Nat) : CrcCfg :=
  { width := bits v 198 192, poly := bits v 63 0, init := bits v 127 64, xorout := bits v 191 128,
    refin := bit v 199, refout := bit v 200 }

/-- UNIT, CONTINUE and FINAL of a CHECK cue (Table 19.3). -/
def kUnit (c : Cue) : Nat := bits (cArg c) 2 0
def kContinue (c : Cue) : Bool := bit (cArg c) 3
def kFinal (c : Cue) : Bool := bit (cArg c) 4

/-- The sheet's copy of a unit's configuration (R429). -/
def State.checkCfg (s : State) (n : Nat) (c : Cue) : CrcCfg :=
  cvCfg (tget (objReset (Reg.cvConfig (kUnit c))) (s.slotSt n).copies (Reg.cvConfig (kUnit c)))

/-- CV_STATE (Table 19.7). -/
def State.cvStateWord (s : State) (u : Nat) : Nat :=
  if (s.cv u).cue.isSome then 1 else if (s.cv u).scanning then 2 else 0

/-- The unit runs a cue or a scan. -/
def State.cvBusy (s : State) (u : Nat) : Bool := (s.cv u).cue.isSome || (s.cv u).scanning

/-- The running register as it reads: bits at and above WIDTH are zero (Table 19.7). -/
def State.cvReg (s : State) (u : Nat) : Nat := s.obj (Reg.cvRunning u) % 2 ^ (cvCfg (s.obj (Reg.cvConfig u))).width

/-- The write of CV_CONFIG (R428). -/
def State.writeCvConfig (s : State) (u v : Nat) : Status × State :=
  let c := cvCfg v
  if bits v 255 201 ≠ 0 then (stReservedNonzero, s)
  else if c.width < 8 ∨ 64 < c.width then (stOutOfRange, s)
  else if 2 ^ c.width ≤ c.poly ∨ 2 ^ c.width ≤ c.init ∨ 2 ^ c.width ≤ c.xorout then (stInconsistent, s)
  else if s.cvBusy u then (stUnitBusy, s)
  else (stOk, s.setObj (Reg.cvConfig u) v)

def execCvConfigWrite (t : Nat) (u : Fin 8) (value : BitVec 256) (s0 : State) : Result :=
  .next ((s0.tick t).managed (fun s => s.writeCvConfig u.val value.toNat))

/-- The write of CV_RUNNING (R427, Table 19.5, Table 19.7). -/
def State.writeCvRunning (s : State) (u v : Nat) : Status × State :=
  if 2 ^ (cvCfg (s.obj (Reg.cvConfig u))).width ≤ v then (stInconsistent, s)
  else if s.cvBusy u then (stUnitBusy, s)
  else (stOk, s.setObj (Reg.cvRunning u) v)

/-- The write of CV_RUNNING_LENGTH (R427, Table 19.5). -/
def State.writeCvRunningLength (s : State) (u v : Nat) : Status × State :=
  if s.cvBusy u then (stUnitBusy, s) else (stOk, s.setObj (Reg.cvRunningLength u) v)

def execCvRunningWrite (t : Nat) (u : Fin 8) (target : CvContext) (value : Word64) (s0 : State) : Result :=
  match target with
  | .register => .next ((s0.tick t).managed (fun s => s.writeCvRunning u.val value.toNat))
  | .length => .next ((s0.tick t).managed (fun s => s.writeCvRunningLength u.val value.toNat))

/-- The writes of SCAN_START and SCAN_LENGTH (R433, Table 19.5). -/
def State.writeScanStart (s : State) (u v : Nat) : Status × State :=
  if bits v 63 48 ≠ 0 then (stReservedNonzero, s)
  else if s.cvBusy u then (stUnitBusy, s) else (stOk, s.setObj (Reg.scanStart u) v)
def State.writeScanLength (s : State) (u v : Nat) : Status × State :=
  if bits v 63 48 ≠ 0 then (stReservedNonzero, s)
  else if v = 0 then (stOutOfRange, s)
  else if s.cvBusy u then (stUnitBusy, s) else (stOk, s.setObj (Reg.scanLength u) v)

/-- A record of a unit (R431, Table 19.4). -/
def State.cvProduce (s : State) (u : Nat) (c : CrcCfg) (final scan : Bool) : State :=
  let reg := s.obj (Reg.cvRunning u)
  let alive := (s.obj (Reg.alive u) + 1) % 256
  let value := if final then crcFinal c reg else reg
  let r := value + 2 ^ 64 * alive + 2 ^ 72 * c.width + 2 ^ 79 * b2n final + 2 ^ 80 * u + 2 ^ 83 * b2n scan
    + 2 ^ 96 * (s.obj (Reg.cvRunningLength u) % 2 ^ 32)
  (s.setObj (Reg.alive u) alive).setObj (Reg.cvRecord u) r

/-- The unit processes n bytes from address a (R427). -/
def State.cvFeed (s : State) (u : Nat) (c : CrcCfg) (a n : Nat) : State :=
  let reg := crcFeed c (s.obj (Reg.cvRunning u) % 2 ^ c.width) (s.read a n)
  ((s.setObj (Reg.cvRunning u) reg).bumpBy (Reg.cvRunningLength u) n).bumpBy (Reg.bytesChecked u) n

/-- INIT is loaded and the length count set to 0 (R427). -/
def State.cvLoad (s : State) (u : Nat) (c : CrcCfg) : State :=
  (s.setObj (Reg.cvRunning u) c.init).setObj (Reg.cvRunningLength u) 0

/-- The range lies in cue storage, general HBM or the sheet area (R433). -/
def scannable (a n : Nat) : Bool :=
  decide (0 < n) && (decide (a + n ≤ 0xA0000000)
    || (decide (0xA0000000 ≤ a) && decide (a + n ≤ 0x010C388D0000))
    || (decide (0x800000000000 ≤ a) && decide (a + n ≤ 0x80000F000000)))

/-- A cue of unit u's queue has been dispatched and waits for the unit (Table 19.5). -/
def State.cvHolds (s : State) (u : Nat) : Bool :=
  match s.active with
  | none => false
  | some n => s.eng.taken.any (fun p => match s.posCue n p with
      | some (c, _) => queueOf c == 524 + u
      | none => false)

/-- START and START_CONTINUE (R433, Table 19.5). -/
def State.startScan (s : State) (u : Nat) (cont : Bool) : Status × State :=
  if s.asleep then (stWrongState, s)
  else if !scannable (s.obj (Reg.scanStart u)) (s.obj (Reg.scanLength u)) then (stOutOfRange, s)
  else if s.cvBusy u || s.cvHolds u then (stUnitBusy, s)
  else
    let s := if cont then s else s.cvLoad u (cvCfg (s.obj (Reg.cvConfig u)))
    (stOk, s.setCv u { s.cv u with scanning := true })

/-- The scan stops with the bytes below address `a` processed; its context is saved (R434). -/
def State.haltScan (s : State) (u a : Nat) : State :=
  let start := s.obj (Reg.scanStart u)
  let left := s.obj (Reg.scanLength u)
  let n := a - start
  let s := s.cvFeed u (cvCfg (s.obj (Reg.cvConfig u))) start n
  let s := (s.setObj (Reg.scanStart u) a).setObj (Reg.scanLength u) (left - n)
  let s := s.setObj (Reg.scanSaved u) (s.obj (Reg.cvRunning u) + 2 ^ 64 * s.obj (Reg.cvRunningLength u))
  s.setCv u { s.cv u with scanning := false }

/-- The scan stops at the start of the 64-byte line whose poison at `a` it has met and recorded (R434). -/
def State.failScan (s : State) (u a : Nat) : State :=
  let line := a - a % 64
  let s := s.haltScan u (max line (s.obj (Reg.scanStart u)))
  (s.bump (Reg.scansFailed u)).event 0x9002 u line

/-- The scan goes on to address `a`, or to the first poisoned line before it; `done` follows a scan that reaches
it. -/
def State.scanTo (s : State) (u a : Nat) (done : State → State) : State :=
  let start := s.obj (Reg.scanStart u)
  match (s.poisoned start (a - start)).head? with
  | some l => (s.setObj Reg.lastMemoryError (memoryErrorWord l 3 false 3)).failScan u l
  | none => done s

/-- STOP at the next line boundary, once `lines` of them have been passed (R434). -/
def State.stopScan (s : State) (u lines : Nat) : State :=
  let start := s.obj (Reg.scanStart u)
  let stop := (start / 64 + lines + 1) * 64
  if !(s.cv u).scanning || decide (start + s.obj (Reg.scanLength u) ≤ stop) then s
  else s.scanTo u stop (fun s => s.haltScan u stop)

/-- The scan processes its last byte (R433). -/
def State.endScan (s : State) (u : Nat) : State :=
  let start := s.obj (Reg.scanStart u)
  let n := s.obj (Reg.scanLength u)
  s.scanTo u (start + n) (fun s =>
    let c := cvCfg (s.obj (Reg.cvConfig u))
    let s := (s.cvFeed u c start n).cvProduce u c true true
    let s := (s.setObj (Reg.scanStart u) (start + n)).setObj (Reg.scanLength u) 0
    let s := s.setCv u { s.cv u with scanning := false }
    s.event 0x9001 u (s.obj (Reg.cvRecord u) % 2 ^ 64))

/-- STOP (R434); in an Intermission SCAN_COMMAND is refused (R451). -/
def State.writeScanStop (s : State) (u lines : Nat) : Status × State :=
  if s.asleep then (stWrongState, s) else (stOk, s.stopScan u lines)

/-- The write of SCAN_COMMAND (R433, R434); `lines` tells how far a scan has come that STOP stops. -/
def State.writeScanCommand (s : State) (u v lines : Nat) : Status × State :=
  if v = 1 then s.startScan u false
  else if v = 2 then s.startScan u true
  else if v = 3 then s.writeScanStop u lines
  else (stOutOfRange, s)

def execScanStart (t : Nat) (u : Fin 8) (s0 : State) : Result :=
  .next ((s0.tick t).managed (fun s => s.startScan u.val false))
def execScanStartContinue (t : Nat) (u : Fin 8) (s0 : State) : Result :=
  .next ((s0.tick t).managed (fun s => s.startScan u.val true))
def execScanStop (t : Nat) (u : Fin 8) (lines : Nat) (s0 : State) : Result :=
  .next ((s0.tick t).managed (fun s => s.writeScanStop u.val lines))
def execScanDone (t : Nat) (u : Fin 8) (s0 : State) : Result :=
  let s := s0.tick t
  if !(s.cv u.val).scanning || s.held [(s.obj (Reg.scanStart u.val), s.obj (Reg.scanLength u.val))] then .next s
  else .next (s.endScan u.val)

end Sys2Proof.Machine
end

