-- ==== Sys2Proof/Machine/Memory.lean ====
section
/-! DEFINITION. Memory errors, scrubbing and the hub links; the prefetch descriptors (09_memory_and_buffers.md, R194-R206). -/
namespace Sys2Proof.Machine

/-- The line or word an address lies in. -/
def unitOf (a : Nat) : Nat := a - a % unitSize a

/-- The address is one of device memory (Table 9.1). -/
def inMemory (a : Nat) : Bool :=
  decide (a < 0x010C388D0000) || (decide (0x800000000000 ≤ a) && decide (a < 0x800010000000))

/-- CONSUMER of Table 9.9. -/
def readerCode : MemReader → Nat
  | .fetch => 1 | .decoder => 2 | .cue _ => 3 | .scan _ => 3 | .arq => 4 | .partialWrite => 5

/-- A corrected line or word: counters and health points (R200, Table 17.3). -/
def State.countCorrected (s : State) (u : Nat) : State :=
  if inStaging u then (s.bump Reg.stagingCorrected).points (element 0 0) 1
  else
    let m := mapHbm u
    ((s.bump Reg.hbmCorrected).bump (Reg.stackCorrected (m.1 * 6 + m.2.1))).points (memoryElement u) 1

/-- LAST_MEMORY_ERROR (Table 9.9). -/
def State.noteMemoryError (s : State) (u kind : Nat) (cleared : Bool) (consumer : Nat) : State :=
  s.setObj Reg.lastMemoryError (memoryErrorWord u kind cleared consumer)

/-- A line or word becomes poisoned: KIND 1 on a read, 2 on a scrub (R200, R202). -/
def State.poisonUnit (s : State) (u kind consumer : Nat) : State :=
  let s := { s with poison := insertRising u s.poison }
  let s := s.bump (if inStaging u then Reg.stagingUncorrectable else Reg.hbmUncorrectable)
  let s := s.noteMemoryError u kind false consumer
  let s := s.points (memoryElement u) 2000
  s.event 0x6003 u (s.obj Reg.lastMemoryError)

/-- A dispatched cue that cannot complete: the status it must end with (R133, R201). -/
def State.doom (s : State) (pos status : Nat) : State :=
  { s with eng := { s.eng with running := s.eng.running.map (fun r => if r.pos = pos ∧ r.fate = none then { r with fate := some status } else r) } }

/-- A CHECK cue of slot n's sheet at a position meets poison at a line after it had taken all its bytes: those from the line
on are not processed, and the register, the length count and BYTES_CHECKED stand as the bytes before it leave them (R430,
Table 19.7). -/
def State.uncheck (s : State) (n pos line : Nat) (c : Cue) : State :=
  let u := kUnit c
  let cfg := s.checkCfg n c
  let o := Reg.bytesChecked u
  let a := cAddrA c
  let len := cM c * cN c
  match s.eng.running.find? (fun r => r.pos == pos && r.fate.isNone && r.idle.isNone) with
  | none => s
  | some r =>
    if a + len ≤ line then s
    else
      let s := s.setObj o (s.obj o + 2 ^ objBits o - len % 2 ^ objBits o)
      let s := if kContinue c then (s.setObj (Reg.cvRunning u) r.goal).setObj (Reg.cvRunningLength u) r.done else s.cvLoad u cfg
      s.cvFeed u cfg a (line - a)

/-- Poison reaches a cue other than COLLECTIVE and DECOMPRESS: it ends STREAM_FAILED (Table 9.2). Those two
look at the poison of what they read themselves. A scan stops at the line (R434). -/
def State.poisonReader (s : State) (line : Nat) : MemReader → State
  | .scan u =>
    if (s.cv u.val).scanning && decide (line < s.obj (Reg.scanStart u.val) + s.obj (Reg.scanLength u.val)) then s.failScan u.val line
    else s
  | .cue pos =>
    match s.active with
    | none => s
    | some n =>
      match s.posCue n pos with
      | some (c, _) => if cUnit c = uCollective ∨ cUnit c = uDecompress then s
        else if cUnit c = uCheck then (s.uncheck n pos line c).doom pos 4 else s.doom pos 4
      | none => s
  | _ => s

/-- The cue at a position of the active sheet is a COLLECTIVE. -/
def State.isCollective (s : State) (pos : Nat) : Bool :=
  (s.active.bind (fun n => s.posCue n pos)).any (fun q => cUnit q.1 == uCollective)

/-- The operation that the read belongs to is still to come: a fetch, a SEAL, a decoding, a step of a COLLECTIVE, or the
sending of a stored parcel. -/
def State.freshPoison (s : State) (u : Nat) (reader : MemReader) : State :=
  let later : Bool := match reader with
    | .fetch | .decoder | .arq => true
    | .cue pos => s.isCollective pos
    | _ => false
  if later then { s with memSt := { s.memSt with fresh := (u, readerCode reader) :: s.memSt.fresh } } else s

/-- One read finds an error (R200); a line already poisoned is reported again to its reader and nothing is
counted. An error that the second read clears is recorded as KIND 1 with RETRY_CLEARED, though R200 names no KIND for it
(DESIGN CHOICE, log entry 135). -/
def execMemoryReadError (t : Nat) (addr : BitVec 48) (error : ReadError) (reader : MemReader) (s0 : State) : Result :=
  let s := s0.tick t
  let u := unitOf addr.toNat
  if !inMemory addr.toNat || s.held [(u, 1)] then .next s
  else if s.isPoisoned u 1 then .next ((s.noteMemoryError u 3 false (readerCode reader)).poisonReader u reader)
  else match error with
    | .corrected => .next ((s.countCorrected u).noteMemoryError u 0 false (readerCode reader))
    | .clearedClean => .next (s.noteMemoryError u 1 true (readerCode reader))
    | .clearedCorrected => .next ((s.countCorrected u).noteMemoryError u 1 true (readerCode reader))
    | .uncorrectable => .next (((s.poisonUnit u 1 (readerCode reader)).freshPoison u reader).poisonReader u reader)

/-- A scrub read of one line or word: it corrects, or poisons on the first read (R202). It leaves a poisoned line as it is,
and LAST_MEMORY_ERROR too (DESIGN CHOICE, log entry 148). -/
def State.scrub (s : State) (addr : Nat) (f : ScrubFinding) : State :=
  let u := unitOf addr
  if !inMemory addr || s.isPoisoned u 1 then s
  else match f with
    | .clean => s
    | .corrected => (s.countCorrected u).noteMemoryError u 0 false 0
    | .uncorrectable => s.poisonUnit u 2 0

/-- The HBM scrub reaches a line, the last one of its pass or not; it pauses in an Intermission (R451). -/
def execScrubLine (t : Nat) (addr : BitVec 48) (found : ScrubFinding) (last : Bool) (s0 : State) : Result :=
  let s := s0.tick t
  if inStaging addr.toNat || s.asleep then .next s
  else
    let s := s.scrub addr.toNat found
    .next (if last then s.bump Reg.scrubPasses else s)

/-- The staging store is scrubbed: what was found, word by word. -/
def execStagingScrub (t : Nat) (found : List (BitVec 48 × ScrubFinding)) (s0 : State) : Result :=
  .next (found.foldl (fun s p => if inStaging p.1.toNat then s.scrub p.1.toNat p.2 else s) (s0.tick t))

/-! ### Prefetchers -/

/-- Fields of a descriptor (Table 9.3). -/
def dSrc (d : Nat) : Nat := bits d 47 0
def dDst (d : Nat) : Nat := bits d 111 64
def dDepth (d : Nat) : Nat := bits d 119 112

/-- The write of PREFETCH_DESCRIPTOR (R204). -/
def State.writePrefetch (s : State) (d v : Nat) : Status × State :=
  if bits v 63 48 ≠ 0 ∨ bits v 127 120 ≠ 0 then (stReservedNonzero, s)
  else if dDepth v = 0 ∨ dSrc v % 64 ≠ 0 ∨ dDst v % 64 ≠ 0 then (stInconsistent, s)
  else (stOk, s.setObj (Reg.prefetchDescriptor d) v)

def execPrefetchDescriptorWrite (t : Nat) (d : Fin 64) (value : BitVec 128) (s0 : State) : Result :=
  .next ((s0.tick t).managed (fun s => s.writePrefetch d.val value.toNat))

/-- The write of SCRUB_PERIOD_H (R202). -/
def State.writeScrubPeriod (s : State) (v : Nat) : Status × State :=
  if v = 0 ∨ 168 < v then (stOutOfRange, s) else (stOk, s.setObj Reg.scrubPeriodH v)

end Sys2Proof.Machine
end

