-- ==== Sys2Proof/Machine/Ports.lean ====
section
/-! DEFINITION. The host ports below the streams: frames of the parcel transport, parcel headers and ring
parcels (15_host_ports_and_traffic.md, R336-R340, R347, R360). -/
namespace Sys2Proof.Machine

/-- Fourteen counters of PORT_COUNTERS (Table 15.11). -/
abbrev pcFramesIn : Nat := 0
abbrev pcFramesOut : Nat := 1
abbrev pcForeign : Nat := 2
abbrev pcMalformed : Nat := 3
abbrev pcUnknown : Nat := 4
abbrev pcRevision : Nat := 5
abbrev pcDuplicates : Nat := 6
abbrev pcGaps : Nat := 7
abbrev pcResent : Nat := 8
abbrev pcYellow : Nat := 9
abbrev pcRed : Nat := 10
abbrev pcRolls : Nat := 11
abbrev pcFailovers : Nat := 12
abbrev pcFailures : Nat := 13

/-- Adding one to counter j of port p; it wraps at 64 bits. -/
def State.countPort (s : State) (p j : Nat) : State :=
  let v := s.obj (Reg.portCounters p)
  s.setObj (Reg.portCounters p) (setBits v (64 * j + 63) (64 * j) (bits v (64 * j + 63) (64 * j) + 1))

def State.portMode (s : State) (p : Nat) : Nat := bits (s.obj (Reg.portConfig p)) 1 0
def State.understudyEn (s : State) (p : Nat) : Bool := bit (s.obj (Reg.portConfig p)) 2

/-- UP time of a port so far [ns]: the retry timers run in it (R340). -/
def State.upTime (s : State) (p : Nat) : Nat :=
  let x := s.port p
  x.upBefore + (if x.up then s.now - x.since else 0)

/-! ### Frames (R338, R339) -/

/-- The ones' complement sum of 16-bit words in network order. -/
def sum16 : List Byte → Nat
  | [] => 0
  | [a] => a.toNat * 256
  | a :: b :: r => a.toNat * 256 + b.toNat + sum16 r

/-- A sum folded to 16 bits. -/
def fold16 (x : Nat) : Nat :=
  let y := x % 65536 + x / 65536
  let z := y % 65536 + y / 65536
  z % 65536 + z / 65536

/-- The UDP checksum over the pseudo-header, UDP header and payload; never zero (Table 15.2). -/
def udpChecksum (src dst udp : List Byte) : Nat :=
  let c := 0xFFFF - fold16 (sum16 (src ++ dst ++ bytesBE 4 udp.length ++ bytesBE 4 17) + sum16 udp)
  if c = 0 then 0xFFFF else c

/-- The checksum of a received UDP datagram is right: the folded sum over all of it is all ones. -/
def udpOk (src dst udp : List Byte) : Bool :=
  ofBytesBE (slice udp 6 2) != 0 && fold16 (sum16 (src ++ dst ++ bytesBE 4 udp.length ++ bytesBE 4 17) + sum16 udp) == 0xFFFF

/-- An IPv6 address object as it travels: byte 0 of the object first (DEDUCED, log entry 52). -/
def State.portAddr (s : State) (p : Nat) : List Byte := bytesLE 16 (s.obj (Reg.portIpv6 p))

/-- The frame of Table 15.2 around a parcel, from destination address to FCS. -/
def State.frame (s : State) (p flow : Nat) (dst parcel : List Byte) : List Byte :=
  let src := s.portAddr p
  let port := bytesBE 2 (s.obj Reg.ptUdpPort)
  let len := bytesBE 2 (8 + parcel.length)
  let head := bytesBE 2 (49152 + flow % 16384) ++ port ++ len
  let ck := udpChecksum src dst (head ++ [0#8, 0#8] ++ parcel)
  let f := bytesBE 6 (s.obj (Reg.peerMac p)) ++ bytesBE 6 (s.obj (Reg.portMac p)) ++ [0x86#8, 0xDD#8]
    ++ bytesBE 4 (6 * 2 ^ 28 + flow % 2 ^ 20) ++ len ++ [17#8, 255#8] ++ src ++ dst
    ++ head ++ bytesBE 2 ck ++ parcel
  f ++ bytesLE 4 (crcOf crc32 f)

/-- A frame goes out on a port. -/
def State.sendFrame (s : State) (p flow : Nat) (dst parcel : List Byte) : State :=
  (s.emit (.host p (s.frame p flow dst parcel))).countPort p pcFramesOut

/-- What R339 finds in a received frame without its FCS. -/
inductive FrameClass
  | foreign
  | malformed
  | parcel (bytes : List Byte)
  deriving DecidableEq, Repr

/-- Payload bytes that a TYPE requires: 4,096 for DATA and ring blocks, none for the others. -/
def typeLength (ty : Nat) : Nat := if ty = 0x41 ∨ ty = 0x43 then 4160 else 64

/-- Accepting a frame received on port p (R339). -/
def State.classify (s : State) (p : Nat) (f : List Byte) : FrameClass :=
  let src := slice f 22 16
  let dst := slice f 38 16
  let udp := f.drop 54
  let parcel := f.drop 62
  if f.length < 62 ∨ ofBytesBE (slice f 0 6) ≠ bits (s.obj (Reg.portMac p)) 47 0 ∨ ofBytesBE (slice f 12 2) ≠ 0x86DD
      ∨ ofBytesBE (slice f 20 1) ≠ 17 ∨ dst ≠ s.portAddr p ∨ ofBytesBE (slice f 56 2) ≠ s.obj Reg.ptUdpPort then .foreign
  else if !udpOk src dst udp || ofBytesBE (slice f 18 2) != udp.length || ofBytesBE (slice f 58 2) != udp.length
      || parcel.length != typeLength (ofBytesBE (slice parcel 0 1)) then .malformed
  else .parcel parcel

/-! ### Headers (R347, R360) -/

/-- HDR_CHECK behind bytes 0 to 61. -/
def withCheck (h : List Byte) : List Byte := h ++ bytesBE 2 (crcOf crc16Hdr h)

/-- HDR_CHECK is right. -/
def checkOk (h : List Byte) : Bool := crcOf crc16Hdr (h.take 62) == ofBytesBE (slice h 62 2)

/-- Feedback for one stream of the peer's: (FB_STREAM, CREDIT_LIMIT, ACK_PSN, gap as (GAP_SEQ, GAP_PSN), failed). -/
structure Feedback where
  stream : Nat
  credit : Nat
  ack : Nat
  gap : Option (Nat × Nat)
  failed : Bool
  deriving DecidableEq, Repr

/-- The header of Table 15.3; `ty` is DATA 0x41 or CONTROL 0x42. -/
def parcelHeader (ty : Nat) (resend : Bool) (stream psn off len job rev tok : Nat) (fb : Option Feedback) : List Byte :=
  let flags := b2n resend + (match fb with
    | none => 0
    | some f => 2 + 4 + 8 * b2n f.gap.isSome + 16 * b2n f.failed)
  let g := (fb.bind (fun f => f.gap)).getD (0, 0)
  let z : Feedback := fb.getD { stream := 0, credit := 0, ack := 0, gap := none, failed := false }
  withCheck (bytesBE 1 ty ++ [3#8] ++ bytesBE 1 flags ++ bytesBE 1 g.1 ++ bytesBE 4 stream ++ bytesBE 4 psn ++ bytesBE 8 off
    ++ bytesBE 2 len ++ bytesBE 2 job ++ bytesBE 2 rev ++ bytesBE 4 tok ++ bytesBE 4 z.stream ++ bytesBE 4 z.credit
    ++ bytesBE 4 z.ack ++ bytesBE 4 g.2 ++ List.replicate 16 0#8)

/-- RING_CONFIG fields. -/
def State.ringEnabled (s : State) : Bool := bit (s.obj Reg.ringConfig) 0
def State.ringPos (s : State) : Nat := bits (s.obj Reg.ringConfig) 2 1
def State.ringSize (s : State) : Nat := bits (s.obj Reg.ringConfig) 4 3 + 1

/-- The ring position behind HP14 or HP15 (R359). -/
def State.ringNeighbour (s : State) (p : Nat) : Nat :=
  if p = 15 then (s.ringPos + 1) % s.ringSize else (s.ringPos + s.ringSize - 1) % s.ringSize

/-- The ring port that leads to a position, HP15 first; none unless it is a neighbour's. -/
def State.ringPortTo (s : State) (pos : Nat) : Option Nat :=
  [15, 14].find? (fun p => s.ringNeighbour p == pos && pos != s.ringPos)

/-- A ring link in service (R359). -/
def State.ringUp (s : State) (p : Nat) : Bool := s.ringEnabled && (s.port p).ringUp

/-- The site index of the module's sheet, as ring hellos and headers carry it. -/
def State.sheetSite (s : State) : Nat := match s.active with
  | some n => hSite (s.hdr n)
  | none => 0

/-- A RING_CONTROL header (Table 15.8). -/
def State.ringControl (s : State) (msg owner wc rate under farSite members : Nat) : List Byte :=
  withCheck ([0x44#8, 3#8] ++ bytesBE 1 owner ++ bytesBE 1 (wc + 32 * rate) ++ [0#8, 0#8, 0#8] ++ bytesBE 1 members
    ++ List.replicate 8 0#8 ++ bytesBE 1 msg ++ bytesBE 1 (s.ringPos + 4 * (s.ringSize - 1) + 16 * s.sheetSite)
    ++ bytesBE 1 under ++ bytesBE 1 farSite ++ List.replicate 42 0#8)

/-- A ring parcel waits on a ring port, control ahead of blocks (R356). -/
def State.queueRing (s : State) (p : Nat) (parcel : List Byte) : State :=
  let x := s.port p
  if parcel.head? = some 0x44#8 then
    s.setPort p { x with ringQ := x.ringQ.filter (fun q => q.head? == some 0x44#8) ++ [parcel] ++ x.ringQ.filter (fun q => q.head? != some 0x44#8) }
  else s.setPort p { x with ringQ := x.ringQ ++ [parcel] }

/-- Consecutive blocks per RING_BLOCKS parcel by rate (R360). -/
def ringBlockCount : Nat → Nat
  | 0 => 8 | 1 => 10 | _ => 16

/-- A block of an owner's frame on its way over the ring: (LFN, payload block, page, members, block). -/
abbrev RingBlock := Nat × Nat × Nat × Nat × List Byte

/-- A RING_BLOCKS parcel (R360, Table 15.8). -/
def ringBlocks (owner wc rate : Nat) (bs : List RingBlock) : List Byte :=
  match bs with
  | [] => []
  | (lfn, p, page, mem, b) :: r =>
    let data := b ++ r.flatMap (fun x => x.2.2.2.2)
    withCheck ([0x43#8, 3#8] ++ bytesBE 1 owner ++ bytesBE 1 (wc + 32 * rate) ++ bytesBE 1 p ++ bytesBE 1 bs.length
      ++ bytesBE 1 page ++ bytesBE 1 mem ++ bytesBE 8 lfn ++ List.replicate 46 0#8)
      ++ data ++ List.replicate (4096 - data.length) 0#8

/-- Whole parcels leave a buffer of blocks onto a ring port; what is left waits. -/
def State.sendBlocks (p owner wc rate : Nat) : Nat → State → List RingBlock → State × List RingBlock
  | 0, s, buf => (s, buf)
  | k + 1, s, buf =>
    let n := ringBlockCount rate
    if buf.length < n then (s, buf)
    else State.sendBlocks p owner wc rate k (s.queueRing p (ringBlocks owner wc rate (buf.take n))) (buf.drop n)

end Sys2Proof.Machine
end

