-- ==== Sys2Proof/Machine/Pool.lean ====
section
/-! DEFINITION. Failed streams; the buffer pool and what the units draw from it (09_memory_and_buffers.md, R207-R216;
R241, R277, R280, R285, R286, R348, R352, R353). -/
namespace Sys2Proof.Machine

/-! ### A stream fails -/

/-- The cue moves the bytes of stream i: HOST_OUT, HOST_IN, LINE_OUT or LINE_IN. -/
def movesStream (c : Cue) (i : Nat) : Bool :=
  decide (uHostOut ≤ cUnit c) && decide (cUnit c ≤ uLineIn) && cStream c == i

/-- Running cues on stream i cannot complete any more (R286, R353). -/
def State.doomStream (s : State) (i : Nat) : State :=
  match s.active with
  | none => s
  | some n => s.eng.running.foldl (fun u r => match u.posCue n r.pos with
      | some (c, _) => if movesStream c i then u.doom r.pos 4 else u
      | none => u) s

/-- A stream fails, with the reason of event STREAM_FAILED (Table 18.7). -/
def State.failStream (s : State) (i reason : Nat) : State :=
  let x := s.stream i
  if x.failed.isSome || x.entry == 0 then s
  else ((s.setStream i { x with failed := some reason }).event 0x5010 i reason).doomStream i

/-- A HOST stream fails (R353): event, counter and health points of its port. -/
def State.hostFail (s : State) (i reason : Nat) : State :=
  let x := s.stream i
  if x.failed.isSome || x.entry == 0 then s
  else ((s.failStream i reason).countPort x.port pcFailures).points (element 9 x.port) 500

/-- A stream fails under the rules of its own chapter (R286, R353). -/
def State.failByKind (s : State) (i reason : Nat) : State :=
  if eKind (s.stream i).entry = kindHost then s.hostFail i reason else s.failStream i reason

/-! ### The buffer pool -/

/-- A buffer that is not free. -/
def State.buffer (s : State) (b : Nat) : Option Buffer := tget none s.memSt.buffers b

/-- Replacing what the pool knows of a buffer; none frees it. -/
def State.setBuffer (s : State) (b : Nat) (x : Option Buffer) : State :=
  { s with memSt := { s.memSt with buffers := tset none s.memSt.buffers b x } }

/-- Buffers charged to an owner (R210, R213). -/
def State.usage (s : State) (o : Nat) : Nat :=
  (s.memSt.buffers.filter (fun p => match p.2 with
    | some x => x.owner == o
    | none => false)).length

def State.minOf (s : State) (o : Nat) : Nat := bits (s.obj (Reg.ownerLimits o)) 22 0
def State.capOf (s : State) (o : Nat) : Nat := bits (s.obj (Reg.ownerLimits o)) 54 32

/-- 0x6200.03 POOL_FREE. -/
def State.poolFree (s : State) : Nat := s.obj Reg.poolBuffers - s.memSt.buffers.length

/-- 0x6200.04 POOL_RESERVED_UNUSED: the unused reservations (R210). -/
def State.reservedUnused (s : State) : Nat :=
  (List.range 64).foldl (fun a o => a + (s.minOf o - s.usage o)) 0

/-- Sum of all owners' MIN. -/
def State.minSum (s : State) : Nat := (List.range 64).foldl (fun a o => a + s.minOf o) 0

/-- The lowest number from `lo` on that a table with rising numbers does not list (R208). -/
def firstFree : Nat → Tab (Option Buffer) → Nat
  | lo, [] => lo
  | lo, (k, _) :: r => if k = lo then firstFree (lo + 1) r else lo

/-- 0x6200.0B BITMAP_WORD: word w of L0 (R208). -/
def State.bitmapWord (s : State) (w : Nat) : Nat :=
  (List.range 64).foldl (fun v i =>
    let b := 64 * w + i
    setBit v i (decide (b < s.obj Reg.poolBuffers) && (s.buffer b).isNone)) 0

/-- An ALLOCATE by owner o would succeed (R210). -/
def State.canAllocate (s : State) (o : Nat) : Bool :=
  let u := s.usage o
  decide (firstFree 0 s.memSt.buffers < s.obj Reg.poolBuffers)
    && (decide (u < s.minOf o) || (decide (u < s.capOf o) && decide (s.reservedUnused < s.poolFree)))

/-- The lowest free buffer goes to owner o (R208). -/
def State.grantBuffer (s : State) (o : Nat) : State :=
  (s.setBuffer (firstFree 0 s.memSt.buffers) (some { owner := o })).bump Reg.poolAllocations

/-- Buffers that a store holds, newest first. -/
def State.storeOf (s : State) (k : Nat) : List (Nat × Nat) := tget [] s.memSt.stores k

/-- Replacing them. -/
def State.setStore (s : State) (k : Nat) (l : List (Nat × Nat)) : State :=
  { s with memSt := { s.memSt with stores := tset [] s.memSt.stores k l } }

/-- An ALLOCATE of owner o for a store of its unit succeeds; none: the command alone asks. -/
def State.grantTo (s : State) (o : Nat) (store : Option Nat) : State :=
  let b := firstFree 0 s.memSt.buffers
  let s := s.grantBuffer o
  match store with
  | some k => s.setStore k ((o, b) :: s.storeOf k)
  | none => s

/-- ALLOCATE, granted or deferred (R210, R211). -/
def State.allocateFor (s : State) (o : Nat) (store : Option Nat) : State :=
  if s.canAllocate o then s.grantTo o store
  else State.bump { s with memSt := { s.memSt with deferred := s.memSt.deferred ++ [(o, store)] } } Reg.allocDeferred

def execAllocate (t : Nat) (o : Fin 64) (s0 : State) : Result := .next (State.allocateFor (s0.tick t) o.val none)

/-- The oldest deferred ALLOCATE of owner o is tried again after a completed FREE; it is not counted again (R211). Answers
the store that has got a buffer. -/
def State.retryAllocate (s : State) (o : Nat) : Option Nat × State :=
  if !s.memSt.retry.contains o then (none, s)
  else
    let s := { s with memSt := { s.memSt with retry := s.memSt.retry.erase o } }
    match s.memSt.deferred.find? (fun d => d.1 == o) with
    | some d =>
      if s.canAllocate o then (d.2, State.grantTo { s with memSt := { s.memSt with deferred := s.memSt.deferred.erase d } } o d.2)
      else (none, s)
    | none => (none, s)

/-- LAST_POOL_ERROR (Table 9.10): operation 0 ALLOCATE, 1 SHARE, 2 RELEASE, 3 FREE. -/
def poolErrorWord (b o op reason : Nat) : Nat := b + 2 ^ 23 * o + 2 ^ 29 * op + 2 ^ 32 * (reason % 16) + 2 ^ 63

/-- The routes of a LINE stream's link. -/
def State.streamRoutes (s : State) (x : StreamCtx) : List Nat :=
  if eKind x.entry = kindLine then linkRoutes (s.link (eLink x.entry)).entry else []

/-- The owners that route n of the active plan charges for its retransmit store and for its deskew and stripe hold (Table
12.2). -/
def State.retxOwner (s : State) (n : Nat) : Nat := match s.active with
  | some a => bits (s.routeEntry a n) 5 0
  | none => 0
def State.skewOwner (s : State) (n : Nat) : Nat := match s.active with
  | some a => bits (s.routeEntry a n) 13 8
  | none => 0

/-- The streams whose units draw on the pool as owner o: it is their RX_OWNER, or an owner of a route they use. -/
def State.ownerStreams (s : State) (o : Nat) : List Nat :=
  (s.streams.filter (fun p =>
    (eKind p.2.entry == kindHost || eKind p.2.entry == kindLine) && (eRxOwner p.2.entry == o
      || (s.streamRoutes p.2).any (fun n => s.retxOwner n == o || s.skewOwner n == o)))).map Prod.fst

/-- A pool operation that breaks the rules is refused and reported; the buffer stays as it was. The streams of the owner's
unit fail, with a reason that the manual does not give (R215; a free value, DESIGN CHOICE, log entry 128). -/
def State.poolRefused (s : State) (b o op reason : Nat) : State :=
  let s := s.setObj Reg.lastPoolError (poolErrorWord b o op reason)
  let s := ((s.bump Reg.poolErrors).event 0x6004 (s.obj Reg.lastPoolError) 0).points (element 0 0) 2000
  (s.ownerStreams o).foldl (fun u i =>
    let (r, u) := u.takeFree
    u.failByKind i (r % 256)) s

/-- A buffer goes back to the free store, and the deferred ALLOCATEs are told (R211, R214). -/
def State.freeBuffer (s : State) (b : Nat) : State :=
  let s := s.setBuffer b none
  State.bump { s with memSt := { s.memSt with retry := s.memSt.deferred.map Prod.fst } } Reg.poolFrees

/-- The owners of a bitmap. -/
def ownersOf (m : Nat) : List Nat := (List.range 64).filter (fun o => bit m o)

/-- SHARE (R213). A last owner outside the claimants breaks the rules too; Table 9.5 has no reason for it, so
that reason is a free value (DESIGN CHOICE, log entry 42). -/
def execShare (t : Nat) (o : Fin 64) (b : BitVec 23) (claimants : BitVec 64) (last : Fin 64) (s0 : State) : Result :=
  let s := s0.tick t
  let o := o.val
  let b := b.toNat
  let cs := ownersOf (setBit claimants.toNat o true)
  if s.obj Reg.poolBuffers ≤ b then .next (s.poolRefused b o 1 6)
  else match s.buffer b with
    | none => .next (s.poolRefused b o 1 4)
    | some x =>
      if x.owner ≠ o then .next (s.poolRefused b o 1 4)
      else if !x.claims.isEmpty || x.pendingFree then .next (s.poolRefused b o 1 5)
      else if !cs.contains last.val then
        let (r, s) := s.takeFree
        .next (s.poolRefused b o 1 r)
      else .next (s.setBuffer b (some { x with claims := cs, last := last.val }))

/-- The buffer has been shared (R213). -/
def Buffer.shared (x : Buffer) : Bool := !x.claims.isEmpty || x.pendingFree

/-- RELEASE (R214). -/
def execRelease (t : Nat) (o : Fin 64) (b : BitVec 23) (s0 : State) : Result :=
  let s := s0.tick t
  let o := o.val
  let b := b.toNat
  if s.obj Reg.poolBuffers ≤ b then .next (s.poolRefused b o 2 6)
  else match s.buffer b with
    | none => .next (s.poolRefused b o 2 1)
    | some x =>
      if x.shared && x.last == o then .next (s.poolRefused b o 2 3)
      else if !x.claims.contains o then .next (s.poolRefused b o 2 4)
      else
        let x := { x with claims := x.claims.erase o }
        if x.pendingFree && x.claims.isEmpty then .next (s.freeBuffer b) else .next (s.setBuffer b (some x))

/-- FREE (R214). -/
def State.freeFor (s : State) (o b : Nat) : State :=
  if s.obj Reg.poolBuffers ≤ b then s.poolRefused b o 3 6
  else match s.buffer b with
    | none => s.poolRefused b o 3 1
    | some x =>
      if !x.shared then (if x.owner = o then s.freeBuffer b else s.poolRefused b o 3 4)
      else if x.last ≠ o || !x.claims.contains o then s.poolRefused b o 3 2
      else
        let x := { x with claims := x.claims.erase o, pendingFree := true }
        if x.claims.isEmpty then s.freeBuffer b else s.setBuffer b (some x)

def execFreeBuffer (t : Nat) (o : Fin 64) (b : BitVec 23) (s0 : State) : Result := .next (State.freeFor (s0.tick t) o.val b.toNat)

/-! ### What the units draw (R211, R241, R277, R280, R285, R348, R352) -/

def rxStore (i : Nat) : Nat := i
def armedStore (i : Nat) : Nat := 16384 + i
def retxStore (n : Nat) : Nat := 32768 + n
def skewStore (n : Nat) : Nat := 32772 + n

/-- Buffers for a number of parcels: 15 of 4,160 bytes fill one (spec/12, "Sizing the stores"). -/
def buffersFor (parcels : Nat) : Nat := ceilDiv parcels 15

/-- An ALLOCATE for the store is deferred. -/
def State.short (s : State) (k : Nat) : Bool := s.memSt.deferred.any (fun d => d.2 == some k)

/-- The newest deferred ALLOCATE of a store is withdrawn. -/
def State.withdraw (s : State) (k : Nat) : State :=
  match s.memSt.deferred.reverse.find? (fun d => d.2 == some k) with
  | some d => { s with memSt := { s.memSt with deferred := (s.memSt.deferred.reverse.erase d).reverse } }
  | none => s

/-- A store gives back a buffer. -/
def State.giveBack (s : State) (k : Nat) (p : Nat × Nat) : State := (s.setStore k ((s.storeOf k).erase p)).freeFor p.1 p.2

/-- A unit's store of owner o is to hold n buffers: it allocates what it lacks, and frees, newest first, what it needs no
more; so does an ALLOCATE that waits (DESIGN CHOICE, log entry 128). The operations of that, each with its owner. -/
def State.storeOps (s : State) (k o n : Nat) : List (Nat × (State → State)) :=
  let held := s.storeOf k
  let wait := (s.memSt.deferred.filter (fun d => d.2 == some k)).length
  let cut := held.length + wait - n
  List.replicate (min cut wait) (o, fun u => u.withdraw k)
    ++ (held.take (cut - wait)).map (fun p => (p.1, fun u => u.giveBack k p))
    ++ List.replicate (n - (held.length + wait)) (o, fun u => u.allocateFor o (some k))

/-- An operation put in front of those of its owner and of higher ones. -/
def insertOp (x : Nat × (State → State)) : List (Nat × (State → State)) → List (Nat × (State → State))
  | [] => [x]
  | y :: r => if x.1 ≤ y.1 then x :: y :: r else y :: insertOp x r

/-- Stores that are to hold other numbers of buffers at one instant, as (store, owner, buffers): the operations of all of
them are taken in increasing owner number (R209). -/
def State.fitStores (s : State) (l : List (Nat × Nat × Nat)) : State :=
  ((l.flatMap (fun x => s.storeOps x.1 x.2.1 x.2.2)).foldr insertOp []).foldl (fun u op => op.2 u) s
def State.fitStore (s : State) (k o n : Nat) : State := s.fitStores [(k, o, n)]

/-- Up to this position cues take the inbound bytes: those that a closed stretch covers stay where they are (R23). -/
def StreamCtx.openTo (x : StreamCtx) : Nat := (x.covers.filter Cover.closed).foldl (fun a c => min a c.start) x.rxCover

/-- Parcels of stream i whose bytes no cue takes yet (R277, R348). -/
def StreamCtx.heldParcels (x : StreamCtx) : Nat :=
  (x.rxPars.filter (fun p => decide (0 < p.data.length) && decide (x.openTo < p.offset + p.data.length))).length

/-- Stream i's parcels are charged to its RX_OWNER. -/
def State.rxWant (s : State) (i : Nat) : Nat × Nat × Nat :=
  let x := s.stream i
  (rxStore i, eRxOwner x.entry, buffersFor x.heldParcels)
def State.fitRx (s : State) (i : Nat) : State := s.fitStores [s.rxWant i]

/-- Parcels held for the armed sheet are charged to the RX_OWNER of its entry e (R352). -/
def State.armedWant (s : State) (i e : Nat) : Nat × Nat × Nat :=
  (armedStore i, eRxOwner e, buffersFor (s.stream i).armedHeld.length)
def State.fitArmed (s : State) (i e : Nat) : State := s.fitStores [s.armedWant i e]

/-- Parcels that the retransmit store of route n holds (R285). -/
def State.storedOn (s : State) (n : Nat) : Nat :=
  (s.links.map (fun l => (l.2.stripes.map (fun t => (((List.range t.positions.length).zip t.positions).filter (fun p =>
    p.2.body.isSome && lPosRoute l.2.entry p.1 == n)).length)).foldl (· + ·) 0)).foldl (· + ·) 0

/-- Parcels that the stripe hold of route n holds (R280). -/
def State.openOn (s : State) (n : Nat) : Nat :=
  (s.links.map (fun l => (l.2.open_.map (fun t =>
    (t.bodies.filter (fun p => lPosRoute l.2.entry p.1 == n)).length)).foldl (· + ·) 0)).foldl (· + ·) 0

/-- Frames that the deskew of route n holds, each of which takes a buffer (R241; DESIGN CHOICE, log entry 128). -/
def State.framesOn (s : State) (n : Nat) : Nat :=
  ((List.range 8).map (fun i => (s.chan (8 * n + i)).held.length)).foldl (· + ·) 0

/-- The stores of the routes hold what they must. -/
def State.routeWants (s : State) : List (Nat × Nat × Nat) :=
  (List.range 4).flatMap (fun n => [(retxStore n, s.retxOwner n, buffersFor (s.storedOn n)),
    (skewStore n, s.skewOwner n, buffersFor (s.openOn n) + s.framesOn n)])
def State.fitRoutes (s : State) : State := s.fitStores s.routeWants

/-- Credit that a deferred ALLOCATE would back is withheld: this end grants none (R211; DEDUCED, log entry 109). -/
def State.rxShort (s : State) (i : Nat) : Bool :=
  s.short (rxStore i) || (s.streamRoutes (s.stream i)).any (fun n => s.short (skewStore n))

/-- The same at the sender: it uses none while the retransmit store of a route of its link is short. -/
def State.txShort (s : State) (i : Nat) : Bool := (s.streamRoutes (s.stream i)).any (fun n => s.short (retxStore n))

/-- A region of n buffers lies wholly in the general HBM range; an empty one always does (R207). -/
def poolFits (base n : Nat) : Bool :=
  n == 0 || (decide (0xA0000000 ≤ base) && decide (base + 65536 * n ≤ 0x010C388D0000))

/-- The pool may be configured: no slot SEALED, ARMED or ACTIVE and no buffer allocated (R207). -/
def State.poolBusy (s : State) : Bool :=
  s.anySlot [slotSealed, slotArmed, slotActive] || !s.memSt.buffers.isEmpty

/-- The write of POOL_BASE (R207). -/
def State.writePoolBase (s : State) (v : Nat) : Status × State :=
  if s.poolBusy then (stSlotBusy, s)
  else if v % 65536 ≠ 0 || !poolFits v (s.obj Reg.poolBuffers) then (stOutOfRange, s)
  else (stOk, s.setObj Reg.poolBase v)

/-- The write of POOL_BUFFERS (R207). -/
def State.writePoolBuffers (s : State) (v : Nat) : Status × State :=
  if s.poolBusy then (stSlotBusy, s)
  else if 4194304 < v || !poolFits (s.obj Reg.poolBase) v then (stOutOfRange, s)
  else if v < s.minSum then (stInconsistent, s)
  else (stOk, s.setObj Reg.poolBuffers v)

def execPoolConfigWrite (t : Nat) (target : PoolRegister) (value : Word64) (s0 : State) : Result :=
  match target with
  | .base => .next ((s0.tick t).managed (fun s => s.writePoolBase value.toNat))
  | .buffers => .next ((s0.tick t).managed (fun s => s.writePoolBuffers (value.toNat % 2 ^ 32)))

/-- The write of OWNER_LIMITS (R212). -/
def State.writeOwnerLimits (s : State) (o v : Nat) : Status × State :=
  let mn := bits v 22 0
  let cap := bits v 54 32
  let old := s.minOf o
  if bits v 31 23 ≠ 0 ∨ bits v 63 55 ≠ 0 then (stReservedNonzero, s)
  else if cap < mn ∨ s.obj Reg.poolBuffers < cap then (stInconsistent, s)
  else if s.obj Reg.poolBuffers < s.minSum - old + mn then (stInconsistent, s)
  else if old < mn ∧ s.poolFree - s.reservedUnused < mn - old then (stInconsistent, s)
  else (stOk, s.setObj (Reg.ownerLimits o) v)

def execOwnerLimitsWrite (t : Nat) (o : Fin 64) (value : Word64) (s0 : State) : Result :=
  .next ((s0.tick t).managed (fun s => s.writeOwnerLimits o.val value.toNat))

end Sys2Proof.Machine
end

