-- ==== Sys2Proof/Machine/Streams.lean ====
section
/-! DEFINITION. What HOST and LINE streams share: bytes put into parcels under credit, remote tokens that
ride them, delivery into the stretches that cues cover, limits, and failure (R109, R123-R125, R277, R278,
R345, R349). -/
namespace Sys2Proof.Machine

/-- a lies after b, modulo 2³². -/
def seqAfter (a b : Nat) : Bool :=
  let d := (a + 2 ^ 32 - b % 2 ^ 32) % 2 ^ 32
  decide (1 ≤ d) && decide (d < 2 ^ 31)

/-- b + n modulo 2³². -/
def seqAdd (b n : Nat) : Nat := (b + n) % 2 ^ 32

/-- Credit of a stream: its limit minus the next PSN (R125, R278, R349). A limit 2³¹ or more ahead counts as passed, so it
gives no credit (DESIGN CHOICE, log entry 122). -/
def StreamCtx.credit (x : StreamCtx) : Nat := if seqAfter x.txLimit x.txPsn then (x.txLimit + 2 ^ 32 - x.txPsn) % 2 ^ 32 else 0

/-! ### Sending -/

/-- Stream bytes of an item. -/
def TxItem.len : TxItem → Nat
  | .mem _ _ n _ _ => n
  | .lit b _ => b.length
  | _ => 0

/-- The cue that owns an item's bytes. -/
def TxItem.owner : TxItem → Option Nat
  | .mem _ _ _ _ p => some p
  | .lit _ p => some p
  | _ => none

/-- Wire byte i of a tensor of elements of w bytes is byte `wireToMem w i` of its memory form (R60). -/
def wireToMem (w i : Nat) : Nat := if w ≤ 1 then i else i / w * w + (w - 1 - i % w)

/-- The bytes of an item in wire order. -/
def State.itemBytes (s : State) : TxItem → List Byte
  | .mem base off n w _ => (List.range n).map (fun k => readByte s.mem (base + wireToMem w (off + k)))
  | .lit b _ => b
  | _ => []

/-- Where the tensor that an item's bytes belong to stands. -/
def TxItem.base : TxItem → Option Nat
  | .mem b _ _ _ _ => some b
  | _ => none

/-- The memory an item reads, as address and length. -/
def TxItem.area : TxItem → Nat × Nat
  | .mem base off n w _ => let w := max w 1; (base + off / w * w, ceilDiv (off + n) w * w - off / w * w)
  | _ => (0, 0)

/-- What `gather` takes for one parcel. -/
structure Gathered where
  taken : List TxItem
  tokens : List TxItem
  rest : List TxItem
  flushed : Bool

/-- Up to n bytes from the front of a queue; tokens met on the way stay, a flush mark ends the parcel. -/
def gather : Nat → List TxItem → Gathered
  | _, [] => ⟨[], [], [], false⟩
  | _, .flush :: r => ⟨[], [], r, true⟩
  | n, .token o m :: r =>
    if n = 0 then ⟨[], [], .token o m :: r, false⟩
    else let g := gather n r; { g with tokens := .token o m :: g.tokens }
  | n, .mem b off len w p :: r =>
    if len ≤ n then let g := gather (n - len) r; { g with taken := .mem b off len w p :: g.taken }
    else if n = 0 then ⟨[], [], .mem b off len w p :: r, false⟩
    else ⟨[.mem b off n w p], [], .mem b (off + n) (len - n) w p :: r, false⟩
  | n, .lit bs p :: r =>
    if bs.length ≤ n then let g := gather (n - bs.length) r; { g with taken := .lit bs p :: g.taken }
    else if n = 0 then ⟨[], [], .lit bs p :: r, false⟩
    else ⟨[.lit (bs.take n) p], [], .lit (bs.drop n) p :: r, false⟩

def itemsLen (l : List TxItem) : Nat := l.foldl (fun a x => a + x.len) 0

/-- TOKEN of a parcel header (Tables 12.6 and 15.3). -/
def tokenWord (obj n : Nat) : Nat := obj + 2 ^ 13 * n + 2 ^ 21

/-- JOB_TAG and REVISION of the active sheet. -/
def State.tags (s : State) : Nat × Nat := match s.active with
  | some n => (hJobTag (s.hdr n), hRevision (s.hdr n))
  | none => (0, 0)

/-- Bytes of a cue that still wait on a stream are taken away (R133). -/
def State.dropCueBytes (s : State) (i pos : Nat) : State :=
  let x := s.stream i
  s.setStream i { x with txQ := x.txQ.filter (fun y => y.owner != some pos) }

/-- One parcel is released on stream i with the given payload items, the rest of the queue and the token
field. It takes the next PSN, and the tags of the sheet that is active then, also for a token that an earlier sheet issued
on a carried stream (R123; DESIGN CHOICE, log entry 136). -/
def State.release (s : State) (i : Nat) (items rest : List TxItem) (token : Nat) : State :=
  let x := s.stream i
  let data := items.flatMap s.itemBytes
  let p : Parcel := { stream := i, psn := x.txPsn, offset := x.txOffset, items := items, data := data,
                      token := token, jobTag := s.tags.1, revision := s.tags.2 }
  s.setStream i { x with txPsn := seqAdd x.txPsn 1, txOffset := (x.txOffset + data.length) % 2 ^ 64, txQ := rest,
                         outQ := x.outQ ++ [p], tokensOut := x.tokensOut + b2n (decide (token ≠ 0)) }

/-- The bytes of an item of the cue at position p are poisoned. A cue that moves a stream's bytes ends STREAM_FAILED
(Table 9.2). A COLLECTIVE cue waits: its self member is missing (R151), or its result cannot go out, which stands as
a member above all others (DESIGN CHOICE, log entry 118). -/
def State.losePart (s : State) (y : TxItem) (p : Nat) : State :=
  match s.active.bind (fun n => s.posCue n p) with
  | some (c, _) =>
    if cUnit c = uCollective then
      let g := cGroup c
      s.setGroupInst g ((s.groupInst g).map (fun x =>
        let self := x.members.find? (fun m => m.source.isNone && y.base == some m.base)
        { x with poisoned := x.poisoned ++ [self.elim 1024 Member.index] }))
    else s.doom p 4
  | none => s.doom p 4

/-- One step of filling parcels: none when nothing can be released. A token behind bytes that do not fill a parcel yet waits
for that parcel, which it must follow (R123; DEDUCED, log entry 105). A payload whose source is poisoned ends
its cue STREAM_FAILED and is not sent (Table 9.2). -/
def State.pumpOnce (s : State) (i : Nat) : Option State :=
  let x := s.stream i
  let g := gather 4096 x.txQ
  let n := itemsLen g.taken
  if x.failed.isSome || x.entry == 0 || x.draining || x.credit == 0 || s.txShort i || s.held (g.taken.map TxItem.area) then none
  else
    match g.taken.find? (fun y => s.isPoisoned y.area.1 y.area.2) with
    | some y =>
      let s := s.notePoison y.area.1 y.area.2 3
      some (match y.owner with
        | some p => (s.losePart y p).dropCueBytes i p
        | none => s)
    | none =>
      if n = 4096 || (g.flushed && decide (0 < n)) then
        match x.txQ with
        | .token o m :: _ => some (s.release i g.taken (g.tokens.drop 1 ++ g.rest) (tokenWord o m))
        | _ => some (s.release i g.taken (g.tokens ++ g.rest) 0)
      else match x.txQ with
        | .token o m :: r => some (s.release i [] r (tokenWord o m))
        | _ => if g.flushed then some (s.setStream i { x with txQ := g.tokens ++ g.rest }) else none

/-- Releasing parcels until nothing more can be; `fuel` bounds their number. -/
def State.pumpN : Nat → State → Nat → State
  | 0, s, _ => s
  | k + 1, s, i => match s.pumpOnce i with
    | some u => State.pumpN k u i
    | none => s

/-- Every parcel that credit and the queue allow is released. DEDUCED, log entry 105. -/
def State.pump (s : State) (i : Nat) : State :=
  let x := s.stream i
  State.pumpN (min (x.credit + x.txQ.length) (itemsLen x.txQ / 4096 + 2 * x.txQ.length) + 1) s i

/-- Items join the stream's queue. -/
def State.push (s : State) (i : Nat) (items : List TxItem) : State :=
  let x := s.stream i
  (s.setStream i { x with txQ := x.txQ ++ items }).pump i

/-- Some bytes of a cue still wait to be put into a parcel. -/
def State.cueBytesWait (s : State) (i pos : Nat) : Bool := (s.stream i).txQ.any (fun y => y.owner == some pos)

/-- The credit that the parcel with PSN q took is back: the limit has passed q by more than INITIAL_CREDIT (DEDUCED, log
entry 108). -/
def StreamCtx.creditBack (x : StreamCtx) (q : Nat) : Bool := seqAfter x.txLimit (seqAdd q x.txStart)

/-- A HOST stream still holds parcels, or bytes for parcels, that it reads from the areas: it reads them again should the
host ask (R24, R352); `of` picks the cues whose bytes count, by position. A parcel counts until the host has acknowledged
it and has returned its credit (DEDUCED, log entry 108). -/
def State.hostReads (s : State) (as : List (Nat × Nat)) (of : Nat → Bool := fun _ => true) : Bool :=
  s.streams.any (fun q => eKind q.2.entry == kindHost && q.2.failed.isNone
    && (q.2.txQ ++ (q.2.outQ ++ q.2.recs.map HostRec.par ++ q.2.owed).flatMap Parcel.items).any (fun y =>
      y.owner.any of && as.any (fun a => overlap y.area.1 y.area.2 a.1 a.2)))

/-- A later limit replaces the held one (R278, R349). -/
def State.creditTo (s : State) (i limit : Nat) : State :=
  let x := s.stream i
  let y := { x with txLimit := limit }
  if seqAfter limit x.txLimit then (s.setStream i { y with owed := y.owed.filter (fun p => !y.creditBack p.psn) }).pump i else s

/-! ### Receiving -/

/-- Bytes of a stream, from byte i of a tensor of elements of w bytes, written where they belong (R60). -/
def State.landBytes (s : State) (dest w i : Nat) (bs : List Byte) : State :=
  if w ≤ 1 then s.write (dest + i) bs
  else
    let lo := min (ceilDiv i w * w) (i + bs.length)
    let hi := max lo ((i + bs.length) / w * w)
    let edge (u : State) (from_ : Nat) (l : List Byte) : State :=
      l.foldl (fun (a : State × Nat) b => (a.1.write (dest + wireToMem w a.2) [b], a.2 + 1)) (u, from_) |>.1
    let mid := (slice bs (lo - i) (hi - lo))
    let s := edge s i (bs.take (lo - i))
    let s := if mid.isEmpty then s else s.write (dest + lo) ((chunks w (mid.length / w) mid).flatMap List.reverse)
    edge s hi (bs.drop (hi - i))

/-- The part of a parcel's bytes that lies in a covered stretch is written there; what is left of the
stretch shrinks. -/
def landInto (i psn off : Nat) (data : List Byte) (a : State × List Cover) (c : Cover) : State × List Cover :=
  let lo := max off c.start
  let hi := min (off + data.length) (c.start + c.len)
  if c.closed || decide (hi ≤ lo) then (a.1, a.2 ++ [c])
  else
    let bs := slice data (lo - off) (hi - lo)
    let s := match c.dest with
      | some d =>
        let s := a.1.landBytes d c.w (lo - c.start) bs
        if eKind (s.stream i).entry = kindLine then
          { s with landings := ⟨i, psn, lo - off, d, lo - c.start, hi - lo, c.w⟩ :: s.landings }
        else s
      | none => a.1
    (s, a.2 ++ [{ c with left := c.left - (hi - lo), got := c.got ++ [(lo, hi)] }])

/-- A delivered parcel's bytes go into the stretches that cover them. -/
def State.landParcel (s : State) (i : Nat) (p : RxParcel) : State :=
  let (s, cs) := (s.stream i).covers.foldl (landInto i p.psn p.offset p.data) (s, [])
  s.setStream i { s.stream i with covers := cs }

/-- Bytes already delivered go into a stretch. -/
def State.fillCover (s : State) (i : Nat) (c : Cover) : State × Cover :=
  (s.stream i).rxPars.foldl (fun (a : State × Cover) p =>
    let (u, l) := landInto i p.psn p.offset p.data (a.1, []) a.2
    (u, l.headD a.2)) (s, c)

/-- A new covered stretch begins where the last one ends; bytes already delivered go into it, unless it is closed. -/
def State.cover (s : State) (i len : Nat) (dest : Option Nat) (w pos : Nat) (closed : Bool := false) : State :=
  let x := s.stream i
  let (s, c) := s.fillCover i { start := x.rxCover, len := len, dest := dest, w := w, pos := pos, left := len, closed := closed }
  s.setStream i { s.stream i with covers := x.covers ++ [c], rxCover := x.rxCover + len }

/-- The closed stretches of a cue open, and take what has come for them. -/
def State.openCovers (s : State) (i pos : Nat) : State :=
  let r := (s.stream i).covers.foldl (fun (a : State × List Cover) c =>
    if c.closed && c.pos == pos then let (u, d) := a.1.fillCover i { c with closed := false }; (u, a.2 ++ [d])
    else (a.1, a.2 ++ [c])) (s, [])
  r.1.setStream i { r.1.stream i with covers := r.2 }

/-- The hold of tokens is full and one of this stream's waits in it (R124). -/
def State.holdBlocks (s : State) (i : Nat) : Bool :=
  decide (1024 ≤ s.eng.held.length) && s.eng.held.any (fun k => k.stream == i)

/-- The parcel with a PSN, if it is kept. -/
def StreamCtx.rxAt (x : StreamCtx) (psn : Nat) : Option RxParcel := x.rxPars.find? (fun p => p.psn == psn)

/-! ### Tokens (R120-R124) -/

/-- Tokens are added to a sync object; the count saturates (R121). -/
def State.addTokens (s : State) (o n : Nat) : State :=
  let v := s.sync o + n
  if 0xFFFFFFFF < v then ((s.setSync o 0xFFFFFFFF).event 0x5007 o 0).bump Reg.syncOverflows
  else s.setSync o v

/-- Fields of a sync table entry (Table 5.2). -/
def yInitial (e : Nat) : Nat := bits e 31 0
def yCarry (e : Nat) : Bool := bit e 32
def yRemoteEn (e : Nat) : Bool := bit e 33
def yRemoteStream (e : Nat) : Nat := bits e 47 34

/-- The object takes remote tokens from a stream, in the sheet of slot n (R122, R124). -/
def State.takesFrom (s : State) (n o i : Nat) : Bool :=
  let e := s.syncEntry n o
  yRemoteEn e && yRemoteStream e == i

/-- A remote token is discarded and reported (R124). -/
def State.refuseToken (s : State) (k : RemoteToken) : State :=
  (s.event 0x5008 k.stream (k.obj + 2 ^ 32 * k.revision)).bump Reg.tokensRefused

/-- A remote token is applied to its object. -/
def State.applyToken (s : State) (k : RemoteToken) : State :=
  let x := s.stream k.stream
  (s.setStream k.stream { x with tokensIn := x.tokensIn + 1 }).addTokens k.obj k.n

/-- JOB_TAG and REVISION are those of slot n's sheet. -/
def State.tagsMatch (s : State) (n jobTag revision : Nat) : Bool :=
  hJobTag (s.hdr n) == jobTag && hRevision (s.hdr n) == revision

/-- They are the active sheet's; the armed slot whose sheet they are, where both are armed the one that activates first
(DESIGN CHOICE, log entry 129); and whether there is one. -/
def State.tagsActive (s : State) (jobTag revision : Nat) : Bool := match s.active with
  | some n => s.tagsMatch n jobTag revision
  | none => false
def State.armedFor (s : State) (jobTag revision : Nat) : Option Nat :=
  s.armedSlots.find? (fun n => s.tagsMatch n jobTag revision)
def State.tagsArmed (s : State) (jobTag revision : Nat) : Bool := (s.armedFor jobTag revision).isSome

/-- The remote token of a delivered parcel is applied, held for the armed sheet, or refused (R124). -/
def State.remoteToken (s : State) (k : RemoteToken) : State :=
  if s.tagsActive k.jobTag k.revision && (match s.active with
      | some n => s.takesFrom n k.obj k.stream
      | none => false) then s.applyToken k
  else if s.tagsArmed k.jobTag k.revision then
    if s.eng.held.length < 1024 then { s with eng := { s.eng with held := s.eng.held ++ [k] } } else s.refuseToken k
  else s.refuseToken k

def execRemoteTokenArrival (t : Nat) (i : BitVec 14) (obj : BitVec 13) (n : Byte) (jobTag revision : BitVec 16) (s0 : State) : Result :=
  .next (State.remoteToken (s0.tick t) { stream := i.toNat, obj := obj.toNat, n := n.toNat, jobTag := jobTag.toNat, revision := revision.toNat })

/-- The next parcel in PSN order has been delivered: its token takes its effect (R277, R354). -/
def State.passToken (s : State) (i : Nat) (p : RxParcel) : State :=
  let x := s.stream i
  let s := s.setStream i { x with rxPsn := seqAdd x.rxPsn 1 }
  if bit p.token 21 then
    s.remoteToken { stream := i, obj := bits p.token 12 0, n := bits p.token 20 13, jobTag := p.jobTag, revision := p.revision }
  else s

/-- Delivered parcels move on: tokens in PSN order, then the oldest parcels whose bytes are taken go. -/
def State.rxAdvance : Nat → State → Nat → State
  | 0, s, _ => s
  | k + 1, s, i =>
    let x := s.stream i
    match x.rxAt x.rxPsn with
    | some p => State.rxAdvance k (s.passToken i p) i
    | none =>
      match x.rxAt x.rxOld with
      | some p =>
        if p.offset + p.data.length ≤ x.openTo then
          State.rxAdvance k (s.setStream i { x with rxOld := seqAdd x.rxOld 1, rxPars := x.rxPars.filter (fun q => q.psn != p.psn) }) i
        else s
      | none => s

/-- The limit this end grants moves up, never back (R278, R349), and not while an ALLOCATE that would back it is deferred
(R211). -/
def State.grant (s : State) (i : Nat) : State :=
  let x := s.stream i
  let l := seqAdd x.rxOld (eRxHold x.entry)
  if s.holdBlocks i || s.rxShort i || !seqAfter l x.rxLimit then s else s.setStream i { x with rxLimit := l }

/-- An ARQ message waits for a frame of each route of its link (R283). -/
def State.sendArq (s : State) (l : Nat) (m : List Byte) : State :=
  { s with framer := { s.framer with msgs := s.framer.msgs ++ [(m ++ List.replicate (16 - m.length) 0#8, l, linkRoutes (s.link l).entry)] } }

/-- LG_REF of messages sent on link l (R283). -/
def State.lgRef (s : State) (l : Nat) : Nat := lPosLg (s.link l).entry 0

/-- CREDIT for a LINE stream (Table 12.7). -/
def State.sendCredit (s : State) (i : Nat) : State :=
  let x := s.stream i
  let l := eLink x.entry
  s.sendArq l ([0x05#8] ++ bytesBE 1 (s.lgRef l) ++ bytesBE 2 (ePeerStream x.entry) ++ bytesBE 4 x.rxLimit)

/-- n modulo 2³² from a to b. -/
def seqDist (a b : Nat) : Nat := (b + 2 ^ 32 - a % 2 ^ 32) % 2 ^ 32

/-- Feedback of a HOST stream is due once its limit or its expected PSN has moved (R350). -/
def State.noteFeedback (s : State) (i : Nat) : State :=
  let x := s.stream i
  let c := seqDist x.creditSent x.rxLimit
  let a := seqDist x.ackSent x.rxPsn
  if c = 0 ∧ a = 0 then s
  else s.setStream i { x with fbSince := some (x.fbSince.getD s.now), fbNow := x.fbNow || decide (16 ≤ c) || decide (8 ≤ a) }

/-- Delivered parcels of a stream move on as far as they can. -/
def State.advance (s : State) (i : Nat) : State := State.rxAdvance (2 * (s.stream i).rxPars.length + 1) s i

/-- The limit of a stream moves up, which a LINE stream announces at once (R278) and a HOST stream as R350 says. -/
def State.regrant (s : State) (i : Nat) : State :=
  let before := (s.stream i).rxLimit
  let s := s.grant i
  if eKind (s.stream i).entry = kindHost then s.noteFeedback i
  else if eKind (s.stream i).entry = kindLine ∧ (s.stream i).rxLimit ≠ before then s.sendCredit i else s

/-- What follows delivery or cover on some streams at one instant: tokens and taken parcels, then what the pool holds for
them (R209), then their limits. -/
def State.settleAll (s : State) (is : List Nat) : State :=
  let s := is.foldl State.advance s
  is.foldl State.regrant (s.fitStores (is.map s.rxWant))
def State.settle (s : State) (i : Nat) : State := s.settleAll [i]

/-- A parcel of stream i comes in: its bytes land, and what can move on does. -/
def State.take (s : State) (i : Nat) (p : RxParcel) : State :=
  let x := s.stream i
  let s := s.setStream i { x with rxPars := x.rxPars ++ [p], parcelsIn := x.parcelsIn + 1 }
  (s.landParcel i p).advance i

/-- A parcel of stream i is delivered. -/
def State.deliver (s : State) (i : Nat) (p : RxParcel) : State := ((s.take i p).fitRx i).regrant i

/-- A covered stretch for a cue, then what follows from it. -/
def State.coverCue (s : State) (i len : Nat) (dest : Option Nat) (w pos : Nat) (closed : Bool := false) : State :=
  (s.cover i len dest w pos closed).settle i

/-- Every byte of the cue's stretches has come. -/
def State.coverDone (s : State) (i pos : Nat) : Bool :=
  (s.stream i).covers.all (fun c => c.pos != pos || c.left == 0)

/-- What a cue covered and has not received is discarded as it comes (R133); stretches that were closed open. -/
def State.uncoverCue (s : State) (i pos : Nat) : State :=
  let x := s.stream i
  let s := s.setStream i { x with covers := x.covers.map (fun c => if c.pos = pos then { c with dest := none } else c) }
  if x.covers.any (fun c => c.closed && c.pos == pos) then s.openCovers i pos else s

/-- Stretches that are full are forgotten once their cue has ended. -/
def State.forgetCovers (s : State) (i pos : Nat) : State :=
  let x := s.stream i
  s.setStream i { x with covers := x.covers.filter (fun c => c.pos != pos || c.left != 0) }

/-- Byte p of a stream's inbound sequence, if its parcel is kept. -/
def StreamCtx.rxByte (x : StreamCtx) (p : Nat) : Option Byte :=
  match x.rxPars.find? (fun r => decide (r.offset ≤ p) && decide (p < r.offset + r.data.length)) with
  | some r => r.data[p - r.offset]?
  | none => none

/-- n bytes from position p, if all have been delivered. -/
def StreamCtx.rxBytes (x : StreamCtx) (p n : Nat) : Option (List Byte) := ((List.range n).map (fun k => x.rxByte (p + k))).mapM id

/-- A deferred ALLOCATE is tried again (R211); the streams whose credit it backs go on. -/
def execAllocateRetry (t : Nat) (o : Fin 64) (s0 : State) : Result :=
  let (k, s) := State.retryAllocate (s0.tick t) o.val
  match k with
  | none => .next s
  | some _ =>
    let is := (s.streams.filter (fun x => x.2.entry != 0 && !x.2.draining)).map Prod.fst
    .next (is.foldl State.pump (s.settleAll is))

/-! ### The hub links (R198) -/

/-- A flit is replayed from the sender's buffer: nothing is lost or duplicated (R198). -/
def execFlitReplay (t : Nat) (_h : Fin 4) (s0 : State) : Result := .next (s0.tick t)

/-- The link of hub h has failed: the hub is gone (R198). -/
def State.hubFail (s : State) (h : Nat) : State :=
  let s := s.setObj Reg.hubLinkState (setBit (s.obj Reg.hubLinkState) h false)
  (State.event { s with memSt := { s.memSt with failedHubs := setBit s.memSt.failedHubs h true } } 0x6002 h 0).failElement (element 4 h)

/-- A hub link loses training; the third loss within 1 s is a failure (R198). -/
def execHubLinkTrainingLoss (t : Nat) (h : Fin 4) (s0 : State) : Result :=
  let s := s0.tick t
  let h := h.val
  if bit s.memSt.failedHubs h then .next s
  else
    let l := s.now :: (tget [] s.memSt.losses h).filter (fun x => decide (s.now < x + 1000000000))
    let s := { s with memSt := { s.memSt with losses := tset [] s.memSt.losses h l } }
    let s := s.setObj Reg.hubLinkState (setBit (s.obj Reg.hubLinkState) h false)
    .next (if 3 ≤ l.length then s.hubFail h else s)

/-! ### Loading -/

/-- The context that an entry loads (R117, R278, R349): the counters of Table 5.15 go on. -/
def freshStream (old : StreamCtx) (e : Nat) : StreamCtx :=
  { entry := e, txLimit := eInitialCredit e, txStart := eInitialCredit e, rxLimit := eRxHold e, port := ePort e,
    parcelsOut := old.parcelsOut, parcelsIn := old.parcelsIn, tokensOut := old.tokensOut, tokensIn := old.tokensIn }

end Sys2Proof.Machine
end

