-- ==== Sys2Proof/Machine/Line.lean ====
section
/-! DEFINITION. Links: encryption of parcels, stripes, delivery, the ARQ messages and the timers
(12_route_coding_and_arq.md, R269-R294). -/
namespace Sys2Proof.Machine

/-- Changing one link. -/
def State.modLink (s : State) (l : Nat) (f : LinkSt → LinkSt) : State := s.setLink l (f (s.link l))

/-- The far site of a link. -/
def State.linkSite (s : State) (l : Nat) : Nat := lFarSite (s.link l).entry

/-- The bundle of route n toward site f is down, or there is none (R257). -/
def State.bundleDown (s : State) (n f : Nat) : Bool :=
  ((s.bundle n f).filter (fun c => bit (s.route n).rxMembers (c % 8))).all (fun c => (s.chan c).rxFail)

/-- 0x3310.(l+1) LINK_STATE (Table 12.10). -/
def State.linkStateWord (s : State) (l : Nat) : Nat :=
  let k := s.link l
  if !k.inUse then 0
  else 1 + 2 * b2n k.failed + 4 * (k.excess % 16)
    + 2 ^ 6 * ((List.range 4).foldl (fun a n => setBit a n ((linkRoutes k.entry).contains n && !s.bundleDown n (lFarSite k.entry) &&
      !bit k.excess n)) 0)

/-- A counter of link l of the active sheet; a link that drains after its sheet has none (R294;
DESIGN CHOICE, log entry 126). -/
def State.bumpLink (s : State) (reg : Nat → Nat) (l n : Nat) : State := if l < 16 then s.bumpBy (reg l) n else s

/-- LAST_STRIPE_FAILURE (Table 12.10). A draining link stands there under the number its own sheet gave it (DESIGN CHOICE,
log entry 126). -/
def State.noteStripeFailure (s : State) (l reason ssn : Nat) (sender : Bool) : State :=
  State.bumpLink (s.setObj Reg.lastStripeFailure ((s.link l).num % 16 + 16 * reason + 256 * b2n sender + 512 + 2 ^ 32 * ssn)) Reg.stripesFailed l 1

/-- A stream fails on link l (R286). While the context of the sheet that follows waits for the drain, or none has followed,
the stream of the earlier sheet fails, once, and no context of a later sheet does (R119). -/
def State.failOn (s : State) (l i reason : Nat) : State :=
  let x := s.stream i
  if x.entry = 0 ∨ x.draining then
    if (s.link l).failedStreams.contains i then s
    else (s.modLink l (fun k => { k with failedStreams := i :: k.failedStreams })).event 0x5010 i reason
  else s.failStream i reason

/-! ### Encryption (R301, R302, R308) -/

/-- The line transmit channel takes the oldest released parcel of a stream (R302). One that is lost to two mismatches never
lies in a stored parcel: it stays with its stream, which has failed, and no cue that it is of ends COMPLETE (R150). -/
def execParcelEncrypt (t : Nat) (i : BitVec 14) (mismatch : List (Fin 10)) (s0 : State) : Result :=
  let s := s0.tick t
  let i := i.toNat
  let x := s.stream i
  let l := eLink x.entry
  let f := s.linkSite l
  match x.outQ with
  | [] => .next s
  | p :: rest =>
    if eKind x.entry ≠ kindLine || !(s.link l).inUse || (s.link l).failed || x.failed.isSome || !s.canEncrypt f then .next s
    else
      let (e, iv, s) := s.takeIv f
      let (k, s) := s.mismatches 0 (mismatch.map Fin.val)
      if 2 ≤ k then
        let (r, s) := s.takeFree
        .next (s.failStream i (r % 256))
      else
        let head := bytesBE 2 (ePeerStream x.entry) ++ bytesBE 2 p.data.length ++ bytesBE 4 p.psn ++ bytesBE 8 p.offset
          ++ bytesBE 2 p.jobTag ++ bytesBE 2 p.revision ++ bytesBE 4 p.token
        let bytes := s.sealParcel f e iv head (p.data ++ List.replicate (4096 - p.data.length) 0#8)
        let b : Body :=
          { stream := i, peer := ePeerStream x.entry, psn := p.psn, epoch := e,
            owners := p.items.filterMap TxItem.owner, bytes := bytes, par := some p }
        let s := s.modLink l (fun k => { k with ready := k.ready ++ [b], epochs := if k.epochs.contains e then k.epochs else k.epochs ++ [e] })
        .next (s.setStream i { s.stream i with outQ := rest, parcelsOut := (s.stream i).parcelsOut + 1 })

/-- The line receive channel verifies one received parcel, with the mismatches on the receive lanes that the command tells
of: it is not received when two lanes mismatch (R308); a verified one is evidence of the far site (R384). -/
def State.verify (s : State) (l route : Nat) (body : List Byte) : Option (List Byte) × State :=
  let (k, s) := s.mismatches 1 (s.cipher.due.headD [])
  let s := { s with cipher := { s.cipher with due := s.cipher.due.drop 1 } }
  if 2 ≤ k then (none, s)
  else match s.openParcel l route body with
    | (some pt, s) => (some pt, s.evidence (s.linkSite l))
    | (none, s) => (none, s)

/-- The mismatches of a command's parcels stand ready while it runs. -/
def State.withLanes (s : State) (mm : List (List (Fin 10))) (f : State → State) : State :=
  let s := f { s with cipher := { s.cipher with due := mm.map (fun l => l.map (fun a => 10 + a.val)) } }
  { s with cipher := { s.cipher with due := [] } }

/-- The line receive channel verifies and decrypts one body of 4,144 bytes (R304, R306, R308). -/
def execParcelDecrypt (t : Nat) (l : Fin 16) (n : Fin 4) (body : List Byte) (mismatch : List (Fin 10)) (s0 : State) : Result :=
  .next ((s0.tick t).withLanes [mismatch] (fun s => match s.verify l.val n.val body with
    | (some pt, s) => s.emit (.plain pt)
    | (none, s) => s))

/-- Every byte of a LINE_OUT cue lies in stored parcels (Table 5.5, R285). -/
def State.lineOutDone (s : State) (i pos : Nat) : Bool :=
  !s.cueBytesWait i pos
    && !(s.stream i).outQ.any (fun p => p.items.any (fun y => y.owner == some pos))
    && !s.links.any (fun k => k.2.ready.any (fun b => b.stream == i && b.owners.contains pos))

/-! ### Stripes at the sender (R272-R275) -/

/-- The stripe header of Table 12.6 and the body behind it: one parcel slot. -/
def slotBytes (parity resend : Bool) (pos code nullMap ssn : Nat) (body : List Byte) : List Byte :=
  let h := [if parity then 0x32#8 else 0x31#8] ++ bytesBE 1 (pos + 4 * b2n resend) ++ bytesBE 1 (code + 8 * nullMap)
    ++ [0#8] ++ bytesBE 4 ssn ++ List.replicate 6 0#8
  h ++ bytesBE 2 (crcOf crc16Hdr h) ++ body

/-- A position of a stripe queued for the slots of a line group, re-sends ahead of new stripes (R274, R285). -/
def LinkSt.queueSlot (k : LinkSt) (p : SlotParcel) : LinkSt :=
  if p.resend then { k with slots := k.slots.filter (fun q => q.resend) ++ [p] ++ k.slots.filter (fun q => !q.resend) }
  else { k with slots := k.slots ++ [p] }

/-- The bodies of a stripe: data in order, then parity (R273). A NULL position counts as zeros. -/
def parityOf (k m : Nat) (ds : List (Nat × List Byte)) : List (List Byte) :=
  (List.range m).map (fun r => bytesOf (gfSum 4144 r ((ds.filter (fun p => decide (p.1 < k))).map (fun p => (p.1, natsOf p.2)))))

/-- The oldest stripe neither closed nor failed lies 2²³ or more behind (R272). -/
def LinkSt.windowFull (k : LinkSt) : Bool :=
  k.stripes.any (fun t => t.closedAt.isNone && t.abandoned.isNone && decide (2 ^ 23 ≤ (k.ssn + 2 ^ 32 - t.ssn) % 2 ^ 32))

/-- A failed stripe no longer precedes the next SSN, modulo 2³²: no message can mean it any more (R272, R286). -/
def TxStripe.forgotten (t : TxStripe) (next : Nat) : Bool := t.abandoned.isSome && !seqAfter (seqAdd next 1) t.ssn

/-- Route n's retransmit store takes the positions of a stripe (R285). -/
def State.reserve (s : State) (l : Nat) (ps : List TxPos) : State :=
  s.fitStores ((List.range 4).filterMap (fun n =>
    let more := ((List.range ps.length).zip ps).filter (fun p => p.2.body.isSome && lPosRoute (s.link l).entry p.1 == n)
    if more.isEmpty then none else some (retxStore n, s.retxOwner n, buffersFor (s.storedOn n + more.length))))

/-- The route coder completes a stripe: k parcels are ready, or one is and every route has a slot due
(R272). Every parcel is stored before it is sent, so the stripe waits while ALLOCATE defers (R211, R285), and while a hub holds
what is stored (R198). -/
def execStripeComplete (t : Nat) (l : Nat) (slotsDue : Bool) (s0 : State) : Result :=
  let s := s0.tick t
  let l := l
  let k := s.link l
  let kk := lK k.entry
  let n := min kk k.ready.length
  if !k.inUse || k.failed || s.poolHeld || n == 0 || (decide (n < kk) && !slotsDue) || k.windowFull then .next s
  else
    let ds := (k.ready.take n).map (fun b => { b with par := none })
    let nullMap := 2 ^ kk - 2 ^ n
    let par := parityOf kk (lM k.entry) ((List.range n).zip (ds.map (fun b => b.bytes)))
    let data : List TxPos := ds.map (fun b => { body := some b, parity := false })
      ++ List.replicate (kk - n) { body := none, parity := false }
    let pars : List TxPos := par.map (fun b =>
      { body := some { stream := 0, peer := 0, psn := 0, epoch := 0, owners := [], bytes := b }, parity := true })
    let ps := data ++ pars
    let s := s.reserve l ps
    if (linkRoutes k.entry).any (fun n => s.short (retxStore n)) then .next s else
    let st : TxStripe := { ssn := k.ssn, nullMap := nullMap, positions := ps, lastTx := s.now }
    let k1 := { k with ready := k.ready.drop n, ssn := seqAdd k.ssn 1, stripes := k.stripes.filter (fun t => !t.forgotten k.ssn) ++ [st] }
    let k2 := ((List.range ps.length).zip ps).foldl (fun a p => match p.2.body with
      | some b => a.queueSlot
          { lg := lPosLg k.entry p.1, ssn := k.ssn, resend := false,
            bytes := slotBytes p.2.parity false p.1 (lCode k.entry) nullMap k.ssn b.bytes }
      | none => a) k1
    .next ((s.setLink l k2).bumpLink Reg.stripesSent l 1)

/-! ### The sender's answers (R284-R290) -/

/-- Changing one stored stripe. -/
def LinkSt.modStripe (k : LinkSt) (ssn : Nat) (f : TxStripe → TxStripe) : LinkSt :=
  { k with stripes := k.stripes.map (fun t => if t.ssn = ssn then f t else t) }

def LinkSt.stripe (k : LinkSt) (ssn : Nat) : Option TxStripe := k.stripes.find? (fun t => t.ssn == ssn)

/-- Stripes whose retention has ended are freed (R287). -/
def State.freeStripes (s : State) (l : Nat) : State :=
  (s.modLink l (fun k => { k with stripes := k.stripes.filter (fun t => match t.closedAt with
    | some a => decide (s.now < a + 1000 * lRetain k.entry)
    | none => true) })).fitRoutes

/-- A received ACK (R284, R287). -/
def State.onAck (s : State) (l cum first last : Nat) : State :=
  let inRange (ssn : Nat) : Bool :=
    seqAfter cum ssn || (first != last && !seqAfter first ssn && seqAfter last ssn)
  (s.modLink l (fun k => { k with stripes := k.stripes.map (fun t =>
    if inRange t.ssn && t.closedAt.isNone && t.abandoned.isNone then { t with closedAt := some s.now } else t) })).freeStripes l

def execAck (t : Nat) (l : Nat) (cum first last : Word32) (s0 : State) : Result :=
  .next (State.onAck (s0.tick t) l cum.toNat first.toNat last.toNat)

/-- RETAIN_US has passed since an ACK (R287). -/
def execRetainExpiry (t : Nat) (l : Nat) (s0 : State) : Result :=
  .next (State.freeStripes (s0.tick t) l)

/-- Positions of a bitmap of four. -/
def positionsOf (m : Nat) : List Nat := (List.range 4).filter (fun i => bit m i)

/-- Line groups of a link whose route is not down, in increasing route order (R285). -/
def State.upGroups (s : State) (l : Nat) : List Nat :=
  let e := (s.link l).entry
  (List.range 4).flatMap (fun n => if s.bundleDown n (lFarSite e) then [] else
    ((List.range (lPositions e)).filter (fun i => lPosRoute e i == n)).map (lPosLg e))

/-- The health element of the route of position i of a link. -/
def State.posElement (s : State) (l i : Nat) : Nat :=
  let e := (s.link l).entry
  element 3 (8 * lPosRoute e i + lFarSite e)

/-- ABANDON for a stripe: the streams of the positions needed fail (R286, R290). -/
def State.abandon (s : State) (l ssn reason : Nat) (needed : List Nat) : State :=
  let k := s.link l
  match k.stripe ssn with
  | none => s
  | some st =>
    let bodyAt (i : Nat) : Option Body := st.positions[i]?.bind (fun p => p.body)
    let ids := (List.range 4).map (fun i => if needed.contains i then
      match bodyAt i with
      | some b => b.peer
      | none => 0xFFFF else 0xFFFF)
    let msg := [0x03#8] ++ bytesBE 1 (s.lgRef l) ++ bytesBE 4 ssn ++ bytesBE 1 reason ++ [0#8] ++ ids.flatMap (bytesBE 2)
    let s := (s.setLink l (k.modStripe ssn (fun t => { t with abandoned := some msg, positions := [] }))).sendArq l msg
    let s := s.noteStripeFailure l reason ssn true
    let s := needed.foldl (fun u i => u.points (s.posElement l i) 500) s
    ((needed.filterMap bodyAt).foldl (fun u b => u.failOn l b.stream (0x10 + reason)) s).fitRoutes

/-- A stored parcel reads poisoned: CONSUMER 4 (R290). A line that this read has only just poisoned is no line read again. -/
def State.notePoisonArq (s : State) (a : Nat) : State :=
  let p := (unitOf a, 4)
  if s.memSt.fresh.contains p then { s with memSt := { s.memSt with fresh := s.memSt.fresh.filter (fun q => q != p) } }
  else s.noteMemoryError p.1 3 false 4

/-- Memory lines that reads of some positions of a stripe find poisoned. -/
def TxStripe.poisonedLines (t : TxStripe) (is : List Nat) : List Nat := is.filterMap (fun i => t.positions[i]?.bind (fun p => p.poisoned))

/-- What has to read stored parcels waits for the hub that holds them (R198). -/
def State.ask (s : State) (l : Nat) (a : StoreRead) : State :=
  s.modLink l (fun k => if k.reads.contains a then k else { k with reads := k.reads ++ [a] })

/-- One attempt re-sends positions of a stripe; beyond the budget the stripe is abandoned (R285, R286,
R290). `needed`: the data positions not delivered, as far as the sender knows. The parcels still obtainable are the data
positions that are not needed, which the receiver holds, and the stored ones that are not poisoned: parity too, which the
receiver may hold; and none once every needed position is poisoned, since nothing more comes then (DEDUCED, log entry 110). -/
def State.attempt (s : State) (l ssn : Nat) (needed : List Nat) (timer : Bool) : State :=
  let k := s.link l
  match k.stripe ssn with
  | none => s
  | some st =>
    let good := ((List.range st.positions.length).zip st.positions).filter (fun p =>
      p.2.poisoned.isNone || (!p.2.parity && !needed.contains p.1))
    let send := needed.filter (fun i => match st.positions[i]? with
      | some p => p.body.isSome && p.poisoned.isNone
      | none => false)
    let bad := st.poisonedLines needed
    if lBudget k.entry ≤ st.attempts then s.abandon l ssn 1 needed
    else if s.poolHeld then s.ask l (.attempt ssn needed timer)
    else
    let s := bad.foldl (fun u a => u.notePoisonArq a) s
    if good.length < lK k.entry || (send.isEmpty && !bad.isEmpty) then s.abandon l ssn 2 needed
    else
      let s := if timer then s.bumpLink Reg.retryTimeouts l 1 else s
      let ups := s.upGroups l
      let k1 := k.modStripe ssn (fun t => { t with attempts := t.attempts + 1, lastTx := s.now })
      let k2 := if ups.isEmpty then k1 else ((List.range send.length).zip send).foldl (fun a q =>
        match st.positions[q.2]?.bind (fun p => p.body) with
        | some b => a.queueSlot
            { lg := ups.getD (q.1 % ups.length) 0, ssn := ssn, resend := true,
              bytes := slotBytes false true q.2 (lCode k.entry) st.nullMap ssn b.bytes }
        | none => a) k1
      let s := (s.setLink l k2).bumpLink Reg.parcelsResent l (if ups.isEmpty then 0 else send.length)
      needed.foldl (fun u i => u.points (s.posElement l i) 5) s

/-- Data positions of a stripe that are not NULL. -/
def TxStripe.dataPositions (t : TxStripe) : List Nat :=
  ((List.range t.positions.length).zip t.positions).filterMap (fun p => if !p.2.parity && p.2.body.isSome then some p.1 else none)

/-- Stored positions that read poisoned, with the memory line or word, are marked. -/
def TxStripe.poison (is : List (Nat × Nat)) (t : TxStripe) : TxStripe :=
  let ps := ((List.range t.positions.length).zip t.positions).map (fun q =>
    match is.find? (fun p => p.1 == q.1) with
    | some p => { q.2 with poisoned := some p.2 }
    | none => q.2)
  { t with positions := ps }

def State.poisonStored (s : State) (l ssn : Nat) (is : List (Nat × Nat)) : State :=
  if is.isEmpty then s else s.modLink l (fun k => k.modStripe ssn (TxStripe.poison is))

/-- A received NAK (R285, R286). -/
def State.onNak (s : State) (l ssn needed num : Nat) : State :=
  let k := s.link l
  if !k.inUse then s
  else match k.stripe ssn with
    | none =>
      if seqAfter k.ssn ssn then
        s.sendArq l ([0x03#8] ++ bytesBE 1 (s.lgRef l) ++ bytesBE 4 ssn ++ [3#8, 0#8] ++ List.replicate 8 0xFF#8)
      else s
    | some st =>
      match st.abandoned with
      | some msg => s.sendArq l msg
      | none =>
        if st.closedAt.isSome || (match st.lastNak with
            | some n => decide (num ≤ n)
            | none => false) then s
        else
          let s := s.modLink l (fun k => k.modStripe ssn (fun t => { t with lastNak := some num }))
          s.attempt l ssn ((positionsOf needed).filter (fun i => st.dataPositions.contains i)) false

def execNak (t : Nat) (l : Nat) (ssn : Word32) (needed : BitVec 4) (num : Byte) (poison : List (Fin 4 × BitVec 48)) (s0 : State) : Result :=
  .next (State.onNak ((s0.tick t).poisonStored l ssn.toNat (poison.map (fun p => (p.1.val, p.2.toNat)))) l ssn.toNat needed.toNat num.toNat)

/-- T_RETRY has passed since the latest transmission: no parcel of the stripe still waits for its slot (R233, R285). -/
def execTRetryExpiry (t : Nat) (l : Nat) (stripe : StripeRead) (s0 : State) : Result :=
  let ssn := stripe.ssn
  let s := (s0.tick t).poisonStored l ssn.toNat (stripe.poison.map (fun p => (p.1.val, p.2.toNat)))
  let k := s.link l
  match k.stripe ssn.toNat with
  | none => .next s
  | some st =>
    if k.inUse && !k.failed && st.closedAt.isNone && st.abandoned.isNone && !k.slots.any (fun q => q.ssn == ssn.toNat)
        && decide (st.lastTx + 1000 * (linkTimers k.entry).retry ≤ s.now) then
      .next (s.attempt l ssn.toNat st.dataPositions true)
    else .next s

/-- A received REREQ: the stored parcel goes again, or REPLY (R287, R290). -/
def State.onRereq (s : State) (l i psn : Nat) (poison : Option Nat) : State :=
  let k := s.link l
  let has (t : TxStripe) : Option (TxStripe × Nat × Body) :=
    (((List.range t.positions.length).zip t.positions).findSome? (fun p => match p.2.body with
      | some b => if !p.2.parity && b.stream == i && b.psn == psn then some (p.1, b) else none
      | none => none)).map (fun q => (t, q))
  let reply (u : State) (reason : Byte) : State :=
    u.sendArq l ([0x07#8] ++ bytesBE 1 (u.lgRef l) ++ bytesBE 2 i ++ bytesBE 4 psn ++ [reason])
  match k.stripes.findSome? has with
  | none => reply s 3#8
  | some (t, p, b) =>
    if s.poolHeld then s.ask l (.again i psn poison)
    else
    let s := s.poisonStored l t.ssn ((poison.map (fun a => (p, a))).toList)
    match poison.orElse (fun _ => (t.poisonedLines [p]).head?) with
    | some a => reply (s.notePoisonArq a) 2#8
    | none => match s.upGroups l with
      | [] => s
      | g :: _ => (s.setLink l (k.queueSlot
          { lg := g, ssn := t.ssn, resend := true,
            bytes := slotBytes false true p (lCode k.entry) t.nullMap t.ssn b.bytes })).bumpLink Reg.parcelsResent l 1

/-- The hubs are back: the reads of stored parcels that waited are done (R198). -/
def State.readStored (s : State) : State :=
  if s.poolHeld then s
  else (s.links.map Prod.fst).foldl (fun u l =>
    let rs := (u.link l).reads
    rs.foldl (fun (v : State) r => match r with
      | .attempt ssn needed timer =>
        let open_ := ((v.link l).stripe ssn).any (fun t => t.closedAt.isNone && t.abandoned.isNone)
        if open_ then v.attempt l ssn needed timer else v
      | .again i psn poison => v.onRereq l i psn poison) (u.modLink l (fun k => { k with reads := [] }))) s

def execRereq (t : Nat) (l : Nat) (i : BitVec 16) (psn : Word32) (poison : Option (BitVec 48)) (s0 : State) : Result :=
  .next (State.onRereq (s0.tick t) l i.toNat psn.toNat (poison.map BitVec.toNat))

/-- A received CREDIT (R278). One for a stream whose context waits for the drain is discarded (R119; DESIGN CHOICE, log entry
126). -/
def State.onCredit (s : State) (i limit : Nat) : State :=
  let x := s.stream i
  if eKind x.entry = kindLine && !x.draining then s.creditTo i limit else s

def execCredit (t : Nat) (i : BitVec 14) (limit : Word32) (s0 : State) : Result :=
  .next (State.onCredit (s0.tick t) i.toNat limit.toNat)

/-- Epoch e is epoch d or an earlier one. -/
def epochUpTo (d e : Nat) : Bool := e == d || epochEarlier e d

/-- Epochs before the transmit epoch that DRAINED may be due for: those the pair still holds, and those under which the
link has stored parcels, held or erased (R288). -/
def State.pastEpochs (s : State) (l : Nat) : List Nat :=
  let k := s.link l
  let p := s.pair (lFarSite k.entry)
  let past := k.epochs.filter (fun e => p.tx.all (epochEarlier e))
  (p.draining.map (fun e => e.epoch) ++ past).filter (fun e => k.drainedEpoch.all (fun d => !epochEarlier e d))

/-- The sender stores no parcel of the link under a past epoch or an earlier one: DRAINED goes out for the newest such
epoch, and again each multiframe until the next one drains (R288). -/
def State.drainedDue (s : State) (l : Nat) : State :=
  let k := s.link l
  let mf := s.lfn / 256
  let stored := (k.ready ++ k.stripes.flatMap (fun t => t.positions.filterMap (fun q => if q.parity then none else q.body)))
  let done := (s.pastEpochs l).filter (fun e => stored.all (fun b => !epochUpTo e b.epoch))
  let newest := done.foldl (fun a e => if a.all (fun b => epochEarlier b e) then some e else a) none
  match newest.orElse (fun _ => k.drainedEpoch) with
  | some e =>
    if k.inUse && !(k.drainedEpoch == some e && k.drainedMf == mf) then
      (s.setLink l { k with drainedEpoch := some e, drainedMf := mf, epochs := k.epochs.filter (fun x => !epochUpTo e x) }).sendArq l
        ([0x06#8] ++ bytesBE 1 (s.lgRef l) ++ bytesBE 2 e)
    else s
  | none => s

/-! ### The receiver (R276-R282, R286) -/

/-- The link and the position that a received line group serves (R269, R270 item 4). -/
def State.linkOfGroup (s : State) (g : Nat) : Option (Nat × Nat) :=
  (List.range 16).findSome? (fun l =>
    let k := s.link l
    if !k.inUse then none
    else ((List.range (lPositions k.entry)).find? (fun i => lPosLg k.entry i == g)).map (fun i => (l, i)))

/-- The receive page gives the group to the route and far site that the link declares (R279). -/
def State.groupMatches (s : State) (g l i : Nat) : Bool :=
  let e := s.lgEntry true (s.obj Reg.pageActive) g
  let k := (s.link l).entry
  gEnable e && gRoute e == lPosRoute k i && gFarSite e == lFarSite k

/-- The fields of a stripe header, when STRIPE_CHECK and the fixed fields are right (R276):
(parity, pos, resend, nullMap, ssn). -/
def parseSlot (code k m : Nat) (b : List Byte) : Option (Bool × Nat × Bool × Nat × Nat) :=
  let h := b.take 14
  let at_ (i : Nat) : Nat := ofBytesBE (slice b i 1)
  let parity := at_ 0 == 0x32
  let pos := bits (at_ 1) 1 0
  let nm := bits (at_ 2) 6 3
  if crcOf crc16Hdr h ≠ ofBytesBE (slice b 14 2) then none
  else if at_ 0 ≠ 0x31 ∧ at_ 0 ≠ 0x32 then none
  else if bits (at_ 1) 7 3 ≠ 0 ∨ bits (at_ 2) 2 0 ≠ code ∨ bits (at_ 2) 7 7 ≠ 0 ∨ at_ 3 ≠ 0 ∨ ofBytesBE (slice b 8 6) ≠ 0 then none
  else if 2 ^ k ≤ nm ∨ (parity ∧ (pos < k ∨ k + m ≤ pos)) ∨ (!parity ∧ (k ≤ pos ∨ bit nm pos)) then none
  else some (parity, pos, bit (at_ 1) 2, nm, ofBytesBE (slice b 4 4))

/-- The link's stripe ssn is open. -/
def LinkSt.open? (k : LinkSt) (ssn : Nat) : Option RxStripe := k.open_.find? (fun t => t.ssn == ssn)

def LinkSt.modOpen (k : LinkSt) (ssn : Nat) (f : RxStripe → RxStripe) : LinkSt :=
  { k with open_ := k.open_.map (fun t => if t.ssn = ssn then f t else t) }

/-- The stripe after the latest one that position i has brought or passed in its ordered slots. -/
def LinkSt.seenAt (k : LinkSt) (i : Nat) : Nat :=
  match tget none k.seen i with
  | none => k.cum
  | some v => if seqAfter k.cum v then k.cum else v

/-- The stripe whose ordered slot position i brings next: not a closed or failed one, and not one that gives
the position as NULL (R272, R274). -/
def LinkSt.nextOrdered (k : LinkSt) (i : Nat) : Nat → Nat → Nat
  | 0, ssn => ssn
  | n + 1, ssn =>
    if k.closed.contains ssn || k.failedStripes.contains ssn || k.open_.any (fun t => t.ssn == ssn && bit t.nullMap i)
    then k.nextOrdered i n (seqAdd ssn 1) else ssn

/-- CUM moves past stripes that are closed or failed (R284). -/
def LinkSt.advanceCum : Nat → LinkSt → LinkSt
  | 0, k => k
  | n + 1, k =>
    if k.closed.contains k.cum then LinkSt.advanceCum n { k with closed := k.closed.erase k.cum, cum := seqAdd k.cum 1 }
    else if k.failedStripes.contains k.cum then LinkSt.advanceCum n { k with failedStripes := k.failedStripes.erase k.cum, cum := seqAdd k.cum 1 }
    else k

def LinkSt.advance (k : LinkSt) : LinkSt := LinkSt.advanceCum (k.closed.length + k.failedStripes.length) k

/-- The end of the run of closed stripes that starts at a stripe. -/
def LinkSt.runEnd (k : LinkSt) : Nat → Nat → Nat
  | 0, a => a
  | n + 1, a => if k.closed.contains a then k.runEnd n (seqAdd a 1) else a

/-- ACK: CUM and the run of closed stripes that stripe ssn lies in, if it lies beyond CUM (R284). -/
def State.sendAck (s : State) (l ssn : Nat) : State :=
  let k := s.link l
  let far := k.closed.contains ssn
  s.sendArq l ([0x01#8] ++ bytesBE 1 (s.lgRef l) ++ bytesBE 4 k.cum ++ bytesBE 4 (if far then ssn else k.cum)
    ++ bytesBE 4 (if far then k.runEnd k.closed.length ssn else k.cum))

/-- Data positions of an open stripe not yet delivered. -/
def RxStripe.need (t : RxStripe) (k : Nat) : List Nat := (List.range k).filter (fun i => !bit t.nullMap i && !bit t.delivered i)

/-- NAK for an open stripe, at most RETRY_BUDGET + 1 of them (R281). -/
def State.sendNak (s : State) (l ssn : Nat) : State :=
  let k := s.link l
  match k.open? ssn with
  | none => s
  | some t =>
    if lBudget k.entry + 1 ≤ t.naks then s
    else
      let m := (t.need (lK k.entry)).foldl (fun a i => setBit a i true) 0
      let s := s.setLink l (k.modOpen ssn (fun u => { u with naks := u.naks + 1, nakOut := true }))
      (s.sendArq l ([0x02#8] ++ bytesBE 1 (s.lgRef l) ++ bytesBE 4 ssn ++ bytesBE 1 m ++ bytesBE 1 t.naks)).bump (Reg.naksSent l)

/-- A verified data parcel goes to its stream (R277). One already delivered changes nothing; one of a stream whose context
waits for the drain of the earlier sheet's is discarded (R119; DESIGN CHOICE, log entry 126). -/
def State.lineDeliver (s : State) (l : Nat) (body plain : List Byte) : State :=
  let i := bits (ofBytesBE (slice body 0 2)) 13 0
  let x := s.stream i
  let psn := ofBytesBE (slice body 4 4)
  if eKind x.entry ≠ kindLine || eLink x.entry != l || x.failed.isSome || x.draining then s
  else if seqAfter x.rxPsn psn || (x.rxAt psn).isSome then s
  else s.take i { psn := psn, offset := ofBytesBE (slice body 8 8), data := plain.take (ofBytesBE (slice body 2 2)),
                     token := ofBytesBE (slice body 20 4), jobTag := ofBytesBE (slice body 16 2), revision := ofBytesBE (slice body 18 2) }

/-- A missing data position is rebuilt from the first set of k bodies whose result verifies; a set that failed is not tried
again (R280). -/
def State.tryRebuild (s : State) (l ssn j : Nat) : List (List (Nat × List Byte)) → State
  | [] => s
  | set :: sets =>
    let k := s.link l
    let name := j :: set.map Prod.fst
    if ((k.open? ssn).map (fun t => t.tried.contains name)).getD false then s.tryRebuild l ssn j sets
    else
      let failed (s : State) : State := s.modLink l (fun k => k.modOpen ssn (fun t => { t with tried := name :: t.tried }))
      match gfRecover 4144 (lK k.entry) (set.map (fun p => (p.1, natsOf p.2))) j with
      | none => (failed s).tryRebuild l ssn j sets
      | some r =>
        let body := bytesOf r
        match s.verify l (lPosRoute k.entry j) body with
        | (none, s) => (failed s).tryRebuild l ssn j sets
        | (some pt, s) =>
          let s := s.modLink l (fun k => k.modOpen ssn (fun t => { t with
            delivered := setBit t.delivered j true, rebuilt := true, bodies := t.bodies ++ [(j, body)] }))
          s.lineDeliver l body pt

/-- Closing a stripe (R280). -/
def State.closeStripe (s : State) (l ssn : Nat) (rebuilt : Bool) : State :=
  let s := s.modLink l (fun k => LinkSt.advance { k with open_ := k.open_.filter (fun t => t.ssn != ssn), closed := ssn :: k.closed })
  let s := if rebuilt then s.bump (Reg.stripesRebuilt l) else s
  s.sendAck l ssn

/-- Position i of stripe ssn is still reachable (R279, R281). -/
def State.reachable (s : State) (l ssn i : Nat) : Bool :=
  let k := s.link l
  match k.open? ssn with
  | none => false
  | some t =>
    !(t.bodies.any (fun p => p.1 == i)) && !bit t.erased i && !(decide (i < lK k.entry) && bit t.nullMap i)
      && !bit k.excess (lPosRoute k.entry i) && !s.bundleDown (lPosRoute k.entry i) (lFarSite k.entry)
      && s.groupMatches (lPosLg k.entry i) l i
      && !(seqAfter (k.seenAt i) ssn)

/-- What follows from what an open stripe holds: rebuilding, closing or a NAK (R280, R281). -/
def State.stripeProgress (s : State) (l ssn : Nat) : State :=
  let k := s.link l
  let kk := lK k.entry
  match k.open? ssn with
  | none => s
  | some t =>
    let nulls := (positionsOf t.nullMap).map (fun i => (i, List.replicate 4144 0#8))
    let known := t.bodies ++ nulls
    let need := t.need kk
    let s := if need.isEmpty || decide (known.length < kk) then s
      else need.foldl (fun u j => u.tryRebuild l ssn j (choose kk known)) s
    match (s.link l).open? ssn with
    | none => s
    | some t =>
      if (t.need kk).isEmpty then s.closeStripe l ssn t.rebuilt
      else if !t.nakOut && decide (t.bodies.length + nulls.length
          + ((List.range (lPositions k.entry)).filter (s.reachable l ssn)).length < kk) then s.sendNak l ssn
      else s

/-- Every open stripe of a link is looked at again. -/
def State.linkWork (s : State) (l : Nat) : State :=
  ((s.link l).open_.map (fun t => t.ssn)).foldl (fun u ssn => u.stripeProgress l ssn) s

/-- What the receive sides hold of the pool follows, in increasing owner number, for everything that one instant has brought
(R209); then the limits of the LINE streams. -/
def State.fitLines (s : State) : State :=
  let is := (s.streams.filter (fun p => eKind p.2.entry == kindLine && !p.2.draining && p.2.failed.isNone)).map Prod.fst
  is.foldl State.regrant (s.fitStores (s.routeWants ++ is.map s.rxWant))

/-- Some condition of the stripes of links has changed (R281). -/
def State.linksProgress (s : State) (ls : List Nat) : State := (ls.foldl State.linkWork s).fitLines
def State.linkProgress (s : State) (l : Nat) : State := s.linksProgress [l]

/-- Position i of the link has brought its ordered slot of a stripe (R274): `seen` is the stripe after it. -/
def State.seenOrdered (s : State) (l i ssn : Nat) : State :=
  s.modLink l (fun k => if seqAfter (seqAdd ssn 1) (k.seenAt i) then { k with seen := tset none k.seen i (some (seqAdd ssn 1)) } else k)

/-- A discarded slot erases the next ordered position of its group (R276). -/
def State.eraseNext (s : State) (l i : Nat) : State :=
  let k := s.link l
  let n := k.closed.length + k.failedStripes.length + k.open_.length
  (s.seenOrdered l i (k.nextOrdered i n (k.seenAt i))).linkWork l

/-- Stream and PSN of a data body (Table 12.6). -/
def bodyPsn (body : List Byte) : Nat × Nat := (bits (ofBytesBE (slice body 0 2)) 13 0, ofBytesBE (slice body 4 4))

/-- A re-request for this parcel waits for its answer (R287). -/
def LinkSt.awaits (k : LinkSt) (body : List Byte) : Bool :=
  k.rereqs.any (fun r => (r.stream, r.psn) == bodyPsn body && r.outcome.isNone)

/-- A verified re-sent parcel that a re-request asked for overwrites the bytes it landed at (R186, R287). -/
def State.rereqLand (s : State) (l : Nat) (body plain : List Byte) : State :=
  let s := s.landings.foldl (fun u d => if (d.stream, d.psn) = bodyPsn body then u.landBytes d.base d.w d.at_ (slice plain d.from_ d.len) else u) s
  s.modLink l (fun k => { k with rereqs := k.rereqs.map (fun r => if (r.stream, r.psn) = bodyPsn body then { r with outcome := some true } else r) })

/-- The same for one that its stripe needs no more: it is discarded and counted unless it is an answer (R282). -/
def State.rereqAnswer (s : State) (l route : Nat) (answers : Bool) (body : List Byte) : State :=
  if answers then
    match s.verify l route body with
    | (none, s) => s
    | (some pt, s) => s.rereqLand l body pt
  else s.bump (Reg.duplicates l)

/-- A position of an open stripe is an erasure. -/
def State.erase (s : State) (l ssn pos : Nat) : State :=
  s.modLink l (fun k => k.modOpen ssn (fun u => { u with erased := setBit u.erased pos true }))

/-- A received parcel slot that is not idle and whose header is right (R279-R282, R287). -/
def State.acceptSlot (s : State) (l g i : Nat) (parity : Bool) (pos : Nat) (resend : Bool) (nm ssn : Nat) (body : List Byte) : State :=
  let k := s.link l
  let route := gRoute (s.lgEntry true (s.obj Reg.pageActive) g)
  let answers := resend && !parity && k.awaits body
  let s := if resend then s else s.seenOrdered l i ssn
  let oldest := k.open_.foldl (fun a t => if seqAfter a t.ssn then t.ssn else a) ((k.open_.head?.map (fun t => t.ssn)).getD k.cum)
  let past := seqAfter k.cum ssn || k.closed.contains ssn || k.failedStripes.contains ssn
  if past || seqAfter ssn (seqAdd oldest (2 ^ 23)) then (s.rereqAnswer l route answers body).linkWork l
  else
    let s := if (k.open? ssn).isSome then s
      else s.modLink l (fun k => { k with open_ := k.open_ ++ [{ ssn := ssn, nullMap := nm, first := s.now, holdFrom := s.now }] })
    let t := ((s.link l).open? ssn).getD { ssn := ssn, nullMap := nm }
    let s := if resend then s.modLink l (fun k => k.modOpen ssn (fun u => { u with holdFrom := s.now, nakOut := false })) else s
    if t.bodies.any (fun p => p.1 == pos) then (s.rereqAnswer l route answers body).linkWork l
    else if bit k.excess route || s.bundleDown route (lFarSite k.entry) || !s.groupMatches g l i then (s.erase l ssn pos).linkWork l
    else if parity then
      (s.modLink l (fun k => k.modOpen ssn (fun u => { u with bodies := u.bodies ++ [(pos, body)] }))).linkWork l
    else match s.verify l route body with
      | (none, s) => (s.erase l ssn pos).linkWork l
      | (some pt, s) =>
        let s := if answers then s.rereqLand l body pt else s
        let s := s.modLink l (fun k => k.modOpen ssn (fun u => { u with
          bodies := u.bodies ++ [(pos, body)], delivered := setBit u.delivered pos true }))
        (s.lineDeliver l body pt).linkWork l

/-- A slot whose first 64 bytes are zero is idle (R276). -/
def idleSlot (b : List Byte) : Bool := (b.take 64).all (fun x => x == 0#8)

/-- A received parcel slot of 4,160 bytes of a line group (R276). -/
def State.slotRx (s : State) (g : Nat) (b : List Byte) : State :=
  if idleSlot b then s
  else match s.linkOfGroup g with
    | none => s
    | some (l, i) =>
      let e := (s.link l).entry
      if (s.link l).rxEnded then s
      else match parseSlot (lCode e) (lK e) (lM e) b with
        | none => (s.bump (Reg.delineationErrors l)).eraseNext l i
        | some (parity, pos, resend, nm, ssn) => s.acceptSlot l g i parity pos resend nm ssn (b.drop 16)

def execLineParcelRx (t : Nat) (lg : Fin 64) (slot : SlotRx) (s0 : State) : Result :=
  .next ((s0.tick t).withLanes slot.parcels (fun s =>
    if idleSlot slot.bytes then s else (s.slotRx lg.val slot.bytes).fitLines))

/-- T_HOLE has passed since the stripe's arrival or its latest re-send (R281). -/
def execTHoleExpiry (t : Nat) (l : Fin 16) (ssn : Word32) (s0 : State) : Result :=
  let s := s0.tick t
  let k := s.link l.val
  match k.open? ssn.toNat with
  | none => .next s
  | some u =>
    if !u.nakOut && decide (u.holdFrom + 1000 * (linkTimers k.entry).hole ≤ s.now) then .next (s.sendNak l.val ssn.toNat) else .next s

/-- The stripe fails at the receiver, once: one that has closed or failed is not counted (R294). The failure is scored on the
routes of the data positions it lacks (R401; DEDUCED, log entry 110). -/
def State.rxFailStripe (s : State) (l ssn reason : Nat) : State :=
  let k := s.link l
  if seqAfter k.cum ssn || k.closed.contains ssn || k.failedStripes.contains ssn then s
  else
    let s := s.setLink l (LinkSt.advance { k with open_ := k.open_.filter (fun t => t.ssn != ssn), failedStripes := ssn :: k.failedStripes })
    let lost := (k.open? ssn).elim (List.range (lK k.entry)) (fun t => t.need (lK k.entry))
    let s := lost.foldl (fun u i => u.points (s.posElement l i) 500) s
    s.noteStripeFailure l reason ssn false

/-- A received ABANDON (R286). -/
def State.onAbandon (s : State) (l ssn reason : Nat) (streams : List Nat) : State :=
  if !(s.link l).inUse then s
  else ((streams.filter (fun i => i != 0xFFFF)).foldl (fun u i => u.failOn l (i % 16384) (0x10 + reason)) (s.rxFailStripe l ssn reason)).fitRoutes

def execAbandon (t : Nat) (l : Fin 16) (ssn : Word32) (reason : Byte) (streams : List (BitVec 16)) (s0 : State) : Result :=
  .next (State.onAbandon (s0.tick t) l.val ssn.toNat reason.toNat (streams.map BitVec.toNat))

/-- LINE streams of the active sheet that use link l. -/
def State.streamsOn (s : State) (l : Nat) : List Nat :=
  (s.streams.filter (fun p => eKind p.2.entry == kindLine && eLink p.2.entry == l && !p.2.draining)).map Prod.fst

/-- The link fails: every stream of it fails (R286, R305). -/
def State.failLink (s : State) (l ssn : Nat) : State :=
  let f := s.linkSite l
  let s := s.rxFailStripe l ssn 4
  let s := s.modLink l (fun k => { k with failed := true, failedAt := s.now })
  let s := s.event 0x3008 l 0
  (((s.streamsOn l).foldl (fun u i => u.failStream i 0x14) s).windowCheck f).fitRoutes

/-- T_FAIL has passed since the stripe's first arrival (R286). -/
def execTFailExpiry (t : Nat) (l : Fin 16) (ssn : Word32) (s0 : State) : Result :=
  let s := s0.tick t
  let k := s.link l.val
  match k.open? ssn.toNat with
  | none => .next s
  | some u =>
    if !k.failed && decide (u.first + 1000 * (linkTimers k.entry).fail ≤ s.now) then .next (s.failLink l.val ssn.toNat) else .next s

/-- A received DRAINED (R288, R305). -/
def State.onDrained (s : State) (l e : Nat) : State :=
  let k := s.link l
  if !k.inUse || k.drainedRx.any (fun p => p.1 == e) then s
  else (s.setLink l { k with drainedRx := (e, s.now) :: k.drainedRx }).windowCheck (lFarSite k.entry)

def execDrained (t : Nat) (l : Fin 16) (epoch : BitVec 16) (s0 : State) : Result :=
  .next (State.onDrained (s0.tick t) l.val epoch.toNat)

/-- The re-request with a number has an outcome. -/
def LinkSt.rereqOutcome (k : LinkSt) (sel : Rereq → Bool) (o : Bool) : LinkSt :=
  { k with rereqs := k.rereqs.map (fun r => if sel r && r.outcome.isNone then { r with outcome := some o } else r) }

/-- A received REPLY: the re-request has failed (R287). The stream is named as the sender knows it. -/
def State.onReply (s : State) (l i psn : Nat) : State :=
  s.modLink l (fun k => k.rereqOutcome (fun r => ePeerStream (s.stream r.stream).entry == i && r.psn == psn) false)

def execReply (t : Nat) (l : Fin 16) (i : BitVec 16) (psn : Word32) (s0 : State) : Result :=
  .next (State.onReply (s0.tick t) l.val i.toNat psn.toNat)

/-- REREQ goes out (R287). -/
def State.sendRereq (s : State) (l : Nat) (r : Rereq) : State :=
  (s.sendArq l ([0x04#8] ++ bytesBE 1 (s.lgRef l) ++ bytesBE 2 (ePeerStream (s.stream r.stream).entry)
    ++ bytesBE 4 r.psn ++ bytesBE 1 r.num)).bump (Reg.rerequests l)

/-- The decoder re-requests a parcel for a cue (R186, R287). -/
def State.rerequest (s : State) (stream psn pos : Nat) : State :=
  let l := eLink (s.stream stream).entry
  let k := s.link l
  let r : Rereq := { stream := stream, psn := psn, num := k.rereqNum, tries := 0, at_ := s.now, pos := pos }
  (s.setLink l { k with rereqs := k.rereqs ++ [r], rereqNum := (k.rereqNum + 1) % 256 }).sendRereq l r

/-- T_RETRY has passed since a REREQ (R287). -/
def execRereqRetryExpiry (t : Nat) (l : Fin 16) (num : Byte) (s0 : State) : Result :=
  let s := s0.tick t
  let k := s.link l.val
  match k.rereqs.find? (fun r => r.num == num.toNat && r.outcome.isNone) with
  | none => .next s
  | some r =>
    if s.now < r.at_ + 1000 * (linkTimers k.entry).retry then .next s
    else if lBudget k.entry ≤ r.tries then .next (s.setLink l.val (k.rereqOutcome (fun q => q.num == r.num) false))
    else
      let k := { k with rereqs := k.rereqs.map (fun q => if q.num = r.num ∧ q.outcome = none
        then { q with tries := q.tries + 1, at_ := s.now } else q) }
      .next ((s.setLink l.val k).sendRereq l.val r)

/-! ### Route delay (R293) -/

/-- The figures of route n on link l have been measured: delay [ns] and lead or lag against the fastest
route. A route beyond them is marked; one within them starts the second that clears the mark. -/
def State.judgeRoute (s : State) (l n : Nat) : State :=
  let k := s.link l
  let e := k.entry
  let d := s.routeDelay l n
  let fast := ((linkRoutes e).map (s.routeDelay l)).foldl (fun a x => if x = 0 then a else if a = 0 then x else min a x) 0
  if !k.inUse || !(linkRoutes e).contains n || d == 0 then s
  else
    let bad := decide (1000 * lDelayMax e < d) || decide (1000 * lSkewMax e < d - fast)
    if bad then
      let s := s.setLink l { k with excess := setBit k.excess n true, excessFrom := tset none k.excessFrom n none }
      if bit k.excess n then s
      else ((s.event 0x3009 (l + 256 * n) d).points (element 3 (8 * n + lFarSite e)) 200).linkProgress l
    else if bit k.excess n && (tget none k.excessFrom n).isNone then s.setLink l { k with excessFrom := tset none k.excessFrom n (some s.now) }
    else s

/-- The route has stayed within both figures for 1 s (R293). -/
def execExcessDelayClear (t : Nat) (l : Fin 16) (n : Fin 4) (s0 : State) : Result :=
  let s := s0.tick t
  let k := s.link l.val
  match tget none k.excessFrom n.val with
  | some a =>
    if bit k.excess n.val && decide (a + 1000000000 ≤ s.now) then
      .next (s.setLink l.val { k with excess := setBit k.excess n.val false, excessFrom := tset none k.excessFrom n.val none })
    else .next s
  | none => .next s

/-! ### Messages (R283, R284) -/

/-- Links toward a site whose position 0 is a line group (R283). -/
def State.linksByRef (s : State) (f ref : Nat) : List Nat :=
  (s.links.filter (fun p => p.2.inUse && lFarSite p.2.entry == f && lPosLg p.2.entry 0 == ref)).map Prod.fst

/-- Acting on the first copy of one message from the gateway at site f (Table 12.7). -/
def State.onMessage (s : State) (f : Nat) (m : List Byte) : State :=
  let at_ (i n : Nat) : Nat := ofBytesBE (slice m i n)
  let ls := s.linksByRef f (at_ 1 1)
  let each (g : State → Nat → State) : State := ls.foldl g s
  let current (g : State → Nat → State) : State := (ls.filter (fun l => decide (l < 16))).foldl g s
  match at_ 0 1 with
  | 0x01 => each (fun u l => u.onAck l (at_ 2 4) (at_ 6 4) (at_ 10 4))
  | 0x02 => each (fun u l => u.onNak l (at_ 2 4) (bits (at_ 6 1) 3 0) (at_ 7 1))
  | 0x03 => current (fun u l => u.onAbandon l (at_ 2 4) (at_ 6 1) [at_ 8 2, at_ 10 2, at_ 12 2, at_ 14 2])
  | 0x04 => each (fun u l => u.onRereq l (at_ 2 2) (at_ 4 4) none)
  | 0x05 => if ls.isEmpty then s else s.onCredit (bits (at_ 2 2) 13 0) (at_ 4 4)
  | 0x06 => current (fun u l => u.onDrained l (at_ 2 2))
  | 0x07 => current (fun u l => u.onReply l (at_ 2 2) (at_ 4 4))
  | _ => s

end Sys2Proof.Machine
end

