-- ==== Sys2Proof/Machine/Optics.lean ====
section
/-! DEFINITION. The optical control block: locking, relocking, pilot tone, calibration, enabling and
disabling, engine failure, monitors (14_optical_engines.md, R313-R335). -/
namespace Sys2Proof.Machine

/-- The channel is sweeping, or holds lock after a sweep: in LOCKING or RELOCKING, or at the end of a calibration (R319,
R320, R328). -/
def State.sweeps (s : State) (c : Nat) : Bool :=
  s.chState c == chLocking || s.chState c == chRelocking || s.chState c == chCalibrating

/-- The channel leaves lock and sweeps again (R317, R319); in CALIBRATING the closing sweep starts again (Table 14.5). A
channel that waits to be disabled goes on waiting (R330). -/
def State.relock (s : State) (c cause : Nat) : State :=
  let x := s.optic c
  let stays := x.wait == .disable
  let s := s.setOptic c { x with fineFrom := none, coarseRun := 0, holdUntil := none,
                                 waitUntil := if stays then x.waitUntil else none, wait := if stays then .disable else .none }
  if s.sweeps c then s.setChState c (s.chState c) true
  else s.leaveService c chRelocking true cause

/-- The fine loop is closed on the channel: it is in lock in service, in WAIT_SUBST and during a hold. -/
def State.inLock (s : State) (c : Nat) : Bool :=
  s.inService c || s.chState c == chWaitSubst || (s.sweeps c && (s.optic c).holdUntil.isSome)

/-- Every 64 µs: etalon and coarse monitor (R317, Table 14.5). -/
def execLockReading (t : Nat) (c : Fin 32) (r : LockReading) (s0 : State) : Result :=
  let s := s0.tick t
  let c := c.val
  let s := ((s.setObj (Reg.freqErrorMhz c) (toSigned 32 r.fineMhz)).setObj (Reg.rxPowerCdbm c)
    (toSigned 16 r.rxCdbm)).setObj (Reg.txPowerCdbm c) (toSigned 16 r.txCdbm)
  let s := s.setChBits c 7 7 (b2n r.carrierLock)
  if !s.inLock c then .next s
  else
    let x := s.optic c
    let fine := if r.fineMhz.natAbs ≤ 2500 then none else some (x.fineFrom.getD s.now)
    let coarse := if r.coarseMhz.natAbs ≤ 20000 then 0 else x.coarseRun + 1
    let s := s.setOptic c { x with fineFrom := fine, coarseRun := coarse }
    if 2 ≤ coarse then .next (((s.channelPoints c 500).bump (Reg.wrongLocks c)).relock c 2)
    else match fine with
      | some f =>
        if f + 100000 ≤ s.now then .next (((s.channelPoints c 200).bump (Reg.lockLosses c)).relock c 3)
        else .next s
      | none => .next s

/-- An attempt locks: exactly one of the noted lock points has a coarse reading within ±20 GHz, and held for 10 ms the fine
error stayed within ±0.5 GHz and the coarse one within ±10 GHz (R319). -/
def SweepAttempt.locks (a : SweepAttempt) : Bool :=
  (a.points.filter (fun p => decide (p.2.natAbs ≤ 20000))).length == 1 && decide (a.holdFine.natAbs ≤ 500) && decide (a.holdCoarse.natAbs ≤ 10000)

/-- The sweep returns locked: one of at most three attempts locks. -/
def sweepLocks (l : List SweepAttempt) : Bool := (l.take 3).any SweepAttempt.locks

/-- The sweep returns failed: three attempts have been made, and none locks. -/
def sweepFails (l : List SweepAttempt) : Bool := decide (3 ≤ l.length) && !sweepLocks l

/-- A locked channel holds its lock for RELOCK_HOLD_MS (R320). -/
def State.startHold (s : State) (c : Nat) : State :=
  s.setOptic c { s.optic c with holdUntil := some (s.now + 1000000 * s.obj Reg.relockHoldMs), fineFrom := none, coarseRun := 0 }

/-- A sweep has failed (R320). -/
def State.laserFail (s : State) (c : Nat) : State :=
  ((s.setOptic c { s.optic c with laserFailed := true, disableAfter := false }).leaveService c chLaserFailed true 6).failElement (element 2 c)

/-- The channel's engine has failed. -/
def State.engineDown (s : State) (c : Nat) : Bool := s.obj (Reg.engineState (c / 4)) == 1

/-- The channel is enabled. -/
def State.enabled (s : State) (c : Nat) : Bool := bit (s.obj (Reg.channelConfig c)) 24

/-- The channel is disabled, and waits for nothing (R330). That its laser failed is over: enabled again, it sweeps (R319). -/
def State.goDisabled (s : State) (c : Nat) : State :=
  (s.setOptic c { s.optic c with wait := .none, waitUntil := none, laserFailed := false }).leaveService c chDisabled true 4

/-- The channel comes into service, unless it has been disabled meanwhile (R330). -/
def State.enterService (s : State) (c : Nat) : State :=
  if s.enabled c then s.setChState c chInService false else s.goDisabled c

/-- A sweep has failed; a channel that has been disabled meanwhile is DISABLED (R320, R330). -/
def State.sweepFailed (s : State) (c : Nat) : State :=
  let s := s.laserFail c
  if s.enabled c then s else s.goDisabled c

/-- A sweep ends (R319, R320). One that has neither locked nor made its three attempts goes on. -/
def execRelockSweepDone (t : Nat) (c : Fin 32) (attempts : List SweepAttempt) (s0 : State) : Result :=
  let s := s0.tick t
  let c := c.val
  if (s.chState c = chLocking ∨ s.chState c = chRelocking) ∧ (s.optic c).holdUntil = none then
    if sweepLocks attempts then .next ((s.startHold c).setChBits c 6 6 0)
    else .next (if sweepFails attempts then s.sweepFailed c else s)
  else .next s

/-- The rota moves past the engine's channel. -/
def State.calNextChannel (s : State) (e c : Nat) : State :=
  let x := s.engineSt e
  s.setEngineSt e { x with calNext := if x.calNext = some c then none else x.calNext,
                           cursor := if 4 * e + x.cursor = c then (x.cursor + 1) % 4 else x.cursor }

/-- A locked channel has held lock for RELOCK_HOLD_MS: it returns to service, from a calibration too (R320, R328). -/
def execRelockHoldExpiry (t : Nat) (c : Fin 32) (s0 : State) : Result :=
  let s := s0.tick t
  let c := c.val
  let x := s.optic c
  match x.holdUntil with
  | some h =>
    if s.sweeps c ∧ h ≤ s.now then
      let cal := s.chState c == chCalibrating
      let s := (s.setOptic c { x with holdUntil := none, disableAfter := false }).enterService c
      let s := if s.inService c then s.bump (Reg.relocks c) else s
      .next (if cal then (s.calNextChannel (c / 4) c).bump (Reg.calibrations c) else s)
    else .next s
  | none => .next s

/-- The write of RELOCK_REQUEST (R320). -/
def State.writeRelock (s : State) (c v : Nat) : Status × State :=
  if v ≠ 1 then (stOutOfRange, s)
  else if s.chState c ≠ chLaserFailed then (stInconsistent, s)
  else (stOk, (s.setOptic c { s.optic c with holdUntil := none, laserFailed := false }).setChState c chRelocking true)

def execRelockRequest (t : Nat) (c : Fin 32) (value : Byte) (s0 : State) : Result :=
  .next ((s0.tick t).managed (fun s => s.writeRelock c.val value.toNat))

/-- CHECK of a pilot word (Table 14.3). -/
def pilotCheck (w : Nat) : Nat := crcOf crc8Cue (bytesBE 2 (w % 65536))

/-- A pilot word's CHECK is right. -/
def pilotWordOk (w : Nat) : Bool := pilotCheck w == bits w 23 16

/-- The word on a channel's pilot tone (Table 14.3). -/
def State.pilotWord (s : State) (c : Nat) : Nat :=
  let site := match s.active with
    | some n => hSite (s.hdr n)
    | none => 0
  let w := bits (s.obj (Reg.channelConfig c)) 4 0 + 2 ^ 5 * c + 2 ^ 10 * site
  w + 2 ^ 16 * pilotCheck w

/-- The frequency of its pilot tone [kHz] (R321). -/
def State.pilotKhz (s : State) (c : Nat) : Nat := 1000 + 10 * bits (s.obj (Reg.channelConfig c)) 4 0

/-- The word starts on a channel's light with every 37,500th line frame, 24 ms apart (R321; DESIGN CHOICE, log entry 124). -/
def State.pilotTx (s : State) (c lfn : Nat) : State :=
  if lfn % 37500 = 0 then s.emit (.pilot c (s.pilotKhz c) (s.pilotWord c)) else s

/-- A pilot word contradicts the channel's configuration or plan (R322). -/
def State.pilotWordBad (s : State) (c w : Nat) : Bool :=
  bits w 4 0 != bits (s.obj (Reg.channelConfig c)) 4 0
    || (s.role c == 1 && bits w 12 10 != pFarSite (s.planEntry c))

/-- Every 4 ms: the strongest tone and, when one completed, a word (R322). -/
def execPilotDetection (t : Nat) (c : Fin 32) (tone : Option (Fin 32)) (word : Option (BitVec 24)) (s0 : State) : Result :=
  let s := s0.tick t
  let c := c.val
  let x := s.optic c
  let own := bits (s.obj (Reg.channelConfig c)) 4 0
  let pr := match tone with
    | some g => if g.val = own then 0 else x.pilotRun + 1
    | none => 0
  let valid := match word with
    | some w => if pilotWordOk w.toNat then some w.toNat else none
    | none => none
  let wr := match valid with
    | some w => if s.pilotWordBad c w then x.wordRun + 1 else 0
    | none => x.wordRun
  let s := match valid with
    | some w => s.setObj (Reg.pilotRx c) (w + 2 ^ 24)
    | none => s
  let bad := decide (2 ≤ pr) || decide (2 ≤ wr)
  let badAt := if bad then some s.now else x.pilotBadAt
  let s := s.setOptic c { x with pilotRun := pr, wordRun := wr, pilotBadAt := badAt }
  if bad && !s.pilotMismatch c then
    let s := (s.event 0x300A c (bits (s.obj (Reg.pilotRx c)) 23 0)).bump (Reg.pilotMismatches c)
    let s := s.channelPoints c 200
    .next (if s.inService c then (s.setChBits c 10 10 1).setChBits c 15 12 8 else s.setChBits c 10 10 1)
  else if !bad && s.pilotMismatch c && decide (badAt.getD 0 + 100000000 ≤ s.now) then .next (s.setChBits c 10 10 0)
  else .next s

/-- Another channel of the engine is calibrating or waiting (R327). -/
def State.engineBusy (s : State) (c : Nat) : Bool :=
  ((List.range 4).map (fun i => 4 * (c / 4) + i)).any (fun d =>
    d != c && (s.chState d == chCalibrating || s.chState d == chWaitSubst))

/-- Both understudies of the channel's route are in service and carry nothing (R327). -/
def State.understudiesIdle (s : State) (c : Nat) : Bool :=
  let us := ((List.range 8).map (fun i => 8 * (c / 8) + i)).filter (fun u => s.role u == 2)
  us.length == 2 && us.all (fun u => s.inService u && !s.carries u && !s.foreignTx u)

/-- The channel that an engine calibrates next: the one CAL_REQUEST named, else the cursor's. -/
def State.calChannel (s : State) (e : Nat) : Nat :=
  let x := s.engineSt e
  x.calNext.getD (4 * e + x.cursor)

/-- The channel is due: named by CAL_REQUEST, or its period has passed (R327, R328). -/
def State.calDue (s : State) (e c : Nat) : Bool :=
  s.obj Reg.calEnable == 1 && ((s.engineSt e).calNext == some c ||
    match (s.optic c).calibratedAt with
    | none => true
    | some a => decide (a + 1000000000 * s.obj Reg.calPeriodS ≤ s.now))

/-- A channel due for calibration starts it (R327). A channel that is not enabled is passed over. -/
def execCalibrationStart (t : Nat) (e : Fin 8) (s0 : State) : Result :=
  let s := s0.tick t
  let e := e.val
  let c := s.calChannel e
  if !s.calDue e c then .next s
  else if s.chState c = chDisabled ∨ s.chState c = chLaserFailed ∨ s.chState c = chEngineFailed ∨ s.chState c = chDark then
    .next (s.calNextChannel e c)
  else if !s.inService c || s.engineBusy c then .next s
  else if s.role c = 1 then
    if s.understudiesIdle c then
      let s := s.setOptic c { s.optic c with wait := .calibrate, waitUntil := some (s.now + 1000000 * s.obj Reg.calWaitMs) }
      .next ((s.leaveService c chWaitSubst false 1).substitute c)
    else .next s
  else if s.carries c || s.foreignTx c then .next s
  else .next (s.leaveService c chCalibrating true 1)

/-- Both substitutions are in effect: the channel goes on to calibration or is disabled (R327, R330). -/
def State.substitutedGoOn (s : State) (c : Nat) : State :=
  let x := s.optic c
  if x.wait ≠ .none ∧ s.bothSubstituted c then
    if x.wait = .disable then s.goDisabled c
    else (s.setOptic c { x with wait := .none, waitUntil := none }).leaveService c chCalibrating true 1
  else s

/-- The same for every channel of a route. -/
def State.routeSubstituted (s : State) (n : Nat) : State :=
  (List.range 8).foldl (fun s i => s.substitutedGoOn (8 * n + i)) s

/-- A calibration is deferred to the next period; the rota stays on the channel (R327, Table 14.5). -/
def State.deferCal (s : State) (c : Nat) : State :=
  let s := s.setEngineSt (c / 4) { s.engineSt (c / 4) with calNext := none, cursor := c % 4 }
  (s.setOptic c { s.optic c with calibratedAt := some s.now }).bump (Reg.calDeferrals c)

/-- Both substitutions are not in effect within CAL_WAIT_MS (R327, R330). -/
def execCalWaitExpiry (t : Nat) (c : Fin 32) (s0 : State) : Result :=
  let s := s0.tick t
  let c := c.val
  let x := s.optic c
  match x.waitUntil with
  | some w =>
    if x.wait ≠ .none ∧ w ≤ s.now then
      let s := s.setOptic c { x with wait := .none, waitUntil := none }
      if x.wait = .disable then .next (s.goDisabled c)
      else .next ((s.deferCal c).setChState c chInService false)
    else .next s
  | none => .next s

/-- A calibration ends with its closing sweep, and the hold of R320 when that has locked; else with the channel in
LASER_FAILED (R328), where a disable that arrived meanwhile takes effect (Table 14.5). -/
def execCalibrationEnd (t : Nat) (c : Fin 32) (attempts : List SweepAttempt) (s0 : State) : Result :=
  let s := s0.tick t
  let c := c.val
  let x := s.optic c
  if s.chState c = chCalibrating ∧ x.holdUntil = none then
    let done := s.setOptic c { x with calibratedAt := some s.now }
    if sweepLocks attempts then .next (done.startHold c)
    else .next (if sweepFails attempts then (done.calNextChannel (c / 4) c).sweepFailed c else s)
  else .next s

/-- The write of CAL_REQUEST (R328). -/
def State.writeCalRequest (s : State) (v : Nat) : Status × State :=
  if 31 < v then (stOutOfRange, s)
  else (stOk, s.setEngineSt (v / 4) { s.engineSt (v / 4) with calNext := some v })

def execCalRequest (t : Nat) (value : Byte) (s0 : State) : Result :=
  .next ((s0.tick t).managed (fun s => s.writeCalRequest value.toNat))

/-- A channel enabled from DISABLED starts its sweep in READY, and is DARK otherwise (Table 14.4). -/
def State.enableChannel (s : State) (c : Nat) : State :=
  let x := s.optic c
  if s.chState c = chDisabled then
    let s := s.setOptic c { x with holdUntil := none, fineFrom := none, coarseRun := 0, disableAfter := false, laserFailed := false }
    s.setChState c (if s.modState = modReady then chLocking else chDark) true
  else if x.wait = .disable then
    let s := s.setOptic c { x with wait := .none, waitUntil := none }
    if s.chState c = chWaitSubst then s.setChState c chInService false else s
  else s.setOptic c { x with disableAfter := false }

/-- A channel that leaves RATE_CHANGE otherwise than in lock runs at the plan's rate from then on (R314). -/
def State.takeRate (s : State) (c : Nat) : State :=
  if s.chState c = chRateChange then s.setChBits c 5 4 (s.optic c).nextRate else s

/-- ENABLE = 0 with FORCE = 0 (R330, Table 14.5). -/
def State.disableChannel (s : State) (c : Nat) : State :=
  let x := s.optic c
  let st := s.chState c
  if st = chInService then
    if s.role c = 1 ∨ s.carries c then
      let s := s.setOptic c { x with wait := .disable, waitUntil := some (s.now + 1000000 * s.obj Reg.calWaitMs) }
      (s.leaveService c chWaitSubst false 4).substitute c
    else s.goDisabled c
  else if st = chWaitSubst then s.setOptic c { x with wait := .disable }
  else if st = chCalibrating then s.setOptic c { x with disableAfter := true }
  else if st = chDark ∨ st = chDisabled then s.setOptic c { x with laserFailed := false }
  else (s.takeRate c).goDisabled c

/-- A channel's state as it reads: one that is DARK with ENABLE = 0 reads DISABLED (R438). -/
def State.chReads (s : State) (c : Nat) : Nat := if s.chState c = chDark ∧ s.enabled c = false then chDisabled else s.chState c

/-- The write of CHANNEL_CONFIG (R329-R331). A channel whose engine has failed keeps its state until a reset (Table 14.4). -/
def State.writeChannelConfig (s : State) (c v : Nat) : Status × State :=
  let old := s.obj (Reg.channelConfig c)
  let launch := ofSigned 8 (bits v 15 8)
  let los := ofSigned 8 (bits v 23 16)
  let enable := bit v 24
  let clash := ((List.range 4).map (fun i => 4 * (c / 4) + i)).any (fun d =>
    d != c && bit (s.obj (Reg.channelConfig d)) 24 && bits (s.obj (Reg.channelConfig d)) 4 0 == bits v 4 0)
  if bits v 7 5 ≠ 0 ∨ bits v 31 26 ≠ 0 then (stReservedNonzero, s)
  else if launch < -60 ∨ 20 < launch ∨ los < -60 ∨ -30 < los then (stOutOfRange, s)
  else if bits v 4 0 ≠ bits old 4 0 ∧ s.chReads c ≠ chDisabled then (stChannelInService, s)
  else if enable && clash then (stInconsistent, s)
  else
    let s := s.setObj (Reg.channelConfig c) (setBits v 25 25 0)
    (stOk,
      if s.engineDown c then s
      else if enable then s.enableChannel c
      else if bit v 25 then ((s.setOptic c { s.optic c with holdUntil := none, disableAfter := false }).takeRate c).goDisabled c
      else s.disableChannel c)

def execChannelEnable (t : Nat) (c : Fin 32) (config : Word32) (s0 : State) : Result :=
  .next ((s0.tick t).managed (fun s => s.writeChannelConfig c.val (setBit config.toNat 24 true)))

def execChannelDisable (t : Nat) (c : Fin 32) (config : Word32) (s0 : State) : Result :=
  .next ((s0.tick t).managed (fun s => s.writeChannelConfig c.val (setBits config.toNat 25 24 0)))

def execChannelForceDisable (t : Nat) (c : Fin 32) (config : Word32) (s0 : State) : Result :=
  .next ((s0.tick t).managed (fun s => s.writeChannelConfig c.val (setBits config.toNat 25 24 2)))

/-- A channel retuned to its new rate is in lock (R324). -/
def execRateChangeLocked (t : Nat) (c : Fin 32) (s0 : State) : Result :=
  let s := s0.tick t
  let c := c.val
  if s.chState c = chRateChange then
    .next ((s.enterService c).setChBits c 5 4 (s.optic c).nextRate)
  else .next s

/-- Rates of a new active plan (R314, R324), which gives every channel one: a channel that is lit in service or in
WAIT_SUBST retunes, one that is retuning goes on to the new rate, another takes the rate (DEDUCED, log entry 111). -/
def State.adoptRates (s : State) : State :=
  (List.range 32).foldl (fun s c =>
    let e := s.planEntry c
    if s.chState c = chRateChange then s.setOptic c { s.optic c with nextRate := pRate e }
    else if pRate e = s.chRate c then s
    else if s.inService c ∨ s.chState c = chWaitSubst then
      (s.setOptic c { s.optic c with nextRate := pRate e, wait := .none, waitUntil := none }).leaveService c chRateChange true 7
    else s.setChBits c 5 4 (pRate e)) s

/-- An engine fails (R332): cause 1 link, 2 supply, 3 DSP fault. -/
def State.engineFail (s : State) (e cause : Nat) : State :=
  if s.obj (Reg.engineState e) = 1 then s
  else
    let s := (List.range 4).foldl (fun s i => (s.takeRate (4 * e + i)).leaveService (4 * e + i) chEngineFailed true 5) s
    let s := (List.range 4).foldl (fun s i => s.setOptic (4 * e + i)
      { s.optic (4 * e + i) with wait := .none, waitUntil := none, holdUntil := none, disableAfter := false }) s
    let s := (s.setObj (Reg.engineState e) 1).event 0x300B e cause
    (s.failElement (element 8 e)).slewExempt 5

def execEngineFailed (t : Nat) (e : Fin 8) (cause : EngineFault) (s0 : State) : Result :=
  .next ((s0.tick t).engineFail e.val (match cause with
    | .supply => 2
    | .dsp => 3))

/-- A training loss of an engine link counts toward the three within 1 s (R332). -/
def execEngineLinkTrainingLoss (t : Nat) (e : Fin 8) (s0 : State) : Result :=
  let s := s0.tick t
  let e := e.val
  let recent := (s.engineSt e).losses.filter (fun a => decide (s.now < a + 1000000000))
  let s := s.setEngineSt e { s.engineSt e with losses := s.now :: recent }
  if 2 ≤ recent.length then .next (s.engineFail e 1) else .next s

/-- The write of MONITOR_SELECT (R334), whose engines an Intermission powers down (R451). WRONG_STATE comes before the
reserved bits then (R10; DESIGN CHOICE, log entry 146). -/
def State.writeMonitor (s : State) (v : Nat) : Status × State :=
  if s.asleep then (stWrongState, s)
  else if bits v 15 12 ≠ 0 then (stReservedNonzero, s)
  else if 8 < bits v 11 8 ∨ 4 < bits v 7 5 then (stOutOfRange, s)
  else
    let s := s.setObj Reg.monitorSelect v
    (stOk, ({ s with monitor := some s.now } : State).setObj Reg.monitorValue (setBit (s.obj Reg.monitorValue) 31 false))

def execMonitorSelect (t : Nat) (value : BitVec 16) (s0 : State) : Result :=
  .next ((s0.tick t).managed (fun s => s.writeMonitor value.toNat))

/-- A monitor integration completes (R334). -/
def execMonitorDone (t : Nat) (code : BitVec 16) (s0 : State) : Result :=
  let s := s0.tick t
  match s.monitor with
  | none => .next s
  | some _ =>
    let v := code.toNat + 2 ^ 16 * bits (s.obj Reg.monitorSelect) 11 8 + 2 ^ 31
    .next (({ s with monitor := none } : State).setObj Reg.monitorValue v)

/-- Every channel DARK, as in the Safe state and in Intermission (Table 14.5, R438). -/
def State.darkenAll (s : State) : State :=
  (List.range 32).foldl (fun s c =>
    let s := s.setOptic c { s.optic c with wait := .none, waitUntil := none, holdUntil := none, disableAfter := false }
    (s.takeRate c).setChState c chDark true) s

/-- Channels leave DARK as the module becomes READY: to LOCKING, or DISABLED when ENABLE = 0 (Table 14.4). What only a reset
or RELOCK_REQUEST ends goes on: the failure of an engine or a laser (R320, R332; DEDUCED, log entry 111). -/
def State.lightAll (s : State) : State :=
  (List.range 32).foldl (fun s c =>
    if s.chState c = chDark then
      s.setChState c (if s.engineDown c then chEngineFailed
        else if !s.enabled c then chDisabled
        else if (s.optic c).laserFailed then chLaserFailed else chLocking) true
    else s) s

/-- 0x3401.(c+1) CHANNEL_STATE (Table 14.9): UNDERSTUDY and CARRYING are read from the plan and the substitutions. -/
def State.channelStateWord (s : State) (c : Nat) : Nat :=
  let under := s.role c == 2
  let r := s.route (c / 8)
  setBits (setBits (s.obj (Reg.channelState c)) 3 0 (s.chReads c)) 17 16 (b2n under
    + 2 * b2n (under && ((carriedIn r.txSubst0 r.txSubst1 (c % 8)).isSome || s.foreignTx c)))

/-- 0x3410.(e+1) ENGINE_STATE: 2 while the engine's channels are all DARK (DEDUCED, log entry 111). -/
def State.engineStateWord (s : State) (e : Nat) : Nat :=
  let v := s.obj (Reg.engineState e)
  if v = 1 then 1 else if (List.range 4).all (fun i => s.chState (4 * e + i) == chDark) then 2 else v

end Sys2Proof.Machine
end

