-- ==== Sys2Proof/Machine/Pages.lean ====
section
/-! DEFINITION. Pages of the interchange and the page switch (10_line_framing.md, R224, R228-R234, R238). -/
namespace Sys2Proof.Machine

abbrev pageIdle : Nat := 0
abbrev pagePending : Nat := 1
abbrev pageDraining : Nat := 2

/-- Fields of a connection memory entry (Table 10.4). -/
def mGroup (e : Nat) : Nat := bits e 5 0
def mSeq (e : Nat) : Nat := bits e 14 6
def mValid (e : Nat) : Bool := bit e 31

/-- The page governed by a write of subindex j + 1: transmit A, transmit B, receive A, receive B (R228). -/
def State.pageWriteStatus (s : State) (j : Nat) (reservedOk : Bool) : Status :=
  if !reservedOk then stReservedNonzero
  else if j % 2 = s.obj Reg.pageActive then stPageActive
  else if s.obj Reg.pageSwitchState ≠ pageIdle then stSwitchPending
  else stOk

/-- The write of CM_PAGE j + 1. -/
def State.writeCmPage (s : State) (j v : Nat) : Status × State :=
  let ok := (List.range 2048).all (fun i => bits v (32 * i + 30) (32 * i + 15) == 0)
  let st := s.pageWriteStatus j ok
  if st = stOk then (stOk, s.setObj (Reg.cmPage j) v) else (st, s)

/-- The write of LG_TABLE j + 1. -/
def State.writeLgTable (s : State) (j v : Nat) : Status × State :=
  let ok := (List.range 64).all (fun i => bits v (32 * i + 31) (32 * i + 6) == 0)
  let st := s.pageWriteStatus j ok
  if st = stOk then (stOk, s.setObj (Reg.lgTable j) v) else (st, s)

def execPageWrite (t : Nat) (target : PageTarget) (j : Fin 4) (value : Nat) (s0 : State) : Result :=
  let s := s0.tick t
  match target with
  | .connectionMemory => .next (s.managed (fun s => s.writeCmPage j.val value))
  | .lineGroups => .next (s.managed (fun s => s.writeLgTable j.val value))

/-! ### The rules for the inactive page (R229) -/

/-- The valid entries of a connection memory, by entry number. -/
def State.validEntries (s : State) (rx : Bool) (page : Nat) : List (Nat × Nat) :=
  ((List.range 2048).map (fun i => (i, s.cmEntry rx page i))).filter (fun p => mValid p.2)

/-- First entry of a connection memory that breaks a rule: its group is enabled, is of the channel's route,
and all groups on the channel have one far site (DEDUCED, log entry 53). -/
def State.cmBreak (s : State) (rx : Bool) (page : Nat) : Option Nat :=
  ((s.validEntries rx page).find? (fun p =>
    let g := s.lgEntry rx page (mGroup p.2)
    !gEnable g || gRoute g != p.1 / 512 || s.entrySite rx page (p.1 / 64) != some (gFarSite g))).map Prod.fst

/-- First group whose entries' SEQ values are not 0 to n − 1 (DEDUCED, log entry 53). -/
def State.groupBreak (s : State) (rx : Bool) (page : Nat) : Option Nat :=
  let es := s.validEntries rx page
  (List.range 64).find? (fun g =>
    let qs := (es.filter (fun p => mGroup p.2 == g)).map (fun p => mSeq p.2)
    !(List.range qs.length).all (fun i => qs.contains i))

/-- PAGE_SWITCH_DETAIL for a page, if it breaks a rule. -/
def State.pageBreak (s : State) (page : Nat) : Option Nat :=
  (s.cmBreak false page).orElse (fun _ => ((s.cmBreak true page).map (· + 2048)).orElse (fun _ =>
    ((s.groupBreak false page).map (· + 4096)).orElse (fun _ => (s.groupBreak true page).map (· + 4160))))

/-- The switch frame of epoch E: the first multiple of 256 at or after its boundary (R229). -/
def switchFrame (e : Nat) : Nat := 256 * ceilDiv (e * 1000000) 163840

/-- The write of PAGE_SWITCH_REQUEST (R229, R232). WRONG_STATE of an Intermission comes before the reserved bits (R10, R451;
DESIGN CHOICE, log entry 146). -/
def State.writePageSwitch (s : State) (v : Nat) : Status × State :=
  let st := s.obj Reg.pageSwitchState
  if s.asleep then (stWrongState, s)
  else if bits v 127 65 ≠ 0 then (stReservedNonzero, s)
  else if bit v 64 then
    if st = pagePending ∧ s.lfn + 256 < s.obj Reg.pageSwitchFrame then (stOk, s.setObj Reg.pageSwitchState pageIdle)
    else (stTooLate, s)
  else
    let l := switchFrame (bits v 63 0)
    if st ≠ pageIdle then (stSwitchPending, s)
    else if l < s.lfn + 512 then (stEpochPassed, s)
    else match s.pageBreak (1 - s.obj Reg.pageActive) with
      | some d => (stInconsistent, s.setObj Reg.pageSwitchDetail d)
      | none => (stOk, (s.setObj Reg.pageSwitchState pagePending).setObj Reg.pageSwitchFrame l)

def execPageSwitchRequest (t : Nat) (epoch : Word64) (s0 : State) : Result :=
  .next ((s0.tick t).managed (fun s => s.writePageSwitch epoch.toNat))

/-- A cancelling write; EPOCH is not looked at. -/
def execPageSwitchCancel (t : Nat) (epoch : Word64) (s0 : State) : Result :=
  .next ((s0.tick t).managed (fun s => s.writePageSwitch (epoch.toNat + 2 ^ 64)))

/-! ### The switch (R230, R238) -/

/-- The fields (members, SUBST0, SUBST1) of route n once a page switches: a substitution whose understudy gets an entry in
the page ends, and the carried channel leaves the member set (R238). -/
def State.fieldsAt (s : State) (rx : Bool) (n page : Nat) (f : Nat × Nat × Nat) : Nat × Nat × Nat :=
  let ends (v : Nat) : Bool := substValid v && s.hasEntry rx page (8 * n + substUnder v)
  let drop (m v : Nat) : Nat := if ends v then setBit m (substCarried v) false else m
  (drop (drop f.1 f.2.1) f.2.2, if ends f.2.1 then 0 else f.2.1, if ends f.2.2 then 0 else f.2.2)

/-- The same of an announcement that stands or waits: a member set without the channels that leave; a substitution field
that has ended is announced to end no more. -/
def Ann.without (gone : Nat) (a : Ann) : Ann :=
  if a.kind = 3 then { a with value := (List.range 8).foldl (fun m i => if bit gone i then setBit m i false else m) a.value } else a

/-- Such substitutions end in the transmit direction, without an announcement (R238). One that is announced or waits at L is
not in effect, and takes effect after it (DESIGN CHOICE, log entry 133). -/
def State.endSubst (s : State) (n page : Nat) : State :=
  let r := s.route n
  let f := s.fieldsAt false n page (r.txMembers, r.txSubst0, r.txSubst1)
  let gone := (List.range 8).foldl (fun m i => setBit m i (bit r.txMembers i && !bit f.1 i)) 0
  if (r.txMembers, r.txSubst0, r.txSubst1) = f then s
  else
    let r := { r with txMembers := f.1, txSubst0 := f.2.1, txSubst1 := f.2.2,
                      ann := r.ann.map (Ann.without gone), queue := r.queue.map (Ann.without gone) }
    (s.setRoute n r).bumpBy Reg.memberChanges (popCount 8 gone)

/-- The page switches (R230). -/
def State.pageSwitch (s : State) : State :=
  let l := s.obj Reg.pageSwitchFrame
  let page := 1 - s.obj Reg.pageActive
  let s := ((s.event 0x3001 l page).bump Reg.pageSwitches).setObj Reg.pageSwitchState pageDraining
  let s := s.setObj Reg.pageActive page
  let s := { s with framer := { s.framer with switches := (l :: s.framer.switches).take 4 } }
  (List.range 4).foldl (fun u n => u.endSubst n page) s

/-- The part of a slot cut at an alignment point is discarded (R226). -/
def State.cutSlot (s : State) (x : GroupPos) : State :=
  if x.rest.all (fun b => b == 0#8) then s else s.bump Reg.partialSlotsDiscarded

/-- Groups that satisfy `p` have no words any more: what they hold of a slot is cut (R226). -/
def State.endGroups (s : State) (p : Nat → GroupPos → Bool) : State :=
  let gone := s.framer.rxPos.filterMap (fun e => e.2.bind (fun x => if p e.1 x then some (e.1, x) else none))
  let s := gone.foldl (fun u e => u.cutSlot e.2) s
  { s with framer := { s.framer with rxPos := gone.foldl (fun m e => tset none m e.1 none) s.framer.rxPos } }

/-- The old page becomes writable (R230). No frame of it is read any more, so a slot that a group which the new page lacks
left unfinished is cut (R226). -/
def State.pageDrain (s : State) : State :=
  if s.obj Reg.pageSwitchState = pageDraining ∧ s.obj Reg.pageSwitchFrame + 4096 ≤ s.lfn then
    (s.endGroups (fun g _ => !gEnable (s.lgEntry true (s.obj Reg.pageActive) g))).setObj Reg.pageSwitchState pageIdle
  else s

def execPageDrainEnd (t : Nat) (s0 : State) : Result := .next (State.pageDrain (s0.tick t))

/-- The page that governs a frame (R230). -/
def State.pageFor (s : State) (lfn : Nat) : Nat :=
  let a := s.obj Reg.pageActive
  let l := s.obj Reg.pageSwitchFrame
  let st := s.obj Reg.pageSwitchState
  if st = pagePending ∧ l ≤ lfn then 1 - a
  else if st = pageDraining ∧ lfn < l then 1 - a
  else a

/-- Switch frames of the last page switches, one that is pending included (R227, R229). -/
def State.switchPoints (s : State) : List Nat :=
  if s.obj Reg.pageSwitchState = pagePending then s.obj Reg.pageSwitchFrame :: s.framer.switches else s.framer.switches

/-- The latest of alignment points at or before a frame; 0 before the first (R227). -/
def alignAt (points : List Nat) (lfn : Nat) : Nat := (points.filter (fun a => decide (a ≤ lfn))).foldl max 0

/-- A group's slots in its word order: (channel, tributary slot), by SEQ, of member channels and within the
channel's rate (R225). -/
def State.groupSlots (s : State) (rx : Bool) (page g members : Nat) : List (Nat × Nat) :=
  let es := (s.validEntries rx page).filter (fun p => mGroup p.2 == g && bit members (p.1 / 64 % 8)
    && decide (p.1 / 512 = gRoute (s.lgEntry rx page g)) && decide (p.1 % 64 < slotsOf (s.chRate (p.1 / 64))))
  (List.range 512).filterMap (fun q => (es.find? (fun p => mSeq p.2 == q)).map (fun p => (p.1 / 64, p.1 % 64)))

/-- Bytes of a group in the frames from `a` up to `b`: `k` slots, `d` of them on diverted channels (R225, R243). -/
def groupSpan (k d a b : Nat) : Nat := (b - a) * (8 * 123 * k) - (b / 256 - a / 256) * (8 * d)

end Sys2Proof.Machine
end

