-- ==== Sys2Proof/Machine/FrameTx.lean ====
section
/-! DEFINITION. Sending line frames: announcements, member sets, slots of line groups, overhead, foreign
channels (10_line_framing.md, R218-R221, R225-R227, R235-R247; R253, R283, R372). -/
namespace Sys2Proof.Machine

/-! ### The start of a multiframe (R221, R236, R239) -/

/-- RX_REQUEST that this end sends on route n (R242). -/
def State.rxRequest (s : State) (n : Nat) : Nat :=
  (List.range 8).foldl (fun a i => setBit a i (s.cannotUse (8 * n + i))) 0

/-- The channel qualifies for the restore holdoff: clear of failure and of any RX_REQUEST bit (R237). -/
def State.isClear (s : State) (c : Nat) : Bool :=
  !(s.chan c).txFail && !bit (s.route (c / 8)).rxReq (c % 8)

/-- The instant since which the channel is clear is kept. -/
def State.noteClear (s : State) (c : Nat) : State :=
  let x := s.chan c
  if s.isClear c then (if x.clearFrom.isSome then s else s.setChan c { x with clearFrom := some s.now })
  else s.setChan c { x with clearFrom := none }

/-- DIVERT_REQUEST for a channel goes to a neighbour; HP15's is asked first (R361). -/
def State.askDivert (s : State) (c : Nat) (ports : List Nat) : State :=
  match ports.find? s.ringUp with
  | none => s
  | some p =>
    let m := s.ringControl 2 s.ringPos c (s.chRate c) 0 (pFarSite (s.planEntry c)) (s.route (c / 8)).txMembers
    let s := s.queueRing p m
    { s with ringSt := { s.ringSt with asked := s.ringSt.asked.filter (fun q => q.1 != c) ++ [(c, p)] } }

/-- A diversion of this module's channel, granted. -/
def State.ownDiversion (s : State) (c : Nat) : Option Diversion := s.ringSt.divs.find? (fun d => d.owner && d.wc == c)

/-- The channel is diverted: its blocks go over the ring (R243). -/
def State.diverted (s : State) (c : Nat) : Bool := s.ringSt.divs.any (fun d => d.owner && d.wc == c && d.started)

/-- SUBJECT of the diversion events (Table 18.7). -/
def diversionSubject (d : Diversion) : Nat := d.wc + 256 * d.pos

/-- A diversion starts or ends: event and counter (R362). -/
def State.noteDiversion (s : State) (d : Diversion) (started : Bool) : State :=
  (s.event (if started then 0x2009 else 0x200A) (diversionSubject d) d.under).bump Reg.diversions

/-- A granted diversion starts with its channel's return (Table 15.9 step 4). -/
def State.startDiversion (s : State) (c : Nat) : State :=
  match s.ownDiversion c with
  | none => s
  | some d =>
    if d.started then s
    else
      let ds := s.ringSt.divs.map (fun e => if e.owner && e.wc == c then { e with started := true } else e)
      State.noteDiversion { s with ringSt := { s.ringSt with divs := ds } } d true

/-- An announcement takes effect at the start of multiframe mf (R236, R237, R240, R361). One of the member set that leaves
the set as it is, as where a diversion begins for a channel that is a member, changes nothing that MEMBER_CHANGES counts. -/
def State.takeEffect (s : State) (n : Nat) (a : Ann) (start : Nat) : State :=
  let r := s.route n
  let old := r.txMembers
  let f := a.apply (r.txMembers, r.txSubst0, r.txSubst1)
  let at_ := 256 * (start + 2)
  let r := { r with txMembers := f.1, txSubst0 := f.2.1, txSubst1 := f.2.2, ann := none, annEnd := start + 2,
                    alignTx := if a.kind = 3 then (at_ :: r.alignTx).take 4 else r.alignTx }
  let s := s.setRoute n r
  if a.kind = 1 then s.bump Reg.substitutions
  else if a.kind = 3 then
    let done (d : Diversion) : Bool := d.owner && d.ending && decide (d.wc / 8 = n) && !bit f.1 (d.wc % 8)
    let s : State := { s with ringSt := { s.ringSt with divs := s.ringSt.divs.filter (fun d => !done d) } }
    let s := if f.1 = old then s else s.bump Reg.memberChanges
    if 32 ≤ a.channel then s
    else if bit a.value (a.channel % 8) then s.startDiversion a.channel
    else if s.chState a.channel = chEngineFailed ∧ s.role a.channel = 1 then s.askDivert a.channel [15, 14]
    else s
  else s

/-- Channels that join the member set: in service for the first time with entries in the transmit page (R239). -/
def State.joiners (s : State) (n : Nat) : List Nat :=
  ((List.range 8).map (fun i => 8 * n + i)).filter (fun c =>
    s.inService c && !(s.chan c).joined && s.hasEntry false (s.obj Reg.pageActive) c)

/-- Joining channels are announced together. -/
def State.joinMembers (s : State) (n : Nat) : State :=
  match s.joiners n with
  | [] => s
  | cs =>
    let s := cs.foldl (fun u c => u.setChan c { u.chan c with joined := true }) s
    let m := cs.foldl (fun a c => setBit a (c % 8) true) (s.route n).planned.1
    s.queueAnn n { kind := 3, field := 0, value := m, channel := 32 }

/-- The next announcement of a route begins, one multiframe at least after the last one took effect. DEDUCED, log entry 51. -/
def State.nextAnn (s : State) (n mf : Nat) : State :=
  let r := s.route n
  match r.ann, r.queue with
  | none, a :: q => if r.annEnd < mf then s.setRoute n { r with ann := some { a with start := some mf }, queue := q } else s
  | _, _ => s

/-- JC of a multiframe from the fill of a foreign queue (R245). -/
def jcOf (fill : Nat) : Nat := if 2304 < fill then 1 else if fill < 1792 then 2 else 0

/-- The foreign channels that a route's channels send choose their JC. -/
def State.chooseJc (s : State) (n : Nat) : State :=
  ((List.range 8).map (fun i => 8 * n + i)).foldl (fun u c => match tget none u.foreign c with
    | some x => { u with foreign := tset none u.foreign c (some { x with jc := jcOf x.blocks.length }) }
    | none => u) s

/-- What has taken effect at a frame up to the switch frame meets the new page there: a substitution whose understudy gets
an entry ends at L, be it that it takes effect there (R238). -/
def State.endAtSwitch (s : State) (n lfn : Nat) : State :=
  if s.obj Reg.pageSwitchState = pageDraining ∧ lfn ≤ s.obj Reg.pageSwitchFrame then s.endSubst n (s.obj Reg.pageActive) else s

/-- What happens on route n at the start of multiframe mf. -/
def State.multiframeStart (s : State) (n mf : Nat) : State :=
  let r := s.route n
  if r.txMf = some mf then s
  else
    let s := s.setRoute n { r with txMf := some mf, myReq := s.rxRequest n }
    let s := match r.ann with
      | some a => match a.start with
        | some st => if st + 2 ≤ mf then ((s.takeEffect n a st).endAtSwitch n (256 * (st + 2))).routeSubstituted n else s
        | none => s
      | none => s
    ((s.joinMembers n).nextAnn n mf).chooseJc n

/-! ### Slots of line groups (R226, R274) -/

/-- The next parcel for a line group leaves its link: re-sends first, links in order (DESIGN CHOICE, log entry 54). T_RETRY
runs from here (R285). -/
def State.popSlot (s : State) (g : Nat) : Option (List Byte) × State :=
  let has (resend : Bool) : Option Nat :=
    (s.links.find? (fun p => p.2.slots.any (fun q => q.lg == g && (q.resend || !resend)))).map Prod.fst
  match (has true).orElse (fun _ => has false) with
  | none => (none, s)
  | some l =>
    let k := s.link l
    match k.slots.find? (fun q => q.lg == g) with
    | none => (none, s)
    | some q => (some q.bytes, s.setLink l { (k.modStripe q.ssn (fun t => { t with lastTx := s.now })) with slots := k.slots.erase q })

/-- `need` bytes of group g: the rest of the slot in progress, then whole slots. `left`: bytes to the next
alignment point from here. -/
def State.fillGroup (g : Nat) : Nat → State → List Byte → Nat → Option Nat → List Byte × List Byte × State
  | 0, s, rest, _, _ => ([], rest, s)
  | fuel + 1, s, rest, need, left =>
    if need = 0 then ([], rest, s)
    else if rest.isEmpty then
      if match left with
        | some b => decide (b < 4160)
        | none => false
      then (List.replicate need 0#8, List.replicate (left.getD 0 - need) 0#8, s)
      else
        let (b, s) := s.popSlot g
        State.fillGroup g fuel s (b.getD (List.replicate 4160 0#8)) need left
    else
      let x := rest.take need
      let (r, rest, s) := State.fillGroup g fuel s (rest.drop need) (need - x.length) (left.map (fun b => b - x.length))
      (x ++ r, rest, s)

/-- The next alignment point known on route n after a frame. -/
def State.nextAlign (s : State) (n lfn : Nat) : Option Nat :=
  let a := if s.obj Reg.pageSwitchState = pagePending then some (s.obj Reg.pageSwitchFrame) else none
  let b := match (s.route n).ann with
    | some x => if x.kind = 3 then x.start.map (fun st => 256 * (st + 2)) else none
    | none => none
  let later := ([a, b].filterMap id).filter (fun p => decide (lfn < p))
  match later with
  | [] => none
  | p :: r => some (r.foldl min p)

/-- The bytes of group g in frame lfn are taken (R225, R226). -/
def State.takeGroup (s : State) (lfn g : Nat) : State :=
  let page := s.obj Reg.pageActive
  let e := s.lgEntry false page g
  let n := gRoute e
  let r := s.route n
  let slots := if gEnable e then s.groupSlots false page g r.txMembers else []
  if slots.isEmpty then { s with framer := { s.framer with txPos := tset none s.framer.txPos g none } }
  else
    let k := slots.length
    let d := (slots.filter (fun q => s.diverted q.1)).length
    let al := alignAt (s.switchPoints ++ r.alignTx) lfn
    let off := groupSpan k d al lfn
    let need := groupSpan k d lfn (lfn + 1)
    let rest := match tget none s.framer.txPos g with
      | some x => if x.align = al ∧ x.pos = off then x.rest
        else if off % 4160 = 0 then [] else List.replicate (4160 - off % 4160) 0#8
      | none => if off % 4160 = 0 then [] else List.replicate (4160 - off % 4160) 0#8
    let left := (s.nextAlign n lfn).map (fun a => groupSpan k d lfn a)
    let (bs, rest, s) := State.fillGroup g (2 * (need / 4160) + 6) s rest need left
    { s with framer := { s.framer with
        txBytes := tset [] s.framer.txBytes g bs,
        txPos := tset none s.framer.txPos g (some { align := al, pos := off + need, rest := rest }) } }

/-- The far site whose channel c it is in the active plan. -/
def State.chanSite (s : State) (c : Nat) : Nat := pFarSite (s.planEntry c)

/-- The plan entry under which channel c carries ARQ messages: the active plan's, or after RETIRE that of the plan that
was active last, for the links that drain (R118; DEDUCED, log entry 77). -/
def State.arqEntry (s : State) (c : Nat) : Nat := if s.active.isSome then s.planEntry c else s.framer.lastPlan.getD c 0
def State.arqSite (s : State) (c : Nat) : Nat := pFarSite (s.arqEntry c)

/-- The site at the far end of channel c's light: an understudy's is that of the channel it carries, by the SUBST fields of
its direction, or of the neighbour's channel that it carries (R16, R244, R307). -/
def State.lightSite (s : State) (c subst0 subst1 : Nat) : Nat := match carriedIn subst0 subst1 (c % 8) with
  | some i => s.arqSite (8 * (c / 8) + i)
  | none => ((s.ringSt.divs.find? (fun d => !d.owner && d.under == c)).map Diversion.site).getD (s.arqSite c)

/-- Channels of route n that may carry ARQ messages toward site f: in service, working, not TXFAIL, and not diverted
(R243, R283). -/
def State.arqChannels (s : State) (n f : Nat) : List Nat :=
  ((List.range 8).map (fun i => 8 * n + i)).filter (fun c =>
    s.inService c && pRole (s.arqEntry c) == 1 && s.arqSite c == f && !(s.chan c).txFail && !s.diverted c)

/-- Routes that have no channel for a message get no copy of it; a message without routes goes. -/
def State.dropRoutes (s : State) : State :=
  let ms := s.framer.msgs.map (fun m => (m.1, m.2.1, m.2.2.filter (fun n => !(s.arqChannels n (s.linkSite m.2.1)).isEmpty)))
  { s with framer := { s.framer with msgs := ms.filter (fun m => !m.2.2.isEmpty) } }

/-- A pending switch whose frame has come takes place, and every link's stripes are looked at again, since a group may have
lost its place (R230, R279, R281); a draining one ends 4,096 frames later. -/
def State.pageProgress (s : State) : State :=
  (if s.obj Reg.pageSwitchState = pagePending ∧ s.obj Reg.pageSwitchFrame ≤ s.lfn then s.pageSwitch.linksProgress (List.range 16)
    else s).pageDrain

def execPageSwitched (t : Nat) (s0 : State) : Result := .next (State.pageProgress (s0.tick t))

/-- What happens once before the first channel sends frame lfn. -/
def State.beginFrame (s : State) (lfn : Nat) : State :=
  if s.framer.txLfn = some lfn then s
  else
    let s := s.pageProgress
    let s := (List.range 4).foldl (fun u n => u.multiframeStart n (lfn / 256)) s
    let s := (s.links.map Prod.fst).foldl (fun u l => u.drainedDue l) s
    let s := s.dropRoutes
    let s := { s with framer := { s.framer with txLfn := some lfn, txBytes := [] } }
    (List.range 64).foldl (fun u g => u.takeGroup lfn g) s

/-! ### The payload (R219, R225, R237) -/

/-- Word (t, p) of channel w in frame lfn. -/
def State.txWord (s : State) (lfn w t p : Nat) : List Byte :=
  let page := s.obj Reg.pageActive
  let e := s.cmEntry false page (64 * w + t)
  let g := mGroup e
  let slots := s.groupSlots false page g (s.route (w / 8)).txMembers
  let skip := decide (p = 122) && decide (lfn % 256 = 255)
  let here := if skip then slots.filter (fun q => !s.diverted q.1) else slots
  match mValid e, here.findIdx? (fun q => q.1 == w && q.2 == t) with
  | true, some i => slice (tget [] s.framer.txBytes g) (8 * (p * slots.length + i)) 8
  | _, _ => List.replicate 8 0#8

/-- Payload blocks 0 to 122 of channel w. -/
def State.txBlocks (s : State) (lfn w : Nat) : List (List Byte) :=
  (List.range 123).map (fun p => (List.range (slotsOf (s.chRate w))).flatMap (fun t => s.txWord lfn w t p))

/-- Blocks of zeros. -/
def zeroBlocks (rate : Nat) : List (List Byte) := List.replicate 123 (List.replicate (8 * slotsOf rate) 0#8)

/-- Block p of a foreign frame is stuff (Table 10.7). -/
def isStuff (mfas jc p : Nat) : Bool :=
  decide (mfas = 255) && ((decide (p = 122) && jc != 1) || (decide (p = 121) && jc == 2))

/-- A frame of foreign blocks being built: the blocks, the pointer with F_LFN, F_PAGE and F_MEMBERS, the queue. -/
structure ForeignOut where
  blocks : List (List Byte) := []
  ptr : Option (Nat × Nat × Nat × Nat) := none
  left : ForeignSt

/-- Block p of a foreign frame comes from the queue, unless it is stuff or the queue is empty. -/
def foreignBlock (mfas size : Nat) (a : ForeignOut) (p : Nat) : ForeignOut :=
  let zero := List.replicate size 0#8
  if isStuff mfas a.left.jc p then { a with blocks := a.blocks ++ [zero] }
  else match a.left.blocks with
    | [] => { a with blocks := a.blocks ++ [zero] }
    | b :: r =>
      let ptr := match a.ptr, a.left.heads.head? with
        | none, some (0, l, pg, m) => some (p, l, pg, m)
        | q, _ => q
      let heads := (a.left.heads.filter (fun h => h.1 != 0)).map (fun h => (h.1 - 1, h.2))
      { blocks := a.blocks ++ [b], ptr := ptr, left := { a.left with blocks := r, heads := heads } }

/-- An understudy begins to send the blocks it carries (Table 15.9 step 5; R362). -/
def State.startCarrying (s : State) (c : Nat) : State :=
  let mine (d : Diversion) : Bool := !d.owner && d.under == c
  match s.ringSt.divs.find? mine with
  | none => s
  | some d =>
    let ds := s.ringSt.divs.map (fun e => if mine e then { e with started := true } else e)
    State.noteDiversion { s with ringSt := { s.ringSt with divs := ds } } d true

/-- What channel c sends in its payload blocks, its foreign overhead (Table 10.8), and the state after (R235,
R237, R244, R245). -/
def State.txPayload (s : State) (lfn c : Nat) : List (List Byte) × List Byte × State :=
  let rate := s.chRate c
  let none16 := List.replicate 32 0#8
  match tget none s.foreign c with
  | some x =>
    let starts := !x.started && decide (2048 ≤ x.blocks.length)
    let x := if starts then { x with started := true } else x
    let s := if starts then s.startCarrying c else s
    let o : ForeignOut := if x.started then (List.range 123).foldl (foreignBlock (lfn % 256) (8 * slotsOf rate)) { left := x }
      else { blocks := zeroBlocks rate, left := x }
    let s := { s with foreign := tset none s.foreign c (some o.left) }
    let s := if x.started && lfn % 256 == 255 then
        (if x.jc = 1 then s.bump Reg.justificationsNegative else if x.jc = 2 then s.bump Reg.justificationsPositive else s)
      else s
    let p := o.ptr.getD (0x7F, 0, 0, x.members)
    let jc := bytesBE 1 x.jc
    let oh := bytesBE 1 x.owner ++ bytesBE 1 x.wc ++ bytesBE 1 p.1 ++ jc ++ jc ++ jc ++ bytesBE 8 p.2.1
      ++ bytesBE 1 p.2.2.1 ++ bytesBE 1 p.2.2.2 ++ List.replicate 16 0#8
    (o.blocks, oh, s)
  | none =>
    let r := s.route (c / 8)
    if (carrierIn r.txSubst0 r.txSubst1 (c % 8)).isSome then (zeroBlocks rate, none16, s)
    else match carriedIn r.txSubst0 r.txSubst1 (c % 8) with
      | some i => (s.txBlocks lfn (8 * (c / 8) + i), none16, s)
      | none => (s.txBlocks lfn c, none16, s)

/-- Exclusive OR of the 32-bit words of a payload (R220, R254). -/
def bipOf : List Byte → Nat
  | a :: b :: c :: d :: r => ofBytesBE [a, b, c, d] ^^^ bipOf r
  | _ => 0

/-! ### The overhead (R220, R247, R253, R372) -/

/-- Trace bytes 0 to 63 of channel c (Table 10.9). -/
def State.traceOf (s : State) (c : Nat) : List Byte :=
  let ids := match s.active with
    | some n => bytesBE 1 (hSite (s.hdr n)) ++ bytesBE 2 (hGateway (s.hdr n))
    | none => [0#8, 0#8, 0#8]
  let h := [1#8] ++ ids ++ bytesBE 1 c ++ bytesBE 1 (c / 8) ++ bytesBE 2 s.tags.1 ++ List.replicate 8 0#8
    ++ bytesLE 32 (s.obj Reg.traceText) ++ List.replicate 14 0#8
  h ++ bytesBE 2 (crcOf crc16Hdr h)

/-- Receive-failing defects of channel c, bit d for code d (R252). -/
def State.failingDefects (s : State) (c : Nat) : Nat :=
  let d := (s.chan c).defects
  let take (i : Nat) (b : Bool) : Nat := if b && bit d i then 2 ^ i else 0
  take 0 true + take 1 true + take 2 true + take 3 (s.defects.timAction == 1) + take 4 true + take 6 (s.defects.degAction == 1)

/-- BCAUSE of Table 11.3. -/
def causeCode (m : Nat) : Nat := match lowestBit 7 m with
  | none => 0
  | some 6 => 6
  | some i => i + 1

/-- BACKWARD (Table 11.3). -/
def State.backward (s : State) (c : Nat) : Nat :=
  let x := s.chan c
  (if x.rxFail then 0 else min 63 x.bei) + 2 ^ 27 * causeCode (s.failingDefects c) + 2 ^ 30 * b2n (bit x.defects 6) + 2 ^ 31 * b2n x.rxFail

/-- MEMBERS, SUBST0, SUBST1 and ANNOUNCE as sent in multiframe mf (R236, Table 10.6). -/
def RouteSt.announced (r : RouteSt) (mf : Nat) : Nat × Nat × Nat × Nat :=
  let f := (r.txMembers, r.txSubst0, r.txSubst1)
  match r.ann with
  | some a => match a.start with
    | some st =>
      let g := a.apply f
      (g.1, g.2.1, g.2.2, (if mf = st then 2 else 1) + 4 * a.kind + 16 * (if a.kind = 3 then 0 else a.field))
    | none => (f.1, f.2.1, f.2.2, 0)
  | none => (f.1, f.2.1, f.2.2, 0)

/-- The site that the time unit follows, in LINE mode (R373). -/
def State.followedSite (s : State) : Option Nat :=
  let v := s.obj Reg.timeSourceSites
  if s.obj Reg.timeMode ≠ 2 then none
  else if bit (s.obj Reg.timeStatus) 1 then (if bit v 7 then some (bits v 6 4) else none)
  else if bit v 3 then some (bits v 2 0) else none

/-- The time-transfer message of channel c (Table 16.2). -/
def State.timeMessage (s : State) (c lfn : Nat) : List Byte :=
  let st := (s.chan c).rxStamp.getD (0, 0)
  let src := match s.followedSite with
    | some f => f + 8
    | none => 0
  let m := [1#8] ++ bytesBE 1 (s.obj Reg.timeState + 8 * b2n (s.obj Reg.timeMode == 1)) ++ bytesBE 2 (s.ownSite * 8192 + s.ownGateway)
    ++ bytesBE 8 st.1 ++ bytesBE 8 (toSigned 64 st.2) ++ bytesBE 4 src ++ List.replicate 24 0#8
  m ++ s.timeTag s.ownSite s.ownGateway c lfn m

/-- OH-A bytes 0 to 255 (Table 10.2). -/
def State.ohA (s : State) (c lfn : Nat) (foreignOh : List Byte) : List Byte :=
  let mfas := lfn % 256
  let octet := lfn - mfas % 8
  let page := bytesBE 1 (s.pageFor lfn + 2 * b2n (s.obj Reg.pageSwitchState == pagePending))
  let r := s.route (c / 8)
  let a := r.announced (lfn / 256)
  [0x3C#8, 0x3C#8, 0x3C#8, 0xC3#8, 0xC3#8, 0xC3#8] ++ bytesBE 1 mfas ++ slice (bytesBE 8 octet) (mfas % 8) 1
    ++ page ++ page ++ page ++ bytesBE 1 (c + 32 * s.chRate c + 128 * b2n (tget none s.foreign c).isSome)
    ++ bytesBE 4 (s.chan c).txBip ++ bytesBE 4 (s.backward c) ++ slice (s.traceOf c) (mfas % 64) 1
    ++ bytesBE 1 a.2.1 ++ bytesBE 1 a.2.2.2 ++ bytesBE 1 a.1 ++ [0#8] ++ bytesBE 1 r.myReq ++ bytesBE 1 a.2.2.1
    ++ List.replicate 5 0#8 ++ s.timeMessage c lfn ++ foreignOh ++ List.replicate 128 0#8

/-- Up to 15 messages for channel c's route and far site are taken (R283). -/
def State.takeMessages (s : State) (c : Nat) : List (List Byte) × State :=
  let n := c / 8
  if (s.arqChannels n (s.arqSite c)).contains c then
    let mine (m : List Byte × Nat × List Nat) : Bool := m.2.2.contains n && s.linkSite m.2.1 == s.arqSite c
    let pick := (s.framer.msgs.filter mine).take 15
    let ms := s.framer.msgs.foldl (fun (a : List (List Byte × Nat × List Nat) × Nat) m =>
      if mine m && decide (0 < a.2) then (a.1 ++ [(m.1, m.2.1, m.2.2.filter (· != n))], a.2 - 1) else (a.1 ++ [m], a.2)) ([], 15)
    (pick.map (fun m => m.1), { s with framer := { s.framer with msgs := ms.1.filter (fun m => !m.2.2.isEmpty) } })
  else ([], s)

/-- OH-B bytes 0 to 255: message slots and tag; a tag of zeros while the pair has no transmit epoch. -/
def State.ohB (s : State) (c lfn : Nat) (msgs : List (List Byte)) : List Byte :=
  let body := msgs.flatMap id ++ List.replicate (240 - 16 * msgs.length) 0#8
  let r := s.route (c / 8)
  body ++ (s.arqTag (s.lightSite c r.txSubst0 r.txSubst1) c lfn body).getD (List.replicate 16 0#8)

/-- The payload blocks of a diverted channel go onto the ring; the skipped block does not (R243, R360). -/
def State.divertBlocks (s : State) (c lfn : Nat) (blocks : List (List Byte)) : State :=
  match s.ownDiversion c with
  | none => s
  | some d =>
    if d.ending then s else
    let bs := ((List.range 123).zip blocks).filter (fun q => !(lfn % 256 == 255 && q.1 == 122))
    let mem := (s.route (c / 8)).txMembers
    let buf := d.buf ++ bs.map (fun q => ((lfn, q.1, s.pageFor lfn, mem, q.2) : RingBlock))
    let (s, rest) := State.sendBlocks d.port s.ringPos c (s.chRate c) (buf.length + 1) s buf
    let ds := s.ringSt.divs.map (fun e => if e.owner && e.wc == c then { e with buf := rest } else e)
    { s with ringSt := { s.ringSt with divs := ds } }

/-- The 125 blocks of a line frame: OH-A first, OH-B as block 63, the payload blocks between and behind them (R219). -/
def serialFrame (size : Nat) (ohA ohB payload : List Byte) : List Byte :=
  ohA ++ payload.take (62 * size) ++ ohB ++ payload.drop (62 * size)

/-- No light leaves the channel. -/
def State.dark (s : State) (c : Nat) : Bool := s.chState c == chDark || bit (s.obj (Reg.channelState c)) 6

/-- Runs of LFNs as far as they hold the last `left` frames. -/
def keepRuns : List (Nat × Nat) → Nat → List (Nat × Nat)
  | [], _ => []
  | (a, b) :: r, left => if left = 0 then [] else (a, b) :: keepRuns r (left - (b + 1 - a))

/-- A frame joins the runs of LFNs sent. -/
def noteSent (runs : List (Nat × Nat)) (lfn : Nat) : List (Nat × Nat) := match runs with
  | (a, b) :: r => if lfn = b + 1 then (a, lfn) :: r else keepRuns ((lfn, lfn) :: (a, b) :: r) 4096
  | [] => [(lfn, lfn)]

/-- One of the last `left` frames of the runs has this LFN (R372). -/
def sentIn : List (Nat × Nat) → Nat → Nat → Bool
  | [], _, _ => false
  | (a, b) :: r, left, lfn =>
    let lo := max a (b + 1 - left)
    (decide (lo ≤ lfn) && decide (lfn ≤ b)) || sentIn r (left - (b + 1 - a)) lfn

/-- One channel sends the frame of this LFN (R218), once. DEDUCED, log entry 61. -/
def State.frameTx (s : State) (c : Nat) : State :=
  let lfn := s.lfn
  if (s.chan c).txLfn = some lfn then s
  else
    let s := s.beginFrame lfn
    let s := s.setChan c { s.chan c with txLfn := some lfn }
    if s.diverted c && s.dark c then s.divertBlocks c lfn (s.txBlocks lfn c)
    else if s.dark c then s
    else
      let s := s.pilotTx c lfn
      let (blocks, foreignOh, s) := s.txPayload lfn c
      let s := if s.diverted c then s.divertBlocks c lfn (s.txBlocks lfn c) else s
      let (msgs, s) := s.takeMessages c
      let size := 8 * slotsOf (s.chRate c)
      let pad := List.replicate (size - 256) 0#8
      let payload := blocks.flatMap id
      let s := s.emit (.line c lfn (serialFrame size (s.ohA c lfn foreignOh ++ pad) (s.ohB c lfn msgs ++ pad) payload))
      s.setChan c { s.chan c with txBip := bipOf payload, bei := 0, sent := noteSent (s.chan c).sent lfn }

def execLineFrameTx (t : Nat) (c : Fin 32) (mismatch : List (Fin 10)) (s0 : State) : Result :=
  let s := s0.tick t
  let (_, s) := s.mismatches 4 (mismatch.map Fin.val)
  .next (s.frameTx c.val)

end Sys2Proof.Machine
end

