-- ==== Sys2Proof/Machine/FrameRx.lean ====
section
/-! DEFINITION. Receiving line frames: alignment, overhead, skew, and the groups rebuilt (10_line_framing.md,
R222-R227, R230, R231, R236, R241-R248; R254, R283, R307, R372). -/
namespace Sys2Proof.Machine

/-- A byte of an overhead block, and a field in network order. -/
def ohField (oh : List Byte) (i n : Nat) : Nat := ofBytesBE (slice oh i n)

/-- A line frame by its blocks: OH-A, OH-B, the payload blocks in order (R219). -/
structure FrameParts where
  ohA : List Byte
  ohB : List Byte
  payload : List Byte
  frac : BitVec 16

/-- The blocks of a received frame of a channel whose blocks have `size` bytes: OH-B is block 63. -/
def frameParts (f : LineFrame) (size : Nat) : FrameParts :=
  { ohA := slice f.bytes 0 size, ohB := slice f.bytes (63 * size) size,
    payload := slice f.bytes size (62 * size) ++ slice f.bytes (64 * size) (61 * size), frac := f.frac }

/-! ### Alignment (R222) -/

/-- A channel that goes out of frame starts its alignment afresh. -/
def ChannelSt.outOfFrame (x : ChannelSt) : ChannelSt :=
  { x with inFrame := false, fasGood := 0, mfAligned := false, mfBad := 0, lastMfas := none, lfnValid := false,
           octet := [], lastOctet := none, octetBad := 0, trace := [], traceRuns := 0, bip := none }

/-- FAS: `missed` frames did not come, this one's FAS is right or not. -/
def ChannelSt.fas (x : ChannelSt) (missed : Nat) (ok : Bool) : ChannelSt :=
  let bad := if ok then x.fasBad + missed else x.fasBad + missed + 1
  let x := if 5 ≤ bad then x.outOfFrame else x
  if ok then
    let good := (if missed = 0 then x.fasGood else 0) + 1
    { x with fasBad := 0, fasGood := good, inFrame := x.inFrame || decide (2 ≤ good) }
  else { x with fasBad := bad, fasGood := 0 }

/-- MFAS of this frame, `k` frame periods after the last. -/
def ChannelSt.mfas (x : ChannelSt) (k m : Nat) : ChannelSt :=
  match x.mfAligned, x.lastMfas with
  | true, some p =>
    let e := (p + k) % 256
    if m = e then { x with lastMfas := some e, mfBad := 0, rxLfn := x.rxLfn + k }
    else if 5 ≤ x.mfBad + k then
      { x with mfAligned := false, mfBad := 0, lastMfas := some m, lfnValid := false, octet := [], lastOctet := none, octetBad := 0 }
    else { x with lastMfas := some e, mfBad := x.mfBad + k, rxLfn := x.rxLfn + k }
  | _, some p =>
    if k = 1 ∧ m = (p + 1) % 256 then { x with mfAligned := true, mfBad := 0, lastMfas := some m } else { x with lastMfas := some m }
  | _, none => { x with lastMfas := some m }

/-- A whole octet has given the LFN v; `first` is its first MFAS. -/
def ChannelSt.octetDone (x : ChannelSt) (v first : Nat) : ChannelSt :=
  let ok := decide (v % 256 = first)
  let runs := ok && decide (8 ≤ v) && x.lastOctet == some (v - 8)
  let last := if ok then some v else none
  if !x.lfnValid then
    if runs then { x with lfnValid := true, rxLfn := v + 7, octetBad := 0, lastOctet := last } else { x with lastOctet := last }
  else if v + 7 = x.rxLfn then { x with octetBad := 0, lastOctet := last }
  else if x.octetBad = 0 then { x with octetBad := 1, lastOctet := last }
  else if runs then { x with rxLfn := v + 7, octetBad := 0, lastOctet := last }
  else { x with lfnValid := false, octetBad := 0, lastOctet := last }

/-- LFN_BYTE of this frame. -/
def ChannelSt.lfnByte (x : ChannelSt) (k : Nat) (b : Nat) : ChannelSt :=
  if !x.mfAligned then x
  else
    let cur := x.lastMfas.getD 0
    let i := cur % 8
    let x := if 1 < k then { x with octet := [] } else x
    if i = 0 then { x with octet := [b], lastOctet := if x.octet.length = 8 then x.lastOctet else none }
    else if x.octet.length ≠ i then { x with octet := [] }
    else
      let o := x.octet ++ [b]
      let x := { x with octet := o }
      if i = 7 then x.octetDone (o.foldl (fun a y => 256 * a + y) 0) (cur - 7) else x

/-- TRACE of this frame (R247): the bytes of the cycle so far. A cycle that is not complete ends the run of equal traces. -/
def ChannelSt.traceByte (x : ChannelSt) (k : Nat) (b : Byte) : ChannelSt :=
  let i := (x.lastMfas.getD 0) % 64
  if !x.mfAligned then { x with trace := [], traceRuns := 0 }
  else if i = 0 then
    if 1 < k ∨ !x.trace.isEmpty then { x with trace := [b], traceRuns := 0 } else { x with trace := [b] }
  else if 1 < k ∨ x.trace.length ≠ i then { x with trace := [], traceRuns := 0 }
  else { x with trace := x.trace ++ [b] }

/-- A whole trace has come (R248). -/
def State.traceRx (s : State) (c : Nat) : State :=
  let x := s.chan c
  if x.trace.length ≠ 64 then s
  else
    let tr := x.trace
    let ok := crcOf crc16Hdr (tr.take 62) == ofBytesBE (tr.drop 62)
    let runs := if !ok then 0 else if x.traceRuns ≠ 0 ∧ x.lastTrace = tr then x.traceRuns + 1 else 1
    let s := s.setChan c { x with trace := [], lastTrace := tr, traceRuns := runs }
    if runs < 3 then s
    else
      let s := s.setObj (Reg.acceptedTrace c) (ofBytesLE tr)
      let exp := bytesLE 64 (s.obj (Reg.expectedTrace c))
      let mask := s.obj (Reg.traceMask c)
      let bad := (List.range 64).any (fun k => bit mask k && tr[k]? != exp[k]?)
      s.setChan c { s.chan c with traceAccepted := true, traceMismatch := bad }

/-! ### Route-level fields (R236, R238, R242) -/

/-- Receive values take effect from an LFN on; `align`: it is an alignment point although the member set stays (R227). -/
def RouteSt.adopt (r : RouteSt) (from_ : Nat) (f : Nat × Nat × Nat) (align : Bool := false) : RouteSt :=
  let old := if from_ = r.rxFrom then (r.rxOldMembers, r.rxOldSubst0, r.rxOldSubst1) else (r.rxMembers, r.rxSubst0, r.rxSubst1)
  { r with rxOldMembers := old.1, rxOldSubst0 := old.2.1, rxOldSubst1 := old.2.2, rxFrom := from_,
           rxMembers := f.1, rxSubst0 := f.2.1, rxSubst1 := f.2.2,
           alignRx := if f.1 = r.rxMembers ∧ !align then r.alignRx else (from_ :: r.alignRx).take 4 }

/-- The receive values (members, SUBST0, SUBST1) for a frame. -/
def RouteSt.rxAt (r : RouteSt) (lfn : Nat) : Nat × Nat × Nat :=
  let f := if r.rxFrom ≤ lfn then (r.rxMembers, r.rxSubst0, r.rxSubst1) else (r.rxOldMembers, r.rxOldSubst0, r.rxOldSubst1)
  let f := match r.rxAnn with
    | some a => if 256 * (a.start.getD 0 + 2) ≤ lfn then a.apply f else f
    | none => f
  match r.rxAdopt with
  | some (l, g) => if l ≤ lfn then g else f
  | none => f

/-- Alignment points of a route's receive groups, known ones included. -/
def RouteSt.rxAligns (r : RouteSt) : List Nat :=
  r.alignRx ++ (match r.rxAnn with
    | some a => if a.kind = 3 then [256 * (a.start.getD 0 + 2)] else []
    | none => []) ++ (match r.rxAdopt with
    | some (l, g) => if g.1 = r.rxMembers then [] else [l]
    | none => [])

/-- What is due at the start of a multiframe takes effect. -/
def RouteSt.rxDue (r : RouteSt) (mf : Nat) : RouteSt :=
  let r := match r.rxAnn with
    | some a =>
      let st := a.start.getD 0
      if st + 2 ≤ mf then
        { r.adopt (256 * (st + 2)) (a.apply (r.rxMembers, r.rxSubst0, r.rxSubst1)) (decide (a.kind = 3)) with rxAnn := none } else r
    | none => r
  match r.rxAdopt with
  | some (l, g) => if l ≤ 256 * mf then { r.adopt l g with rxAdopt := none } else r
  | none => r

/-- The receive values at the switch frame (R238): those that the frame gives, and for the field that an announcement is
changing, which the frame does not give, the one that follows from the new page (DEDUCED, log entry 58). -/
def State.fieldsAtSwitch (s : State) (r : RouteSt) (n mf an : Nat) (f : Nat × Nat × Nat) : RouteSt :=
  let d := s.fieldsAt true n (s.pageFor (256 * mf)) (r.rxMembers, r.rxSubst0, r.rxSubst1)
  let g := if bits an 1 0 = 0 then f
    else if bits an 3 2 = 3 then (d.1, f.2.1, f.2.2)
    else if bit an 4 then (f.1, f.2.1, d.2.2) else (f.1, d.2.1, f.2.2)
  if g = (r.rxMembers, r.rxSubst0, r.rxSubst1) then r else { r.adopt (256 * mf) g with rxAdopt := none }

/-- The fields of one multiframe as read from a frame: the route's receive side follows (R236, R238). The second multiframe
of an announcement gives the value again, without the channels that leave at a switch frame. -/
def State.routeFields (s : State) (n mf : Nat) (oh : List Byte) : State :=
  let r := (s.route n).rxDue mf
  let f := (ohField oh 23 1, ohField oh 21 1, ohField oh 26 1)
  let r := if s.obj Reg.pageSwitchState ≠ pageIdle ∧ s.obj Reg.pageSwitchFrame = 256 * mf then s.fieldsAtSwitch r n mf (ohField oh 22 1) f else r
  let an := ohField oh 22 1
  let kind := bits an 3 2
  let fld := bits an 4 4
  let a : Ann := { kind := kind, field := fld, value := if kind = 3 then f.1 else if fld = 0 then f.2.1 else f.2.2 }
  match bits an 1 0 with
  | 2 => s.setRoute n { r with rxAnn := some { a with start := some mf } }
  | 1 => s.setRoute n { r with rxAnn := some { a with start := some (mf - 1) } }
  | _ =>
    let now := (r.rxMembers, r.rxSubst0, r.rxSubst1)
    if r.rxAnn.isSome || r.rxAdopt.isSome || now == f then s.setRoute n r
    else
      let d := b2n (now.1 != f.1) + b2n (now.2.1 != f.2.1) + b2n (now.2.2 != f.2.2)
      (s.setRoute n { r with rxAdopt := some (256 * (mf + 1), f) }).bumpBy Reg.announceMissed d

/-- RX_REQUEST of one multiframe: bits equal in two consecutive multiframes are acted on (R242). -/
def State.requestRx (s : State) (n mf req : Nat) : State :=
  let r := s.route n
  let follows := decide (0 < mf) && r.rxMf == some (mf - 1)
  let v := (List.range 8).foldl (fun a i => if follows && bit req i == bit r.rxReqLast i then setBit a i (bit req i) else a) r.rxReq
  let s := s.setRoute n { r with rxReqLast := req, rxReq := v, rxMf := some mf }
  (List.range 8).foldl (fun u i => u.noteClear (8 * n + i)) s

/-- Route-level fields come from the lowest-numbered in-frame channel of the route, once a multiframe. DEDUCED, log entry
58. -/
def State.routeRx (s : State) (c lfn : Nat) (oh : List Byte) : State :=
  let n := c / 8
  let lowest := ((List.range 8).map (fun i => 8 * n + i)).find? (fun d => (s.chan d).inFrame)
  if lowest ≠ some c ∨ (s.route n).rxMf = some (lfn / 256) then s
  else ((s.routeFields n (lfn / 256) oh).requestRx n (lfn / 256) (ohField oh 25 1)).routeSubstituted n

/-! ### ARQ messages (R283, R307) -/

/-- One message slot. A copy of a message that another route has brought is ignored. DEDUCED, log entry 59. -/
def State.messageRx (s : State) (f n : Nat) (m : List Byte) : State :=
  let ty := ohField m 0 1
  if ty = 0 then s
  else if 8 ≤ ty then s.bump Reg.arqMsgUnknown
  else
    let fresh := s.framer.acted.filter (fun a => decide (s.now < a.2.2.2 + 2621440))
    match fresh.find? (fun a => a.1 == m && a.2.1 == f) with
    | some a =>
      if bit a.2.2.1 n then
        let s := { s with framer := { s.framer with acted := (m, f, 2 ^ n, s.now) :: fresh.filter (fun b => b != a) } }
        s.onMessage f m
      else { s with framer := { s.framer with acted := fresh.map (fun b => if b = a then (m, f, setBit a.2.2.1 n true, a.2.2.2) else b) } }
    | none =>
      let s := { s with framer := { s.framer with acted := (m, f, 2 ^ n, s.now) :: fresh } }
      s.onMessage f m

/-- The gateways at site f whose OH-B channel c may bring: the FAR_GATEWAY of the links over its route (R300, R307). -/
def State.farGateways (s : State) (c f : Nat) : List Nat :=
  (s.links.filter (fun p => p.2.inUse && lFarSite p.2.entry == f && (linkRoutes p.2.entry).contains (c / 8))).map
    (fun p => lFarGateway p.2.entry)

/-- OH-B of a frame (R283). On a channel without a link there is no gateway to check the tag against, and no message for a
link (DEDUCED, log entry 59). -/
def State.ohBRx (s : State) (c lfn : Nat) (oh : List Byte) : State :=
  let r := (s.route (c / 8)).rxAt lfn
  let f := s.lightSite c r.2.1 r.2.2
  let gs := s.farGateways c f
  if gs.isEmpty then s
  else if gs.any (fun g => s.arqTagOk f g c lfn (oh.take 240) (slice oh 240 16)) then
    (chunks 16 15 (oh.take 240)).foldl (fun u m => u.messageRx f (c / 8) m) (s.evidence f)
  else s.bump (Reg.ohbTagFailures f)

/-! ### Time transfer (R371, R372) -/

/-- m of a frame whose time event is now [2⁻¹⁶ ns] (R371). -/
def State.stampOf (s : State) (c lfn : Nat) (frac : Nat) : Int :=
  s.tm.psAt s.now * 65536 / 1000 + frac - ((Config.rxPathPs c).toNat : Int) * 65536 / 1000 - 640 * 65536 * (lfn : Int)

/-- The time-transfer message of a frame is used when R372 allows it. DEDUCED, log entry 50. -/
def State.timeRx (s : State) (c lfn : Nat) (m : Int) (oh : List Byte) : State :=
  let msg := slice oh 32 48
  let w := ohField oh 34 2
  let rxLfn := ohField oh 36 8
  let ok := s.timeTagOk (bits w 15 13) (bits w 9 0) c lfn msg (slice oh 80 16)
  let s := if !ok && s.cipher.sak.isSome then s.bump Reg.ttAuthFailures else s
  if ok && s.active.isSome && bits w 15 13 == s.chanSite c && sentIn (s.chan c).sent 4096 rxLfn then
    let out := ofSigned 64 (ohField oh 44 8)
    let x := s.chan c
    s.setChan c { x with ttDiff := x.ttDiff + (m - out), ttSum := x.ttSum + (m + out), ttCount := x.ttCount + 1 }
  else s

/-! ### Skew (R241) -/

/-- Channels of route n toward site f in a page. -/
def State.bundleIn (s : State) (n f page : Nat) : List Nat :=
  ((List.range 8).map (fun i => 8 * n + i)).filter (fun c => s.entrySite true page c == some f)

/-- The channel whose light brings channel c's positions. -/
def physical (fields : Nat × Nat × Nat) (c : Nat) : Nat := match carrierIn fields.2.1 fields.2.2 (c % 8) with
  | some u => 8 * (c / 8) + u
  | none => c

/-- The channel's frames come over the ring: the last whole one has come within five frame periods, the time that takes a
channel out of frame (R222, R246; DESIGN CHOICE, log entry 152). -/
def State.ringFed (s : State) (c : Nat) : Bool :=
  let a := tget 0 s.ringSt.rxAt c
  (tget none s.ringSt.rxPort c).isSome && decide (0 < a) && decide (s.now < a + 3520)

/-- Channels whose arrival counts in the bundle now: the members, and the understudies that carry one; those in frame with
an accepted LFN, and those that the ring brings (R241, R246). -/
def State.skewChannels (s : State) (n f lfn : Nat) : List (Nat × Int) :=
  let fields := (s.route n).rxAt lfn
  let cs := (s.bundleIn n f (s.pageFor lfn)).filter (fun c => bit fields.1 (c % 8))
  let us := (cs.map (physical fields)).filter (fun u => !cs.contains u)
  (cs ++ us).filterMap (fun c =>
    let x := s.chan c
    if (x.inFrame && x.lfnValid) || s.ringFed c then x.rxStamp.map (fun m => (c, m.2)) else none)

/-- The subset of a bundle kept: the largest with a spread of 64 µs or less, a tie for the one with the lowest
channel. -/
def keptSubset (cs : List (Nat × Int)) : List Nat :=
  let subset (a : Nat × Int) : List Nat := (cs.filter (fun b => decide (a.2 ≤ b.2) && decide (b.2 ≤ a.2 + 64000 * 65536))).map Prod.fst
  let low (l : List Nat) : Nat := l.foldl min 32
  cs.foldl (fun best a =>
    let x := subset a
    if best.length < x.length ∨ (best.length = x.length ∧ low x < low best) then x else best) []

/-- Skew of the bundle of route n toward site f is measured again. A channel that is no member keeps its mark until it is
measured again (DESIGN CHOICE, log entry 133). -/
def State.measureSkew (s : State) (n f lfn : Nat) : State :=
  let cs := s.skewChannels n f lfn
  let keep := keptSubset cs
  let first := match cs with
    | [] => 0
    | a :: r => r.foldl (fun m b => if b.2 < m then b.2 else m) a.2
  cs.foldl (fun u q =>
    (u.setChan q.1 { u.chan q.1 with excessSkew := !keep.contains q.1 }).setObj (Reg.channelSkewNs q.1) ((q.2 - first) / 65536).toNat) s

/-! ### Deskew and the groups (R225, R226, R241) -/

/-- The channel's receive direction delivers payload as far as its own state goes: it is in service, no receive-failing
defect stands, and no pilot mismatch (R252, R322, R323). -/
def State.delivers (s : State) (c : Nat) : Bool := s.inService c && !s.pilotMismatch c && !(s.chan c).rxFail

/-- The channel's payload can be waited for. -/
def State.usable (s : State) (c : Nat) : Bool :=
  let x := s.chan c
  !x.excessSkew && (s.ringFed c || (x.inFrame && x.mfAligned && x.lfnValid && s.delivers c))

/-- The far end diverts the channel, so its frames skip a block (R243). -/
def State.rxDiverted (s : State) (c : Nat) : Bool := bit s.ringSt.rxDiv c

/-- The far end's diversion of a channel is noted. -/
def State.noteRxDiv (s : State) (c : Nat) (b : Bool) : State :=
  { s with ringSt := { s.ringSt with rxDiv := setBit s.ringSt.rxDiv c b } }

/-- A slot of a group has come with words missing: it counts as one whose header check fails, unless what has
come of it is all zero (DEDUCED, log entry 55). -/
def State.slotDamaged (s : State) (g : Nat) (b : List Byte) : State :=
  if b.all (fun x => x == 0#8) then s
  else match s.linkOfGroup g with
    | none => s
    | some (l, i) => if (s.link l).rxEnded then s else (s.bump (Reg.delineationErrors l)).eraseNext l i

/-- Words of a group join the slot in progress; a full slot is handled. -/
def State.groupWords (g : Nat) : List (Option (List Byte)) → State → GroupPos → State × GroupPos
  | [], s, x => (s, x)
  | w :: r, s, x =>
    let rest := x.rest ++ w.getD (List.replicate 8 0#8)
    let bad := x.bad || w.isNone
    if 4160 ≤ rest.length then
      let s := if bad then s.slotDamaged g rest else s.slotRx g rest
      State.groupWords g r s { x with pos := x.pos + 8, rest := [], bad := false }
    else State.groupWords g r s { x with pos := x.pos + 8, rest := rest, bad := bad }

/-- The payload of channel p for frame lfn, if it is held. -/
def State.heldPayload (s : State) (p lfn : Nat) : Option (List Byte) :=
  ((s.chan p).held.find? (fun h => h.lfn == lfn)).map (fun h => h.payload)

/-- Group g's words of frame lfn, in order; none for a word that has not come. -/
def State.rxWords (s : State) (lfn page g : Nat) (fields : Nat × Nat × Nat) : List (Option (List Byte)) :=
  let slots := s.groupSlots true page g fields.1
  (List.range 123).flatMap (fun p =>
    let skip := decide (p = 122) && decide (lfn % 256 = 255)
    (slots.filter (fun q => !(skip && s.rxDiverted q.1))).map (fun q =>
      (s.heldPayload (physical fields q.1) lfn).map (fun b => slice b (8 * slotsOf (s.chRate q.1) * p + 8 * q.2) 8)))

/-- Frame lfn of group g is read (R225, R226). A group that has no positions since an alignment point ends there. -/
def State.groupFrame (s : State) (lfn page g : Nat) : State :=
  let e := s.lgEntry true page g
  let n := gRoute e
  let r := s.route n
  let fields := r.rxAt lfn
  let slots := if gEnable e then s.groupSlots true page g fields.1 else []
  let al := alignAt (s.switchPoints ++ r.rxAligns) lfn
  if slots.isEmpty then
    match tget none s.framer.rxPos g with
    | some x => if x.align = al then s
      else State.cutSlot { s with framer := { s.framer with rxPos := tset none s.framer.rxPos g none } } x
    | none => s
  else
    let k := slots.length
    let d := (slots.filter (fun q => s.rxDiverted q.1)).length
    let off := groupSpan k d al lfn
    let fresh (rest : List Byte) : GroupPos :=
      { align := al, pos := off, rest := rest, bad := decide (off % 4160 ≠ 0), home := (n, gFarSite e) }
    let (s, x) := match tget none s.framer.rxPos g with
      | none => (s, fresh (List.replicate (off % 4160) 0#8))
      | some x =>
        if x.align ≠ al then (s.cutSlot x, fresh (List.replicate (off % 4160) 0#8))
        else if x.pos = off then (s, x)
        else if x.pos ≤ off ∧ x.pos / 4160 = off / 4160 then (s, { x with pos := off, rest := x.rest ++ List.replicate (off - x.pos) 0#8, bad := true })
        else
          let s := if x.rest.isEmpty then s else s.slotDamaged g x.rest
          (s, fresh (List.replicate (off % 4160) 0#8))
    let (s, x) := State.groupWords g (s.rxWords lfn page g fields) s x
    { s with framer := { s.framer with rxPos := tset none s.framer.rxPos g (some x) } }

/-- Channels that bring positions of the bundle of route n toward site f in frame lfn. -/
def State.sources (s : State) (n f lfn : Nat) : List Nat :=
  let fields := (s.route n).rxAt lfn
  ((s.bundleIn n f (s.pageFor lfn)).filter (fun c => bit fields.1 (c % 8))).map (physical fields)

/-- Frame lfn has come on every channel of the bundle that can still bring it. -/
def State.frameReady (s : State) (n f lfn : Nat) : Bool :=
  (s.sources n f lfn).all (fun p => (s.heldPayload p lfn).isSome || !s.usable p || decide (lfn ≤ (s.chan p).rxLfn))

/-- Frames held on the channels of route n that belong to the bundle toward site f, lowest LFN. -/
def State.firstHeld (s : State) (n f : Nat) : Option Nat :=
  let ls := ((List.range 8).map (fun i => 8 * n + i)).flatMap (fun p =>
    ((s.chan p).held.filter (fun h => (s.sources n f h.lfn).contains p)).map (fun h => h.lfn))
  match ls with
  | [] => none
  | a :: r => some (r.foldl min a)

/-- Groups of a bundle are rebuilt as far as frames have come (R241). -/
def State.deskew (n f : Nat) : Nat → State → State
  | 0, s => s
  | fuel + 1, s =>
    match s.firstHeld n f with
    | none => s
    | some lfn =>
      if !s.frameReady n f lfn then s
      else
        let page := s.pageFor lfn
        let ps := s.sources n f lfn
        let gs := (List.range 64).filter (fun g =>
          let e := s.lgEntry true page g
          if gEnable e then gRoute e == n && gFarSite e == f
          else ((tget none s.framer.rxPos g).map (fun x => x.home)) == some (n, f))
        let s := gs.foldl (fun u g => u.groupFrame lfn page g) s
        let s := ps.foldl (fun u p => u.setChan p { u.chan p with held := (u.chan p).held.filter (fun h => decide (lfn < h.lfn)) }) s
        let s := { s with framer := { s.framer with rxDone := tset none s.framer.rxDone (8 * n + f) (some lfn) } }
        State.deskew n f fuel s

/-- Groups of route n whose bundle an alignment point has left without channels, once no earlier frame can be accepted
(R223): the part of a slot they hold is cut there (R226). -/
def State.cutUnsourced (s : State) (n : Nat) : State :=
  let lfn := s.lfn - 4096
  let al := alignAt (s.switchPoints ++ (s.route n).rxAligns) lfn
  s.endGroups (fun _ x => decide (x.home.1 = n) && decide (x.align < al) && (s.sources n x.home.2 lfn).isEmpty
    && (s.firstHeld n x.home.2).isNone)

/-- Every bundle of a route. -/
def State.deskewRoute (s : State) (n : Nat) : State :=
  ((List.range 8).foldl (fun u f =>
    State.deskew n f (((List.range 8).map (fun i => (u.chan (8 * n + i)).held.length)).foldl (· + ·) 0) u) s).cutUnsourced n

/-- The groups of the bundle of route n toward site f have been rebuilt from frame lfn or a later one. -/
def State.framePassed (s : State) (n f lfn : Nat) : Bool := match tget none s.framer.rxDone (8 * n + f) with
  | some d => decide (lfn ≤ d) && decide (d ≤ s.lfn + 16)
  | none => false

/-- A frame's payload that passed its checks is held for its bundle; one that belongs to none, or comes when its bundle has
gone on without it, is dropped (R241; DEDUCED, log entry 151). -/
def State.holdFrame (s : State) (c lfn : Nat) (payload : List Byte) : State :=
  let n := c / 8
  if (List.range 8).any (fun f => (s.sources n f lfn).contains c && !s.framePassed n f lfn) then
    let x := s.chan c
    (s.setChan c { x with held := x.held ++ [{ lfn := lfn, payload := payload }] }).deskewRoute n
  else s.deskewRoute n

/-! ### Foreign channels (R244-R246, Table 15.9) -/

/-- The majority of three copies, bit by bit. -/
def majority (a b c : Nat) : Nat := (a &&& b) ||| (a &&& c) ||| (b &&& c)

/-- The place of the block after block q of frame l. -/
def nextBlock (x : Nat × Nat × Nat × Nat) : Nat × Nat × Nat × Nat :=
  let q := x.2.1 + 1
  if q = 123 ∨ (q = 122 ∧ x.1 % 256 = 255) then (x.1 + 1, 0, x.2.2.1, x.2.2.2) else (x.1, q, x.2.2.1, x.2.2.2)

/-- One payload block of a foreign frame goes into the buffer. -/
def ForeignRx.block (mfas jc : Nat) (ptr : Option (Nat × Nat × Nat × Nat × Nat)) (x : ForeignRx) (b : Nat × List Byte) : ForeignRx :=
  if isStuff mfas jc b.1 then x
  else
    let next := match ptr with
      | some (p, l, pg, m, _) => if p = b.1 then some (l, 0, pg, m) else x.next
      | none => x.next
    match next with
    | none => x
    | some q => { x with next := some (nextBlock q), buf := x.buf ++ [((q.1, q.2.1, q.2.2.1, q.2.2.2, b.2) : RingBlock)] }

/-- A frame with CHANNEL_ID[7] = 1 has come on channel c: its overhead is read, and its blocks, unless its payload is
discarded, go to their owner (R231, R246). After a frame that did not come, or was discarded, where blocks belong is known
again with the next pointer. The frames of one multiframe alone vote. A value of 0b11, which Table 10.7 does not use, is no
majority of five: NOMINAL is used, and JC_ERRORS counts (R245; DESIGN CHOICE, log entry 153). -/
def State.foreignIn (s : State) (c lfn : Nat) (oh payload : List Byte) (keep : Bool) : State :=
  let mfas := lfn % 256
  let owner := bits (ohField oh 96 1) 1 0
  let wc := bits (ohField oh 97 1) 4 0
  let rate := s.chRate c
  let (x, s) := match tget none s.ringSt.foreignRx c with
    | some x => if x.owner = owner ∧ x.wc = wc then (x, s) else ({ owner := owner, wc := wc, rate := rate }, s)
    | none =>
      let s := match s.ringPortTo owner with
        | some p => if s.ringUp p then s.queueRing p (s.ringControl 5 owner wc rate 0 (s.chanSite c) (ohField oh 111 1)) else s
        | none => s
      ({ owner := owner, wc := wc, rate := rate }, s)
  let vote := bits (majority (ohField oh 99 1) (ohField oh 100 1) (ohField oh 101 1)) 1 0
  let going := x.last.any (fun l => decide (l / 256 = lfn / 256) && decide (248 ≤ l % 256))
  let votes := if mfas < 248 then [] else (if going then x.votes else []) ++ [vote]
  let win := [0, 1, 2].find? (fun v => decide (5 ≤ votes.count v))
  let jc := win.getD 0
  let s := if mfas ≠ 255 then s
    else match win with
      | none => s.bump Reg.jcErrors
      | some 1 => s.bump Reg.justificationsNegative
      | some 2 => s.bump Reg.justificationsPositive
      | some _ => s
  let p := bits (ohField oh 98 1) 6 0
  let ptr := if p = 0x7F then none else some (p, ohField oh 102 8, bits (ohField oh 110 1) 0 0, ohField oh 111 1, 0)
  let blocks := (List.range 123).zip (chunks (8 * slotsOf rate) 123 payload)
  let x := { x with votes := votes, last := some lfn, next := if x.last = some (lfn - 1) then x.next else none }
  let x := if keep then blocks.foldl (ForeignRx.block mfas jc ptr) x else { x with next := none }
  let (s, x) := match s.ringPortTo owner with
    | some q =>
      if s.ringUp q then
        let (s, rest) := State.sendBlocks q owner wc rate (x.buf.length + 1) s x.buf
        (s, { x with buf := rest })
      else (s, { x with buf := [] })
    | none => (s, { x with buf := [] })
  { s with ringSt := { s.ringSt with foreignRx := tset none s.ringSt.foreignRx c (some x) } }

/-! ### The frame (R222, R223, R231, R254) -/

/-- Adding to a per-second counter, which holds at its largest value (R265). -/
def ChannelSt.count (x : ChannelSt) (i n : Nat) : ChannelSt := { x with second := tset 0 x.second i (tget 0 x.second i + n) }

/-- BACKWARD of a received frame (R253). A frame that does not come, or a time out of frame, breaks no run of frames with the
BDI bit (R250; DESIGN CHOICE, log entry 154). -/
def ChannelSt.backwardRx (x : ChannelSt) (w : Nat) : ChannelSt :=
  let b := bits w 5 0
  let bdi := bit w 31
  let x := { x with backward := w, bdiRun := if bdi then x.bdiRun + 1 else 0, bdiClear := if bdi then 0 else x.bdiClear + 1 }
  if b = 0 then x else (x.count 3 b).count 4 1

/-- BIP32 of frame lfn against what was computed over the frame before (R254): the errors, and the channel. -/
def ChannelSt.bipRx (x : ChannelSt) (lfn field : Nat) (payload : List Byte) : Nat × ChannelSt :=
  let errs := match x.bip with
    | some (l, v) => if l + 1 = lfn then popCount 32 (v ^^^ field) else 0
    | none => 0
  let x := { x with bip := some (lfn, bipOf payload), bei := x.bei + errs }
  (errs, if errs = 0 then x else (x.count 1 errs).count 2 1)

/-- The payload of an aligned frame, discarded when the page is another or the channel delivers none (R231, R322, R323). -/
def State.payloadRx (s : State) (c lfn : Nat) (f : FrameParts) : State :=
  let page := bits (majority (ohField f.ohA 8 1) (ohField f.ohA 9 1) (ohField f.ohA 10 1)) 0 0
  let other := decide (page ≠ s.pageFor lfn)
  let s := if other then s.bump Reg.pageMismatchFrames else s
  let keep := !other && s.delivers c
  if bit (ohField f.ohA 11 1) 7 then s.foreignIn c lfn f.ohA f.payload keep
  else if keep then s.holdFrame c lfn f.payload
  else s.deskewRoute (c / 8)

/-- An aligned frame with an accepted LFN. -/
def State.alignedRx (s : State) (c : Nat) (f : FrameParts) : State :=
  let s := s.noteRxDiv c false
  let x := s.chan c
  let lfn := x.rxLfn
  let m := s.stampOf c lfn f.frac.toNat
  let (errs, x) := ({ x with rxStamp := some (lfn, m) }.count 0 1).bipRx lfn (ohField f.ohA 12 4) f.payload
  let s := (s.setChan c x).bumpBy (Reg.bipErrorsTotal c) errs
  let s := (s.timeRx c lfn m f.ohA).routeRx c lfn f.ohA
  let s := (List.range 8).foldl (fun u g => if (u.sources (c / 8) g lfn).contains c then u.measureSkew (c / 8) g lfn else u) s
  if s.lfn ≤ lfn + 4096 ∧ lfn ≤ s.lfn + 16 then (s.ohBRx c lfn f.ohB).payloadRx c lfn f
  else s.bump Reg.lfnWindowDiscards

/-- A frame is received on channel c (R222). -/
def State.frameRx (s : State) (c : Nat) (f : FrameParts) : State :=
  let x := s.chan c
  let k := max 1 ((s.now - x.lastAt + 320) / 640)
  let ok := slice f.ohA 1 4 == [0x3C#8, 0x3C#8, 0xC3#8, 0xC3#8]
  let x := { x.fas (k - 1) ok with lastAt := s.now }
  if !x.inFrame then s.setChan c x
  else
    let x := ((x.mfas k (ohField f.ohA 6 1)).lfnByte k (ohField f.ohA 7 1)).traceByte k ((slice f.ohA 20 1).headD 0#8)
    let x := { x.backwardRx (ohField f.ohA 16 4) with foreignRx := bit (ohField f.ohA 11 1) 7 }
    let s := (s.setChan c x).traceRx c
    let s := if x.foreignRx then s
      else { s with ringSt := { s.ringSt with foreignRx := tset none s.ringSt.foreignRx c none } }
    if (s.chan c).mfAligned && (s.chan c).lfnValid then s.alignedRx c f else s

/-- A line frame is received (R222). -/
def execLineFrameRx (t : Nat) (c : Fin 32) (f : LineFrame) (found : RxFindings) (s0 : State) : Result :=
  let s := s0.tick t
  let (_, s) := s.mismatches 4 (found.time.map (fun a => 10 + a.val))
  let s := found.stored.foldl (fun u p => u.poisonStored p.link p.ssn.toNat [(p.pos.val, p.line.toNat)]) s
  .next (s.withLanes found.parcels (fun s => (s.frameRx c.val (frameParts f (8 * slotsOf (s.chRate c.val)))).fitLines))

end Sys2Proof.Machine
end

