-- ==== Sys2Proof/Machine/Ring.lean ====
section
/-! DEFINITION. The buddy ring: its links and diversions (15_host_ports_and_traffic.md, R359-R362; R246). -/
namespace Sys2Proof.Machine

/-- A diversion is over (R362): the owner's channel leaves the member set, and sends nothing meanwhile; the carrier stops
and says so while its port can carry the message. -/
def State.endDiversion (s : State) (d : Diversion) : State :=
  if d.ending then s
  else
    let rest := s.ringSt.divs.filter (fun e => !(e.owner == d.owner && e.wc == d.wc && e.pos == d.pos))
    let stays := d.owner && d.started && bit (s.route (d.wc / 8)).txMembers (d.wc % 8)
    let s := { s with ringSt := { s.ringSt with divs := rest ++ (if stays then [{ d with ending := true, buf := [] }] else []) } }
    let s := if d.started then s.noteDiversion d false else s
    if d.owner then
      let f := (s.route (d.wc / 8)).planned
      if bit f.1 (d.wc % 8) then s.queueAnn (d.wc / 8) { kind := 3, field := 0, value := setBit f.1 (d.wc % 8) false, channel := d.wc } else s
    else
      let s := { s with foreign := tset none s.foreign d.under none }
      if (s.port d.port).up then s.queueRing d.port (s.ringControl 6 d.pos d.wc (s.chRate d.under) d.under d.site 0) else s

/-- The far peer at site f is lost, which is how its reset shows here: diversions of channels toward it end (R362; DEDUCED,
log entry 112). -/
def State.endDiversionsTo (s : State) (f : Nat) : State :=
  (s.ringSt.divs.filter (fun d => d.site == f)).foldl (fun u d => u.endDiversion d) s

/-- A ring link goes out of service with everything that goes over it (R359, R362). -/
def State.ringDown (s : State) (p : Nat) : State :=
  let x := s.port p
  if !x.ringUp then s.setPort p { x with hellos := 0 }
  else
    let s := (s.setPort p { x with ringUp := false, hellos := 0 }).event 0x2008 p 0
    let s := (s.ringSt.divs.filter (fun d => d.port == p)).foldl (fun u d => u.endDiversion d) s
    let fed := (s.ringSt.rxPort.filter (fun q => q.2 == some p)).map Prod.fst
    let r := { s.ringSt with asked := s.ringSt.asked.filter (fun q => q.2 != p),
                             rxPort := fed.foldl (fun t c => tset none t c none) s.ringSt.rxPort,
                             rx := fed.foldl (fun t c => tset none t c none) s.ringSt.rx }
    { s with ringSt := r }

/-- The write of RING_CONFIG (R359). -/
def State.writeRingConfig (s : State) (v : Nat) : Status × State :=
  if bits v 7 5 ≠ 0 then (stReservedNonzero, s)
  else if bit v 0 && (s.portMode 14 != 2 || s.portMode 15 != 2 || bits v 4 3 == 0 || decide (bits v 4 3 + 1 ≤ bits v 2 1)) then (stInconsistent, s)
  else if s.anySlot [slotSealed, slotArmed, slotActive] then (stSlotBusy, s)
  else
    let s := if v = s.obj Reg.ringConfig then s else (s.ringDown 14).ringDown 15
    (stOk, s.setObj Reg.ringConfig v)

def execRingConfigWrite (t : Nat) (value : Byte) (s0 : State) : Result :=
  .next ((s0.tick t).managed (fun s => s.writeRingConfig value.toNat))

/-- The hello of the millisecond goes out on both ring ports, 1 ms after the last one (R359). -/
def execRingHelloTx (t : Nat) (s0 : State) : Result :=
  let s := s0.tick t
  if !s.ringEnabled || s.ringSt.helloTx.any (fun a => decide (s.now < a + 1000000)) then .next s
  else
    let s := { s with ringSt := { s.ringSt with helloTx := some s.now } }
    .next ([14, 15].foldl (fun u p => if (u.port p).up then u.queueRing p (u.ringControl 1 0 0 0 0 0 0) else u) s)

/-- A hello gives the expected position, the same SIZE and the same site index. -/
def State.helloOk (s : State) (p v : Nat) : Bool :=
  bits v 1 0 == s.ringNeighbour p && bits v 3 2 + 1 == s.ringSize && bits v 6 4 == s.sheetSite

/-- A ring hello is received on a port that is UP. A run of consecutive ones ends with 3 ms of silence, as the service does
(R359; DEDUCED, log entry 150). -/
def State.helloRx (s : State) (p v : Nat) : State :=
  if !s.ringEnabled || !(s.port p).up then s
  else
    let x := s.port p
    if !s.helloOk p v then s.setPort p { x with hellos := 0 }
    else
      let n := if x.helloAt.any (fun a => decide (s.now < a + 3000000)) then x.hellos + 1 else 1
      let s := s.setPort p { x with hellos := n, helloAt := some s.now, ringUp := x.ringUp || decide (3 ≤ n) }
      if !x.ringUp && decide (3 ≤ n) then s.event 0x2007 p 0 else s

def execRingHelloRx (t : Nat) (p : Fin 2) (sizePos : Byte) (s0 : State) : Result :=
  .next (State.helloRx (s0.tick t) (14 + p.val) sizePos.toNat)

/-- 3 ms without a valid hello, or the port is DOWN (R359). -/
def execRingLinkDown (t : Nat) (p : Fin 2) (s0 : State) : Result :=
  let s := s0.tick t
  let p := 14 + p.val
  let x := s.port p
  if x.ringUp && (!x.up || decide (x.helloAt.getD 0 + 3000000 ≤ s.now)) then .next (s.ringDown p) else .next s

/-! ### Engaging a diversion (R361, Table 15.9) -/

/-- The understudy that carries a neighbour's channel, if one can. -/
def State.divertUnderstudy (s : State) (p wc rate : Nat) : Option Nat :=
  if 2 ≤ (s.ringSt.divs.filter (fun d => !d.owner && d.port == p)).length then none
  else ((List.range 8).map (fun i => 8 * (wc / 8) + i)).find? (fun u =>
    s.chRate u == rate && s.inService u && !s.carries u && !s.foreignTx u && s.role u == 2)

/-- DIVERT_REQUEST is granted or refused. -/
def State.divertRequest (s : State) (p owner wc rate farSite : Nat) : State :=
  if !s.ringUp p then s
  else match s.divertUnderstudy p wc rate with
    | none => s.queueRing p (s.ringControl 4 owner wc rate 0 farSite 0)
    | some u =>
      let d : Diversion := { owner := false, wc := wc, port := p, under := u, pos := owner, site := farSite }
      let s := { s with ringSt := { s.ringSt with divs := s.ringSt.divs ++ [d] },
                        foreign := tset none s.foreign u (some { owner := owner, wc := wc }) }
      s.queueRing p (s.ringControl 3 owner wc rate u farSite 0)

def execDivertRequest (t : Nat) (p : Fin 2) (owner : Fin 4) (wc : Fin 32) (rate : BitVec 2) (farSite : Fin 8) (s0 : State) : Result :=
  .next (State.divertRequest (s0.tick t) (14 + p.val) owner.val wc.val rate.toNat farSite.val)

/-- A request to port p for the channel is outstanding; it no longer is. -/
def State.takeAsked (s : State) (p wc : Nat) : Option State :=
  if s.ringSt.asked.contains (wc, p) then
    some { s with ringSt := { s.ringSt with asked := s.ringSt.asked.filter (fun q => q != (wc, p)) } }
  else none

/-- DIVERT_GRANT: the channel's return is announced. -/
def State.divertGrant (s : State) (p wc under : Nat) : State :=
  match s.takeAsked p wc with
  | none => s
  | some s =>
    let d : Diversion := { owner := true, wc := wc, port := p, under := under, pos := s.ringPos, site := s.chanSite wc }
    let s := { s with ringSt := { s.ringSt with divs := s.ringSt.divs ++ [d] } }
    let f := (s.route (wc / 8)).planned
    s.queueAnn (wc / 8) { kind := 3, field := 0, value := setBit f.1 (wc % 8) true, channel := wc }

def execDivertGrant (t : Nat) (p : Fin 2) (wc : Fin 32) (under : Fin 32) (s0 : State) : Result :=
  .next (State.divertGrant (s0.tick t) (14 + p.val) wc.val under.val)

/-- DIVERT_REFUSE: HP14's neighbour is asked after HP15's. -/
def State.divertRefuse (s : State) (p wc : Nat) : State :=
  match s.takeAsked p wc with
  | none => s
  | some s => if p = 15 then s.askDivert wc [14] else s

def execDivertRefuse (t : Nat) (p : Fin 2) (wc : Fin 32) (s0 : State) : Result :=
  .next (State.divertRefuse (s0.tick t) (14 + p.val) wc.val)

/-- DIVERT_NOTICE: the far end diverts the channel, and this end requests a diversion for its own transmit. -/
def State.divertNotice (s : State) (wc : Nat) : State :=
  let s := s.noteRxDiv wc true
  if (s.ownDiversion wc).isSome || s.ringSt.asked.any (fun q => q.1 == wc) then s else s.askDivert wc [15, 14]

def execDivertNotice (t : Nat) (_p : Fin 2) (wc : Fin 32) (s0 : State) : Result :=
  .next (State.divertNotice (s0.tick t) wc.val)

/-- DIVERT_STOP ends the diversion of a channel over the port (R362). -/
def State.divertStop (s : State) (p owner wc : Nat) : State :=
  match s.ringSt.divs.find? (fun d => d.port == p && d.wc == wc && d.pos == owner) with
  | none => s
  | some d => s.endDiversion d

def execDivertStop (t : Nat) (p : Fin 2) (owner : Fin 4) (wc : Fin 32) (s0 : State) : Result :=
  .next (State.divertStop (s0.tick t) (14 + p.val) owner.val wc.val)

/-! ### Blocks (R246, R360) -/

/-- Blocks of a parcel with their places, from the first one's. -/
def placeBlocks : Nat × Nat × Nat × Nat → List (List Byte) → List RingBlock
  | _, [] => []
  | q, b :: r => (q.1, q.2.1, q.2.2.1, q.2.2.2, b) :: placeBlocks (nextBlock q) r

/-- A whole frame of a diverted channel has come over the ring: R223, R231 and R241 apply to it (R246). -/
def State.ringFrameDone (s : State) (wc rate : Nat) (x : RingFrame) : State :=
  let n := wc / 8
  let m := s.stampOf wc x.lfn 0
  let s := s.setChan wc { s.chan wc with rxLfn := x.lfn, rxStamp := some (x.lfn, m) }
  let s : State := { s with ringSt := { s.ringSt with rxAt := tset 0 s.ringSt.rxAt wc (s.now + 1) } }
  let r := s.route n
  let alone := !((List.range 8).any (fun i => (s.chan (8 * n + i)).inFrame))
  let s := if alone && r.rxMembers != x.members then s.setRoute n (r.adopt x.lfn (x.members, r.rxSubst0, r.rxSubst1)) else s
  let s := (List.range 8).foldl (fun u f => if (u.sources n f x.lfn).contains wc then u.measureSkew n f x.lfn else u) s
  let payload := x.blocks.flatMap id ++ List.replicate ((123 - x.blocks.length) * 8 * slotsOf rate) 0#8
  if ¬(s.lfn ≤ x.lfn + 4096 ∧ x.lfn ≤ s.lfn + 16) then s.bump Reg.lfnWindowDiscards
  else if x.page ≠ s.pageFor x.lfn then s.bump Reg.pageMismatchFrames
  else s.holdFrame wc x.lfn payload

/-- One block of a diverted channel. -/
def State.ringBlockIn (wc rate : Nat) (s : State) (b : RingBlock) : State :=
  let put (s : State) (x : Option RingFrame) : State := { s with ringSt := { s.ringSt with rx := tset none s.ringSt.rx wc x } }
  let (lfn, q, page, mem, bytes) := b
  let x := if q = 0 then some { lfn := lfn, page := page, members := mem, blocks := [bytes] }
    else match tget none s.ringSt.rx wc with
      | some x => if x.lfn = lfn ∧ x.blocks.length = q then some { x with blocks := x.blocks ++ [bytes] } else none
      | none => none
  match x with
  | none => put s none
  | some y => if y.blocks.length = (if lfn % 256 = 255 then 122 else 123) then (put s none).ringFrameDone wc rate y else put s (some y)

/-- One block joins the queue of the carrying understudy, which holds 4,096 (R245). -/
def ForeignSt.enqueue (x : ForeignSt) (b : RingBlock) : ForeignSt :=
  if 4096 ≤ x.blocks.length then x
  else { x with blocks := x.blocks ++ [b.2.2.2.2],
                heads := if b.2.1 = 0 then x.heads ++ [(x.blocks.length, b.1, b.2.2.1, b.2.2.2.1)] else x.heads }

/-- A ring block parcel: read as the diverted channel, or queued for the understudy that carries it. -/
def State.ringBlocksRx (s : State) (p owner wc rate first count page members lfn : Nat) (payload : List Byte) : State :=
  if !s.ringUp p then s
  else
    let bs := placeBlocks (lfn, first, page, members) (chunks (8 * slotsOf rate) (min count 16) payload)
    if owner = s.ringPos then
      let s := State.noteRxDiv { s with ringSt := { s.ringSt with rxPort := tset none s.ringSt.rxPort wc (some p) } } wc true
      let s := match tget none s.ringSt.rx wc with
        | some x => if x.lfn = lfn then
            { s with ringSt := { s.ringSt with rx := tset none s.ringSt.rx wc (some { x with page := page, members := members }) } } else s
        | none => s
      (bs.foldl (State.ringBlockIn wc rate) s).fitLines
    else match s.ringSt.divs.find? (fun d => !d.owner && d.pos == owner && d.wc == wc) with
      | none => s
      | some d => match tget none s.foreign d.under with
        | none => s
        | some x => { s with foreign := tset none s.foreign d.under (some { bs.foldl ForeignSt.enqueue x with members := members }) }

def execRingBlocksRx (t : Nat) (p : Fin 2) (h : RingBlocksHeader) (payload : List Byte) (s0 : State) : Result :=
  .next (State.ringBlocksRx (s0.tick t) (14 + p.val) h.owner.val h.wc.val h.rate.toNat
    h.first h.count h.page.toNat h.members.toNat h.lfn.toNat payload)

/-- A ring parcel whose frame a ring port has accepted: none when it is malformed (Table 15.8). -/
def State.ringParcel (s : State) (p : Nat) (b : List Byte) : Option State :=
  let at_ (i n : Nat) : Nat := ofBytesBE (slice b i n)
  let wc := bits (at_ 3 1) 4 0
  let rate := bits (at_ 3 1) 6 5
  let owner := bits (at_ 2 1) 1 0
  if !checkOk b || at_ 1 1 != 3 || at_ 2 1 != owner || decide (128 ≤ at_ 3 1) then none
  else if at_ 0 1 = 0x43 then
    if at_ 5 1 = 0 ∨ 16 < at_ 5 1 ∨ 122 < at_ 4 1 then none
    else some (s.ringBlocksRx p owner wc rate (at_ 4 1) (at_ 5 1) (bits (at_ 6 1) 0 0) (at_ 7 1) (at_ 8 8) (b.drop 64))
  else match at_ 16 1 with
    | 1 => some (s.helloRx p (at_ 17 1))
    | 2 => some (s.divertRequest p owner wc rate (bits (at_ 19 1) 2 0))
    | 3 => some (s.divertGrant p wc (bits (at_ 18 1) 4 0))
    | 4 => some (s.divertRefuse p wc)
    | 5 => some (s.divertNotice wc)
    | 6 => some (s.divertStop p owner wc)
    | _ => none

end Sys2Proof.Machine
end

