-- ==== Sys2Proof/Machine/Defects.lean ====
section
/-! DEFINITION. Substitution decisions, defects and their persistence, bundles and peers, and the per-second
records (10_line_framing.md R235, R237, R240; 11_line_defects_and_performance.md, R250-R268; R325). -/
namespace Sys2Proof.Machine

/-! ### Substitution and return (R235, R237, R240) -/

/-- TXFAIL or an RX_REQUEST bit acted on calls for a substitution. -/
def execSubstitutionDecision (t : Nat) (c : Fin 32) (s0 : State) : Result :=
  let s := s0.tick t
  let c := c.val
  let n := c / 8
  let x := s.chan c
  let f := (s.route n).planned
  if !x.txFail && !bit (s.route n).rxReq (c % 8) then .next s
  else match carriedIn f.2.1 f.2.2 (c % 8) with
    | some i =>
      if x.txFail && bit f.1 i then .next (s.queueAnn n { kind := 3, field := 0, value := setBit f.1 i false, channel := 8 * n + i })
      else .next s
    | none => if s.role c = 1 then .next (s.substitute c) else .next s

/-- A channel that left the member set is announced back. -/
def State.returnMember (s : State) (c : Nat) : State :=
  let n := c / 8
  let f := (s.route n).planned
  if bit f.1 (c % 8) || !(s.chan c).joined then s
  else s.queueAnn n { kind := 3, field := 0, value := setBit f.1 (c % 8) true, channel := c }

/-- The channel has been clear for RESTORE_HOLDOFF_MS. -/
def execRestoreHoldoffExpiry (t : Nat) (c : Fin 32) (s0 : State) : Result :=
  let s := s0.tick t
  let c := c.val
  let n := c / 8
  match (s.chan c).clearFrom with
  | none => .next s
  | some a =>
    if s.now < a + 1000000 * s.obj Reg.restoreHoldoffMs then .next s
    else
      let f := (s.route n).planned
      let s := match carrierIn f.2.1 f.2.2 (c % 8) with
        | some _ => s.queueAnn n { kind := 2, field := if substValid f.2.1 && substCarried f.2.1 == c % 8 then 0 else 1, value := 0 }
        | none => s
      match carriedIn f.2.1 f.2.2 (c % 8) with
      | some i => .next (s.returnMember (8 * n + i))
      | none => if s.hasEntry false (s.obj Reg.pageActive) c then .next (s.returnMember c) else .next s

/-! ### Channel defects (R250-R256) -/

abbrev dLos : Nat := 0
abbrev dLof : Nat := 1
abbrev dLom : Nat := 2
abbrev dTim : Nat := 3
abbrev dSkew : Nat := 4
abbrev dBdi : Nat := 5
abbrev dDeg : Nat := 6
abbrev dTxf : Nat := 7

def ChannelSt.has (x : ChannelSt) (d : Nat) : Bool := bit x.defects d
def ChannelSt.setDefect (x : ChannelSt) (d : Nat) (b : Bool) : ChannelSt := { x with defects := setBit x.defects d b }

/-- A declared defect suppresses defect d (Table 11.2). -/
def ChannelSt.suppresses (x : ChannelSt) (d : Nat) : Bool :=
  if d = dLos ∨ d = dTxf then false
  else if d = dLof then x.has dLos
  else if d = dLom then x.has dLos || x.has dLof
  else x.has dLos || x.has dLof || x.has dLom

/-- Both counts of a defect. -/
def ChannelSt.counts (x : ChannelSt) (d a b : Nat) : ChannelSt := { x with entry := tset 0 x.entry d a, exit := tset 0 x.exit d b }

/-- One sample of a defect with its persistence (R250). Answers the channel and, for a declaration or
clearance that is reported, what it became. -/
def ChannelSt.persist (x : ChannelSt) (d : Nat) (raw : Bool) (entry exit : Nat) : ChannelSt × Option Bool :=
  if x.suppresses d then ((x.counts d 0 0).setDefect d false, none)
  else if x.has d then
    let n := if raw then 0 else tget 0 x.exit d + 1
    if exit ≤ n then ((x.counts d 0 0).setDefect d false, some false) else (x.counts d 0 n, none)
  else
    let n := if raw then tget 0 x.entry d + 1 else 0
    if entry ≤ n then ((x.counts d 0 0).setDefect d true, some true) else (x.counts d n 0, none)

/-- The raw condition of LOM. Once it is declared, a sample out of frame is none of those that clear it: they are aligned with
an accepted LFN (Table 11.1). -/
def ChannelSt.rawLom (x : ChannelSt) : Bool := (x.inFrame || x.has dLom) && !(x.inFrame && x.mfAligned && x.lfnValid)

/-- BDI counts received frames, not samples. -/
def ChannelSt.persistBdi (x : ChannelSt) : ChannelSt × Option Bool :=
  if x.suppresses dBdi then ({ x with bdiRun := 0, bdiClear := 0 }.setDefect dBdi false, none)
  else if x.has dBdi then (if 5 ≤ x.bdiClear then (x.setDefect dBdi false, some false) else (x, none))
  else if 5 ≤ x.bdiRun then (x.setDefect dBdi true, some true) else (x, none)

/-- A suppressed DEG is cleared, and its runs start afresh (DEDUCED, log entry 56). -/
def ChannelSt.suppressDeg (x : ChannelSt) : ChannelSt :=
  if x.suppresses dDeg && x.has dDeg then { x with degRun := 0, goodRun := 0 }.setDefect dDeg false else x

/-- Raw LOS and TXF of a channel (R325); both hold while its engine is failed (R332). -/
def State.rawLos (s : State) (c : Nat) (q : OpticSample) : Bool :=
  decide (q.rxCdbm < 50 * ofSigned 8 (bits (s.obj (Reg.channelConfig c)) 23 16)) || q.carrierLost || s.engineDown c
def State.rawTxf (s : State) (c : Nat) : Bool :=
  s.engineDown c || (!s.inService c && s.chReads c != chDisabled)
    || ((s.optic c).lowFrom.map (fun a => decide (a + 100000 ≤ s.now))).getD false

/-- LAUNCH_POWER of a channel [0.01 dBm] (Table 14.8). -/
def State.launchCdbm (s : State) (c : Nat) : Int := 10 * ofSigned 8 (bits (s.obj (Reg.channelConfig c)) 15 8)

/-- Since when the transmit tap reads more than 3 dB below LAUNCH_POWER in IN_SERVICE is kept (R325). -/
def State.noteTap (s : State) (c : Nat) (q : OpticSample) : State :=
  let low := s.inService c && decide (q.txCdbm < s.launchCdbm c - 300)
  s.setOptic c { s.optic c with lowFrom := if low then some ((s.optic c).lowFrom.getD s.now) else none }

/-- A change of a channel defect, to be reported: channel, code, declared or cleared. -/
abbrev Change := Nat × Nat × Bool

/-- The defects of one channel are sampled. -/
def State.sampleChannel (s : State) (c : Nat) (q : OpticSample) : List Change × State :=
  let s := s.noteTap c q
  let los := s.rawLos c q
  let txf := s.rawTxf c
  let s := (s.setChBits c 8 8 (b2n los)).setChBits c 9 9 (b2n txf)
  let x := s.chan c
  let x := if x.inFrame && decide (x.lastAt + 3520 < s.now) then x.outOfFrame else x
  let (x, e0) := x.persist dLos los 16 1024
  let (x, e1) := x.persist dLof (!x.inFrame) 4096 4096
  let (x, e2) := x.persist dLom (x.rawLom) 4096 4096
  let (x, e3) := x.persist dTim x.traceMismatch 1 1
  let (x, e4) := x.persist dSkew x.excessSkew 1 1
  let (x, e5) := x.persistBdi
  let x := x.suppressDeg
  let (x, e7) := x.persist dTxf txf 1 1
  let x := (x.count 7 q.fecBits).count 8 q.fecBad
  let s := (s.setChan c x).bumpBy (Reg.fecCorrectedTotal c) q.fecBits
  (([(dLos, e0), (dLof, e1), (dLom, e2), (dTim, e3), (dSkew, e4), (dBdi, e5), (dTxf, e7)]).filterMap
    (fun p => p.2.map (fun b => (c, p.1, b))), s)

/-- Momentary conditions of R242 other than RXFAIL itself. -/
def State.momentary (s : State) (c : Nat) : Bool :=
  let x := s.chan c
  !x.inFrame || !x.lfnValid || x.excessSkew || !s.inService c || s.pilotMismatch c

/-- RXFAIL and TXFAIL of a channel follow its defects (R252, R256). `sample`: a sample is taken, and is counted. -/
def State.failStates (s : State) (sample : Bool) (c : Nat) : State :=
  let x := s.chan c
  let failing := s.failingDefects c != 0
  let clear := if failing || s.momentary c then 0 else x.rxClear + b2n sample
  let rx := failing || (x.rxFail && decide (clear < 4096))
  let tx := x.has dTxf || x.has dBdi
  let s := if rx && !x.rxFail then s.bump (Reg.rxfailDeclarations c) else s
  let s := if tx && !x.txFail then s.bump (Reg.txfailDeclarations c) else s
  let x := { x with rxFail := rx, txFail := tx, rxClear := clear }
  let x := if sample then
      { x with seen := x.seen ||| x.defects, oos := x.oos || !s.inService c, oosNow := !s.inService c,
               losSeen := x.losSeen || x.has dLos || x.has dLof || x.has dLom }
    else x
  let x := if sample && rx then x.count 5 1 else x
  let x := if sample && x.has dBdi then x.count 6 1 else x
  (s.setChan c x).noteClear c

/-! ### Bundles and peers (R257, R258, R260) -/

/-- The channels of a bundle as a bitmap. -/
def State.bundleMap (s : State) (n f : Nat) : Nat := (s.bundle n f).foldl (fun a c => setBit a c true) 0

/-- Bundles of route n that are there and down, bit s for site s. -/
def State.bundlesDown (s : State) (n : Nat) : Nat :=
  (List.range 8).foldl (fun a f => if (s.bundle n f).isEmpty then a else setBit a f (s.bundleDown n f)) 0

/-- 0x3230.(n+1) BUNDLE_STATE. -/
def State.bundleStateWord (s : State) (n : Nat) : Nat :=
  s.bundlesDown n + 256 * (List.range 8).foldl (fun a f => setBit a f (!(s.bundle n f).isEmpty)) 0

/-- The bundle of a channel is down, by the maps of before and after. -/
def State.bundleOf (s : State) (c : Nat) (down : Tab Nat) : Bool :=
  match s.entrySite true (s.obj Reg.pageActive) c with
  | some f => bit (tget 0 down (c / 8)) f
  | none => false

/-- A channel defect's event and report, unless R260 or R261 suppresses them: the channel's bundle was down before, or the
declaration makes the channel, named in `failed`, receive-failed and brings its bundle down. Such a channel need not be in
the receive member set (DESIGN CHOICE, log entry 156). -/
def State.reportChange (before after : Tab Nat) (failed : List Nat) (s : State) (q : Change) : State :=
  let (c, d, raised) := q
  if !s.inService c then s
  else
    let s := if raised && decide (d ≤ dLom) then s.channelPoints c 100 else s
    let downs := raised && failed.contains c && bit (s.failingDefects c) d && s.bundleOf c after
    if s.bundleOf c before || downs then s
    else s.event (if raised then 0x3002 else 0x3003) c d

/-- Events of the bundles of route n. A bundle that is down and that a page switch takes away has no BUNDLE_UP (R260; DESIGN
CHOICE, log entry 156). -/
def State.reportBundles (s : State) (n was now : Nat) : State :=
  (List.range 8).foldl (fun u f =>
    if bit was f = bit now f || (u.bundle n f).isEmpty then u
    else
      let u := if bit u.site.lost f then u else u.event (if bit now f then 0x3004 else 0x3005) (n + 256 * f) (u.bundleMap n f)
      u.linksProgress ((u.links.filter (fun p => p.2.inUse && lFarSite p.2.entry == f)).map Prod.fst)) s

/-- Link l can close stripes (R258). -/
def State.linkCloses (s : State) (l : Nat) : Bool :=
  let e := (s.link l).entry
  decide (lK e ≤ ((linkRoutes e).filter (fun n => !s.bundleDown n (lFarSite e))).length)

/-- Some link of the active sheet toward site f can close stripes (R258). -/
def State.canClose (s : State) (f : Nat) : Bool := (s.linksTo f).any s.linkCloses

/-- The holdoff of PEER_LOST toward site f runs, and of each link toward it since when it can close stripes; toward a site
that is not far, no holdoff runs. A PEER_LOST that stands when its site is no longer far, or no sheet is active, stands on
(R258; DESIGN CHOICE, log entry 155). -/
def State.peerTimers (s : State) (f : Nat) : State :=
  let d := s.defects
  let far := s.active.any (fun n => bit (s.farSites n) f)
  let due := (tget none d.lossDue f).getD (s.now + 1000000 * s.obj Reg.peerLossHoldoffMs)
  let ok := (s.linksTo f).foldl (fun m l => tset none m l (if s.linkCloses l then some ((tget none m l).getD s.now) else none)) d.okFrom
  { s with defects := { d with lossDue := tset none d.lossDue f (if far && !s.canClose f then some due else none), okFrom := ok } }

/-- Bundles are looked at after what their channels' states have become. -/
def State.bundleEvents (s : State) : State :=
  let s := (List.range 4).foldl (fun u n =>
    let now := u.bundlesDown n
    let was := tget 0 u.defects.bundleDown n
    let u := { u with defects := { u.defects with bundleDown := tset 0 u.defects.bundleDown n now } }
    u.reportBundles n was now) s
  (List.range 8).foldl (fun u f => u.peerTimers f) s

/-- The actions of Table 11.4 on changes of defects, at the instant they are declared or cleared (R259). -/
def State.consequences (s : State) (sample : Bool) (ch : List Change) : State :=
  let was := (List.range 32).filter (fun c => (s.chan c).rxFail)
  let s := (List.range 32).foldl (fun u c => u.failStates sample c) s
  let failed := (List.range 32).filter (fun c => (s.chan c).rxFail && !was.contains c)
  let after := (List.range 4).map (fun n => (n, s.bundlesDown n))
  let s := (ch.foldl (State.reportChange s.defects.bundleDown after failed) s).bundleEvents
  ((List.range 4).foldl (fun u n => u.deskewRoute n) s).fitLines

/-- A dark sample, for a channel that a short list leaves out. -/
def noSample : OpticSample := { rxCdbm := -10000, carrierLost := true, txCdbm := 0, fecBits := 0, fecBad := 0 }

/-- Every frame period each channel is sampled, once (R250). -/
def execDefectSample (t : Nat) (samples : List OpticSample) (s0 : State) : Result :=
  let s := s0.tick t
  if s.defects.lastSample = some s.lfn then .next s
  else
    let (ch, s) := (List.range 32).foldl (fun (a : List Change × State) c =>
      let (l, u) := a.2.sampleChannel c (samples.getD c noSample)
      (a.1 ++ l, u)) ([], { s with defects := { s.defects with lastSample := some s.lfn } })
    .next (s.consequences true ch)

/-- No link toward the site has been able to close stripes for the holdoff (R258). -/
def execPeerLost (t : Nat) (site : Fin 8) (s0 : State) : Result :=
  let s := s0.tick t
  let f := site.val
  match s.active, tget none s.defects.lossDue f with
  | some n, some due =>
    if bit (s.farSites n) f && !bit s.site.lost f && decide (due ≤ s.now) then
      let s := { s with site := { s.site with lost := setBit s.site.lost f true } }
      .next (((s.event 0x3006 f 0).bump Reg.peerLosses).endDiversionsTo f)
    else .next s
  | _, _ => .next s

/-- One link toward the site has been able to close stripes for 1,000 ms (R258). -/
def execPeerRestored (t : Nat) (site : Fin 8) (s0 : State) : Result :=
  let s := s0.tick t
  let f := site.val
  let able (l : Nat) : Bool := (tget none s.defects.okFrom l).any (fun a => decide (a + 1000000000 ≤ s.now))
  if bit s.site.lost f && (s.linksTo f).any able then
    .next (State.event { s with site := { s.site with lost := setBit s.site.lost f false } } 0x3007 f 0)
  else .next s

/-! ### Per-second records (R255, R262-R265, R268) -/

/-- Network time is established: a step has been applied since reset (R262, DEDUCED, log entry 57). -/
def State.timeEstablished (s : State) : Bool := decide (0 < s.obj Reg.lastStep / 2 ^ 64)

/-- The record of channel c for the second that ends (Table 11.5). -/
def State.pmRecordOf (s : State) (c seq : Nat) (partial_ : Bool) : Nat :=
  let x := s.chan c
  let v (i : Nat) : Nat := tget 0 x.second i
  let fields := (List.range 9).foldl (fun a i => a + 2 ^ (32 * (i + 1)) * min (v i) 0xFFFFFFFF) (seq % 2 ^ 32)
  let sat := (List.range 9).foldl (fun a i => setBit a i (decide (0xFFFFFFFF < v i))) 0
  fields + 2 ^ 320 * sat + 2 ^ 336 * (x.seen % 256) + 2 ^ 344 * (x.defects % 256) + 2 ^ 352 * b2n partial_
    + 2 ^ 353 * b2n x.oos + 2 ^ 354 * b2n (!s.timeEstablished) + 2 ^ 384 * s.obj (Reg.fecCorrectedTotal c) + 2 ^ 448 * s.net

/-- A second's DEG count and the health points of a channel (R255, Table 17.3); a change of DEG is answered. -/
def State.degSecond (s : State) (c : Nat) : List Change × State :=
  let x := s.chan c
  let degraded := decide (s.defects.degThreshold ≤ tget 0 x.second 2)
  let s := if decide (984000000 < tget 0 x.second 7) then s.channelPoints c 5 else s
  let s := if degraded && !x.losSeen then s.channelPoints c 50 else s
  let x := if x.losSeen then x
    else { x with degRun := if degraded then x.degRun + 1 else 0, goodRun := if degraded then 0 else x.goodRun + 1 }
  if x.suppresses dDeg then ([], s.setChan c x)
  else if !x.has dDeg && decide (s.defects.degSeconds ≤ x.degRun) then
    ([(c, dDeg, true)], s.setChan c ({ x with goodRun := 0 }.setDefect dDeg true))
  else if x.has dDeg && decide (s.defects.degSeconds ≤ x.goodRun) then
    ([(c, dDeg, false)], s.setChan c ({ x with degRun := 0 }.setDefect dDeg false))
  else ([], s.setChan c x)

/-- The per-second counters restart. -/
def ChannelSt.restart (x : ChannelSt) : ChannelSt := { x with second := [], seen := 0, oos := false, losSeen := false }

/-- All channels are latched at one instant (R262). `step`: the latch is at a time step. -/
def State.latchRecords (s : State) (step : Bool) : State :=
  let seq := if s.defects.records.isEmpty then 0 else (s.obj Reg.pmSecondSeq + 1) % 2 ^ 32
  let part := step || s.defects.partialNext
  let recs := (List.range 32).map (fun c => s.pmRecordOf c seq part)
  let d := { s.defects with records := ((seq, recs) :: s.defects.records).take 1024, lastLatch := s.net / 1000000000,
                            partialNext := step, degThreshold := s.obj Reg.degThreshold, degSeconds := s.obj Reg.degSeconds,
                            degAction := s.obj Reg.degAction, timAction := s.obj Reg.timAction }
  let s := ({ s with defects := d } : State).setObj Reg.pmSecondSeq seq
  let (ch, s) := (List.range 32).foldl (fun (a : List Change × State) c =>
    let (l, u) := a.2.degSecond c
    (a.1 ++ l, u.setChan c (u.chan c).restart)) ([], s)
  s.consequences false ch

/-- A second boundary has come, and the 1PPS output rises if it is enabled (R262, R370). -/
def execPmLatch (t : Nat) (s0 : State) : Result :=
  let s := s0.tick t
  if s.net / 1000000000 = s.defects.lastLatch then .next s
  else
    let s := s.latchRecords false
    .next (if bit (s.obj Reg.refConfig) 2 then s.emit (.pps (s.net / 1000000000)) else s)

end Sys2Proof.Machine
end

