-- ==== Sys2Proof/Machine/Host.lean ====
section
/-! DEFINITION. Host ports: UP and DOWN, understudy lanes, host parcels, feedback, re-sends, shapers and
meters (15_host_ports_and_traffic.md, R336-R358, R363). -/
namespace Sys2Proof.Machine

/-! ### Ports and lanes (R340-R343) -/

/-- PORT_STATE bits follow the port. -/
def State.showPort (s : State) (p : Nat) : State :=
  let x := s.port p
  s.setObj (Reg.portState p) (b2n x.up + 2 * b2n x.localFault + 4 * b2n x.remoteFault + 8 * b2n x.rx.rolled.isSome)

/-- A working lane of the port, or its understudy lane, failed in rehearsal (R441). -/
def State.rehearsalLaneFailed (s : State) (p : Nat) (understudy : Bool) : Bool :=
  s.boot.failedItems.any (fun q => q.1 == 11 && q.2 / 9 == p && (q.2 % 9 == 8) == understudy)

/-- Every working lane of the port carries data: none has failed, or the one that has is rolled (R342). -/
def PortSt.lanesGood (x : PortSt) : Bool := x.failedRx == 0 || x.rx.rolled.any (fun i => x.failedRx == 2 ^ i)

/-- LANE_STATE of lane l (Table 15.6). -/
def State.setLane (s : State) (l st i : Nat) : State := s.setObj (Reg.laneState l) (st + 16 * i)

/-- Lane 9p + 8. -/
def understudyLane (p : Nat) : Nat := 9 * p + 8

/-- LANE_STATE of the working lanes of a port that goes UP or DOWN; a failed lane stays FAILED (DESIGN CHOICE, log
entry 125). -/
def State.showLanes (s : State) (p : Nat) : State :=
  let x := s.port p
  (List.range 8).foldl (fun u i => if bit x.failedRx i then u else u.setLane (9 * p + i) (b2n x.up) (if x.up then i else 0)) s

/-- The port's local fault begins or ends; remote fault is sent while it lasts (R337). -/
def State.localFault (s : State) (p : Nat) (b : Bool) : State :=
  if (s.port p).localFault == b then s else (s.setPort p { s.port p with localFault := b }).emit (.remoteFault p b)

/-- The lanes of the port are driven: it has a mode, and the module is in READY (R438, Table 15.1). -/
def State.portDriven (s : State) (p : Nat) : Bool := s.modState == modReady && s.portMode p != 0

/-- The understudy lane is in use: lane messages come and go on it (R341), in READY alone (R438), unless it failed in
rehearsal (R441). -/
def State.laneOn (s : State) (p : Nat) : Bool := s.portDriven p && s.understudyEn p && !s.rehearsalLaneFailed p true

/-- The understudy lane carries a working lane's data in one direction: the port is rolled (R342). -/
def PortSt.overUnderstudy (x : PortSt) : Bool := x.rx.rolled.isSome || x.tx.rolled.isSome

/-- The port has been aligned without faults for 10 µs (R340). -/
def execPortUp (t : Nat) (p : Fin 16) (s0 : State) : Result :=
  let s := s0.tick t
  let p := p.val
  let x := s.port p
  if x.up || x.stuck || !x.lanesGood || (x.overUnderstudy && !s.laneOn p) || !s.portDriven p || s.rehearsalLaneFailed p false
      || decide (s.now < x.badAt + 10000) then .next s
  else
    let s := State.localFault (s.setPort p { x with up := true, since := s.now, remoteFault := false }) p false
    .next (((s.showPort p).showLanes p).event 0x2002 p 0)

/-- The port goes DOWN, or what keeps it DOWN changes (R340); a run of ring hellos ends with it (R359). -/
def State.portDown (s : State) (p : Nat) (lf rf : Bool) : State :=
  let x := s.port p
  let y := { x with up := false, badAt := s.now, remoteFault := rf }
  let s := (if x.up then (s.setPort p { y with since := s.now, upBefore := s.upTime p }).event 0x2001 p 0 else s.setPort p y)
  let s := s.localFault p lf
  let s := s.ringDown p
  (if x.up then s.showLanes p else s).showPort p

/-- Alignment is lost, or a fault begins or ends. Lanes in electrical idle show neither (R438, Table 15.1). -/
def execPortDown (t : Nat) (p : Fin 16) (localFault remoteFault : Bool) (s0 : State) : Result :=
  let s := s0.tick t
  .next (if s.portDriven p.val then s.portDown p.val localFault remoteFault else s)

/-- The lane messages on the port's transmit understudy lane carry a state from now on. -/
def State.laneMessage (s : State) (p st i : Nat) : State := (s.emit (.lane p st i)).setLane (understudyLane p) st i

/-- The understudy lane of a port goes to electrical idle. A rolled port stays rolled (R342); a switch that is not complete
is lost (DEDUCED, log entry 113). -/
def State.keepRolls (s : State) (p : Nat) : State :=
  let x := s.port p
  let rx : LaneSwitch := if x.rx.rolled.isSome then { x.rx with heard := none, ready := false } else {}
  let tx : LaneSwitch := if x.tx.rolled.isSome then x.tx else {}
  s.setPort p { x with rx := rx, tx := tx }

/-- The messages of an understudy lane that comes into use begin with what it carries (R341, R342). -/
def State.startLane (s : State) (p : Nat) : State :=
  let x := s.port p
  if s.laneOn p then
    match x.rx.rolled, x.tx.rolled with
    | some i, _ => s.laneMessage p 6 i
    | none, some i => s.laneMessage p 5 i
    | none, none => s.laneMessage p 0 0
  else s

/-- Alignment of the port begins now: its lanes were not driven until now, or one was not (R340, R438). -/
def State.alignFrom (s : State) (p : Nat) : State := s.setPort p { s.port p with badAt := s.now }

/-- The port's lanes are driven again as the module enters READY (R438). -/
def State.startPort (s : State) (p : Nat) : State := (s.alignFrom p).startLane p

/-- The understudy lane comes into use, or goes to electrical idle (R341). A port that is rolled is DOWN while the lane is
idle, and stays rolled (R342; DEDUCED, log entry 113). -/
def State.switchUnderstudy (s : State) (p : Nat) (was : Bool) : State :=
  let x := s.port p
  if s.laneOn p = was then s
  else if s.laneOn p then (if x.overUnderstudy then s.startPort p else s.startLane p)
  else
    let s := (s.keepRolls p).setLane (understudyLane p) 0 0
    if x.overUnderstudy then s.portDown p x.localFault x.remoteFault else s

/-- The understudy lane of a port goes to electrical idle as the module leaves READY (R438). -/
def State.idleLane (s : State) (p : Nat) : State :=
  let y := s.keepRolls p
  if s.laneOn p then y.setLane (understudyLane p) 0 0 else y

/-- The port goes DOWN for what its own lanes do, and its fault bits stand. -/
def State.lanesDown (s : State) (p : Nat) : State :=
  if (s.port p).up then s.portDown p (s.port p).localFault (s.port p).remoteFault else s

/-- What a lane's receiver finds is a failure, with the cause code of Table 18.7 (R342). -/
def State.laneFault (s : State) : LaneFault → Option Nat
  | .lockLost => some 1
  | .ratio n => if s.obj Reg.laneDegradeSer < n then some 2 else none

/-- The failure of working lane i of port p, once noted (R342, R343): a bridge is asked for, unless the port can only stay
DOWN. The port goes DOWN at once, but for a degraded lane that can roll. -/
def State.workingLaneFailed (s : State) (p i cause : Nat) : State :=
  let x := s.port p
  let y := { x with failedRx := setBit x.failedRx i true }
  if x.failedRx ≠ 0 ∨ x.tx.bridged.isSome then (s.setPort p { y with stuck := true }).lanesDown p
  else if s.laneOn p && x.rx.ready then
    let s := (s.setPort p { y with rx := { x.rx with asked := some i } }).laneMessage p 4 i
    if cause = 1 then s.lanesDown p else s
  else (s.setPort p y).lanesDown p

/-- The understudy lane of port p fails while it carries no roll: it is not READY, so a switch to it is over, and a working
lane that has failed keeps the port DOWN (R342; DEDUCED, log entry 113). -/
def State.understudyFailed (s : State) (p : Nat) : State :=
  let x := s.port p
  let s := s.setPort p { x with rx := { x.rx with ready := false, heard := none, asked := none, bridged := none } }
  if x.failedRx = 0 then s else s.lanesDown p

/-- A working lane fails, or the understudy lane does (R342, R343). -/
def execLaneFailed (t : Nat) (l : Fin 144) (cause : LaneFault) (s0 : State) : Result :=
  let s := s0.tick t
  let l := l.val
  let p := l / 9
  let i := l % 9
  let x := s.port p
  match s.laneFault cause with
  | none => .next s
  | some code =>
    if bit x.failedRx i then .next s
    else
      let s := ((s.event 0x2003 l code).failElement (element 1 l)).setLane l 3 (if i < 8 then i else 0)
      if i < 8 then .next (s.workingLaneFailed p i code)
      else if x.rx.rolled.isSome then .next ((s.setPort p { x with stuck := true }).lanesDown p)
      else .next (s.understudyFailed p)

/-- The receiver of an understudy lane has decoded one more lane message: READY after 1 ms of them (R341). More than 100 ns
without one, at a period of 40 ns and less, is a gap, after which the 1 ms starts afresh (DESIGN CHOICE, log entry 125). -/
def LaneSwitch.hear (x : LaneSwitch) (now : Nat) : LaneSwitch :=
  let from_ := if x.last + 100 < now then now else x.heard.getD now
  { x with heard := some from_, last := now, ready := x.ready || decide (from_ + 1000000 ≤ now) }

/-- A lane message is decoded on the understudy lane (R341, R342, R343). A roll counts at each end (Table 15.10). -/
def execLaneMessageRx (t : Nat) (p : Fin 16) (state : BitVec 4) (lane : BitVec 3) (s0 : State) : Result :=
  let s := s0.tick t
  let p := p.val
  let x := s.port p
  let i := lane.toNat
  if !s.laneOn p || x.rx.rolled.isSome then .next s
  else
    let rx := x.rx.hear s.now
    let s := if rx.ready && !x.rx.ready && x.tx.bridged.isNone then s.laneMessage p 2 0 else s
    let x := { x with rx := rx }
    match state.toNat with
    | 4 =>
      if x.tx.bridged.isSome then .next (s.setPort p x)
      else
        let lost := x.rx.asked.isSome
        let s := (s.setPort p { x with tx := { x.tx with asked := some i, bridged := some i }, stuck := x.stuck || lost }).laneMessage p 5 i
        .next (if lost then s.lanesDown p else s)
    | 5 => .next (s.setPort p { x with rx := { rx with bridged := if rx.asked = some i then some i else rx.bridged } })
    | 6 =>
      if x.tx.bridged = some i ∧ x.tx.rolled = none then
        .next ((s.setPort p { x with tx := { x.tx with rolled := some i } }).countPort p pcRolls)
      else .next (s.setPort p x)
    | _ => .next (s.setPort p x)

/-- The receiver rolls from the failed lane to its copy, which the peer has announced with BRIDGING, while the understudy
lane is READY (R342; DEDUCED, log entry 113). A port that is DOWN has its alignment from here (R340, Table 15.10). -/
def execLaneRolled (t : Nat) (p : Fin 16) (s0 : State) : Result :=
  let s := s0.tick t
  let p := p.val
  let x := s.port p
  match x.rx.asked with
  | some i =>
    if x.rx.rolled.isSome || x.stuck || x.rx.bridged != some i || !x.rx.ready || !s.laneOn p then .next s
    else
      let s := s.setPort p { x with rx := { x.rx with rolled := some i }, badAt := s.now }
      .next (((s.event 0x2004 (9 * p + i) i).laneMessage p 6 i).countPort p pcRolls |>.showPort p)
  | none => .next s

/-! ### Profiles and configuration (R358, R363, R441) -/

/-- HOST entries of the sheets in slots of the given states. -/
def State.hostEntries (s : State) (states : List Nat) : List Nat :=
  [0, 1].flatMap (fun n => if states.contains (s.slotStateOf n) then
    ((List.range (hStreamCount (s.hdr n))).map (s.streamEntry n)).filter (fun e => eKind e == kindHost) else [])

/-- The write of SHAPER_PROFILE k + 1. -/
def State.writeShaper (s : State) (k v : Nat) : Status × State :=
  if k = 0 then (stOutOfRange, s)
  else if bits v 63 53 ≠ 0 then (stReservedNonzero, s)
  else if bits v 31 0 = 0 ∨ 49652267 < bits v 31 0 ∨ bits v 47 32 = 0 ∨ bits v 52 48 = 0 ∨ 16 < bits v 52 48 then (stOutOfRange, s)
  else if (s.hostEntries [slotArmed, slotActive]).any (fun e => eShaper e == k) then (stSlotBusy, s)
  else (stOk, s.setObj (Reg.shaperProfile k) v)

/-- The write of METER_PROFILE k + 1. -/
def State.writeMeter (s : State) (k v : Nat) : Status × State :=
  if k = 0 then (stOutOfRange, s)
  else if bits v 127 97 ≠ 0 then (stReservedNonzero, s)
  else if bits v 31 0 = 0 ∨ bits v 63 32 < bits v 31 0 ∨ bits v 79 64 = 0 ∨ bits v 95 80 = 0 then (stInconsistent, s)
  else if (s.hostEntries [slotArmed, slotActive]).any (fun e => eMeter e == k) then (stSlotBusy, s)
  else (stOk, s.setObj (Reg.meterProfile k) v)

def execShaperProfileWrite (t : Nat) (k : Fin 64) (value : Word64) (s0 : State) : Result :=
  .next ((s0.tick t).managed (fun s => s.writeShaper k.val value.toNat))

def execMeterProfileWrite (t : Nat) (k : Fin 64) (value : BitVec 128) (s0 : State) : Result :=
  .next ((s0.tick t).managed (fun s => s.writeMeter k.val value.toNat))

/-- The write of PORT_CONFIG for port p. -/
def State.writePortConfig (s : State) (p v : Nat) : Status × State :=
  if bits v 31 4 ≠ 0 then (stReservedNonzero, s)
  else if bits v 1 0 = 3 then (stOutOfRange, s)
  else if (s.hostEntries [slotSealed, slotArmed, slotActive]).any (fun e => ePort e == p || eAltPort e == p) then (stSlotBusy, s)
  else if (bits v 1 0 != 0 && s.rehearsalLaneFailed p false) || (bit v 2 && s.rehearsalLaneFailed p true) then (stElementFailed, s)
  else
    let was := s.laneOn p
    let s := if bits v 1 0 ≠ s.portMode p then s.portDown p false false else s
    (stOk, (s.setObj (Reg.portConfig p) v).switchUnderstudy p was)

def execPortConfigWrite (t : Nat) (p : Fin 16) (value : Word32) (s0 : State) : Result :=
  .next ((s0.tick t).managed (fun s => s.writePortConfig p.val value.toNat))

/-! ### Streams on ports (R345-R354) -/

abbrev hostBudget : Nat := 1
abbrev hostFraming : Nat := 2
abbrev hostSource : Nat := 3
abbrev hostPoison : Nat := 4
abbrev hostPeer : Nat := 5

/-- HOST streams whose current port is p, rising. -/
def State.hostOn (s : State) (p : Nat) : List Nat :=
  (s.streams.filter (fun q => eKind q.2.entry == kindHost && q.2.port == p)).map Prod.fst

/-- An attempt: every recorded parcel from PSN q on goes again (R351). -/
def State.hostAttempt (s : State) (i q : Nat) : State :=
  let x := s.stream i
  if x.failed.isSome || x.recs.isEmpty then s
  else if s.obj Reg.hostRetryBudget ≤ x.attempts then s.hostFail i hostBudget
  else
    let keep := x.resendQ.filter (fun n => seqAfter q n)
    let again := (x.recs.map (fun r => r.par.psn)).filter (fun n => !seqAfter q n)
    (s.setStream i { x with attempts := x.attempts + 1, resendQ := keep ++ again, attemptAt := s.now, lastTx := s.upTime x.port }).points
      (element 9 x.port) 2

/-- ACK_PSN advances: records before it go, and the attempt count returns to 0 (R351). What they read stays guarded until
their credit is back (R24). -/
def State.hostAck (s : State) (i a : Nat) : State :=
  let x := s.stream i
  if seqAfter a x.acked && !seqAfter a x.txPsn then
    let owed := (x.recs.map HostRec.par).filter (fun p => seqAfter a p.psn && !x.creditBack p.psn)
    s.setStream i { x with acked := a, attempts := 0, lastTx := s.upTime x.port, owed := x.owed ++ owed,
                           recs := x.recs.filter (fun r => !seqAfter a r.par.psn),
                           resendQ := x.resendQ.filter (fun n => !seqAfter a n) }
  else s

/-- A GAP_SEQ newer than the last one acted on. -/
def gapNewer (last : Option Nat) (g : Nat) : Bool := match last with
  | none => true
  | some a => let d := (g + 256 - a) % 256; decide (1 ≤ d) && decide (d < 128)

/-- Feedback of a received parcel for the sending side of stream i (R349-R353). -/
def State.applyFeedback (s : State) (i : Nat) (f : Feedback) (creditValid ackValid : Bool) : State :=
  if eKind (s.stream i).entry ≠ kindHost ∨ (s.stream i).failed.isSome then s
  else if f.failed then s.hostFail i hostPeer
  else
    let s := if creditValid then s.creditTo i f.credit else s
    let s := if ackValid then s.hostAck i f.ack else s
    match f.gap with
    | some (g, q) =>
      if gapNewer (s.stream i).gapActed g then (s.setStream i { s.stream i with gapActed := some g }).hostAttempt i q else s
    | none => s

/-- The meter of a stream takes one parcel: 0 red, 1 yellow, 2 green (R357). -/
def State.meter (s : State) (i : Nat) : Nat × State :=
  let x := s.stream i
  let k := eMeter x.entry
  if k = 0 then (2, s)
  else
    let v := s.obj (Reg.meterProfile k)
    let unit := 1000000000
    let d := s.now - x.meterAt
    let tp := min (bits v 95 80 * unit) (x.meterP + bits v 63 32 * d)
    let tc := min (bits v 79 64 * unit) (x.meterC + bits v 31 0 * d)
    if tp < unit then (0, s.setStream i { x with meterP := tp, meterC := tc, meterAt := s.now })
    else if tc < unit then (1, s.setStream i { x with meterP := tp - unit, meterC := tc, meterAt := s.now })
    else (2, s.setStream i { x with meterP := tp - unit, meterC := tc - unit, meterAt := s.now })

/-- RED_DROP of a stream's meter profile. -/
def State.redDrop (s : State) (i : Nat) : Bool := bit (s.obj (Reg.meterProfile (eMeter (s.stream i).entry))) 96

/-- A GAP is due at once. -/
def State.gapDue (s : State) (i : Nat) : State :=
  let x := s.stream i
  s.setStream i { x with gapDue := true, fbSince := some (x.fbSince.getD s.now) }

/-- The entry of stream i of slot n is a HOST stream that uses port p. -/
def State.entryOnPort (s : State) (n i p : Nat) : Bool :=
  let e := s.streamEntry n i
  eKind e == kindHost && (ePort e == p || eAltPort e == p)

/-- A parcel of the armed sheet's revision is held (R352). -/
def State.holdArmed (s : State) (i : Nat) (p : RxParcel) : State :=
  match s.armedFor p.jobTag p.revision with
  | none => s
  | some n =>
    let e := s.streamEntry n i
    let x := s.stream i
    if eKind e ≠ kindHost ∨ eRxHold e ≤ x.armedHeld.length ∨ x.armedHeld.any (fun q => q.psn == p.psn) then s
    else (s.setStream i { x with armedHeld := x.armedHeld ++ [p] }).fitArmed i e

/-- Rows 5 to 10 of Table 15.5 for a DATA parcel of the active sheet. A PSN half the range away from the expected one counts
as following it (DESIGN CHOICE, log entry 134). -/
def State.hostData (s : State) (p i : Nat) (r : RxParcel) : State :=
  let x := s.stream i
  if x.failed.isSome then s.setStream i { x with failDue := true, fbSince := some (x.fbSince.getD s.now) }
  else if seqAfter x.rxPsn r.psn then (s.setStream i { x with fbNow := true, fbSince := some (x.fbSince.getD s.now) }).countPort p pcDuplicates
  else if r.psn ≠ x.rxPsn then (s.gapDue i).countPort p pcGaps
  else
    let (colour, s) := s.meter i
    let s := if colour = 1 then s.countPort p pcYellow else s
    if colour = 0 ∧ s.redDrop i then (s.gapDue i).countPort p pcRed
    else
      let s := if colour = 0 then s.countPort p pcRed else s
      if r.offset ≠ (s.stream i).rxOffset then s.hostFail i hostFraming
      else
        let x := s.stream i
        (s.setStream i { x with rxOffset := (x.rxOffset + r.data.length) % 2 ^ 64 }).deliver i r

/-- A parcel accepted on port p is examined by Table 15.5. -/
def State.hostParcel (s : State) (p : Nat) (b : List Byte) : State :=
  let at_ (i n : Nat) : Nat := ofBytesBE (slice b i n)
  let data := decide (at_ 0 1 = 0x41)
  let fl := at_ 2 1
  let len := at_ 20 2
  let i := at_ (if data then 4 else 30) 4
  if !checkOk b || at_ 1 1 != 3 || (!data && at_ 0 1 != 0x42) || decide (32 ≤ fl) || at_ 46 16 != 0 || decide (2 ^ 22 ≤ at_ 26 4)
      || decide (4096 < len) then s.countPort p pcMalformed
  else if decide (16384 ≤ i) || !((s.active.any (fun n => s.entryOnPort n i p))
      || (s.armedSlots.any (fun n => s.entryOnPort n i p))) then s.countPort p pcUnknown
  else
    let job := at_ 22 2
    let rev := at_ 24 2
    let r : RxParcel := { psn := at_ 8 4, offset := at_ 12 8, data := slice b 64 len, token := at_ 26 4, jobTag := job, revision := rev }
    if s.tagsArmed job rev && !s.tagsActive job rev then (if data then s.holdArmed i r else s)
    else if !s.tagsActive job rev then s.countPort p pcRevision
    else
      let f : Feedback := { stream := at_ 30 4, credit := at_ 34 4, ack := at_ 38 4,
                            gap := if bit fl 3 then some (at_ 3 1, at_ 42 4) else none, failed := bit fl 4 }
      let s := if bit fl 1 || bit fl 2 || bit fl 3 || bit fl 4 then s.applyFeedback (at_ 30 4) f (bit fl 2) (bit fl 1) else s
      if !data then s
      else if eKind (s.stream i).entry ≠ kindHost then s.countPort p pcUnknown
      else s.hostData p i r

/-- A frame received on port p (R339). -/
def State.hostFrame (s : State) (p : Nat) (f : List Byte) : State :=
  let s := s.countPort p pcFramesIn
  match s.classify p f with
  | .foreign => s.countPort p pcForeign
  | .malformed => s.countPort p pcMalformed
  | .parcel b =>
    let ty := ofBytesBE (slice b 0 1)
    if (ty = 0x43 ∨ ty = 0x44) ∧ 14 ≤ p ∧ s.ringEnabled then (s.ringParcel p b).getD (s.countPort p pcMalformed)
    else s.hostParcel p b

def execHostParcelRx (t : Nat) (p : Fin 16) (frame : List Byte) (s0 : State) : Result :=
  let s := s0.tick t
  if (s.port p.val).up then .next (s.hostFrame p.val frame) else .next s

/-- A frame that is not addressed to the parcel transport. -/
def execForeignFrame (t : Nat) (p : Fin 16) (frame : List Byte) (s0 : State) : Result :=
  let s := s0.tick t
  if (s.port p.val).up && s.classify p.val frame == .foreign then .next (s.hostFrame p.val frame) else .next s

/-! ### Feedback (R350) -/

/-- Feedback of stream i as it would leave now. -/
def State.feedbackOf (s : State) (i : Nat) : Feedback :=
  let x := s.stream i
  { stream := eFarStream x.entry, credit := x.rxLimit, ack := x.rxPsn,
    gap := if x.gapDue then some (x.gapSeq, x.rxPsn) else none, failed := x.failDue }

/-- The feedback of stream i has left. -/
def State.feedbackSent (s : State) (i : Nat) : State :=
  let x := s.stream i
  let x := if x.gapDue then { x with gapSeq := (x.gapSeq + 1) % 256, gapAt := some (s.upTime x.port), gapPsn := x.rxPsn } else x
  s.setStream i { x with creditSent := x.rxLimit, ackSent := x.rxPsn, fbSince := none, fbNow := false, gapDue := false, failDue := false }

/-- Some feedback of the stream is due. -/
def StreamCtx.due (x : StreamCtx) : Bool := x.fbSince.isSome || x.fbNow || x.gapDue || x.failDue

/-- It can no longer ride in a DATA parcel: its microsecond is over, or it carries FAILED. -/
def State.mustControl (s : State) (i : Nat) : Bool :=
  let x := s.stream i
  x.due && (x.failDue || decide (x.fbSince.getD s.now + 1000 < s.now))

/-- The address of a stream's peer as it travels (DEDUCED, log entry 52). -/
def peerAddr (e : Nat) : List Byte := bytesBE 16 (ePeerIp e)

/-- A CONTROL parcel with the feedback of stream i. -/
def State.sendControl (s : State) (p i : Nat) : State :=
  let h := parcelHeader 0x42 false 0 0 0 0 s.tags.1 s.tags.2 0 (some (s.feedbackOf i))
  (s.sendFrame p i (peerAddr (s.stream i).entry) h).feedbackSent i

/-- The next stream of port p whose feedback is due: what is due at once goes first. -/
def State.dueStream (s : State) (p : Nat) : Option Nat :=
  let l := s.hostOn p
  (l.find? (fun i => (s.stream i).fbNow || (s.stream i).gapDue || (s.stream i).failDue)).orElse (fun _ => l.find? (fun i => (s.stream i).due))

def execFeedbackSend (t : Nat) (p : Fin 16) (s0 : State) : Result :=
  let s := s0.tick t
  if !(s.port p.val).up then .next s
  else match s.dueStream p.val with
    | some i => .next (s.sendControl p.val i)
    | none => .next s

/-- The expected PSN is still missing HOST_RETRY_US of UP time after the last GAP: a GAP is due again (R340, R350). -/
def execGapResendExpiry (t : Nat) (i : BitVec 14) (s0 : State) : Result :=
  let s := s0.tick t
  let x := s.stream i.toNat
  match x.gapAt with
  | some a =>
    if eKind x.entry = kindHost ∧ x.failed = none ∧ x.gapPsn = x.rxPsn ∧ !x.gapDue ∧ a + 1000 * s.obj Reg.hostRetryUs ≤ s.upTime x.port then
      .next ((s.gapDue i.toNat).countPort x.port pcGaps)
    else .next s
  | none => .next s

/-- HOST_RETRY_US of UP time without an advance of ACK_PSN (R351). -/
def execHostRetryExpiry (t : Nat) (i : BitVec 14) (s0 : State) : Result :=
  let s := s0.tick t
  let x := s.stream i.toNat
  if eKind x.entry = kindHost ∧ x.failed = none ∧ !x.recs.isEmpty ∧ x.lastTx + 1000 * s.obj Reg.hostRetryUs ≤ s.upTime x.port then
    .next (s.hostAttempt i.toNat x.acked)
  else .next s

/-- The stream's port has been DOWN for PORT_FAILOVER_MS (R346). -/
def execPortFailover (t : Nat) (i : BitVec 14) (s0 : State) : Result :=
  let s := s0.tick t
  let x := s.stream i.toNat
  let alt := eAltPort x.entry
  let ms := s.obj Reg.portFailoverMs
  if eKind x.entry = kindHost ∧ x.failed = none ∧ x.port = ePort x.entry ∧ alt ≠ x.port ∧ ms ≠ 0 ∧ !(s.port x.port).up
      ∧ (s.port x.port).since + 1000000 * ms ≤ s.now ∧ (s.port alt).up then
    let s := s.setStream i.toNat { x with port := alt, resendQ := x.recs.map (fun r => r.par.psn), attemptAt := s.now,
                                          lastTx := s.upTime alt, gapAt := x.gapAt.map (fun _ => s.upTime alt) }
    .next ((s.event 0x2005 i.toNat alt).countPort x.port pcFailovers)
  else .next s

/-! ### Sending (R351, R352, R355, R356) -/

/-- The shaper credit of a stream now, in parcels × 10⁹; none when it is unshaped. -/
def State.shaperCredit (s : State) (x : StreamCtx) : Option Nat :=
  let k := eShaper x.entry
  if k = 0 then none
  else
    let v := s.obj (Reg.shaperProfile k)
    some (min (bits v 47 32 * 1000000000) (x.shaper + bits v 31 0 * (s.now - x.shaperAt)))

/-- A data parcel may leave (R355). -/
def State.shaperOk (s : State) (i : Nat) : Bool := match s.shaperCredit (s.stream i) with
  | none => true
  | some c => decide (1000000000 ≤ c)

/-- A data parcel leaves: shaper credit is spent and the retry timer restarts. -/
def State.dataLeaves (s : State) (i : Nat) : State :=
  let x := s.stream i
  let x := match s.shaperCredit x with
    | none => x
    | some c => { x with shaper := c - 1000000000, shaperAt := s.now }
  s.setStream i { x with lastTx := s.upTime x.port }

/-- A DATA parcel of stream i goes out with the given header and bytes. -/
def State.sendData (s : State) (p i : Nat) (head data : List Byte) : State :=
  (s.sendFrame p i (peerAddr (s.stream i).entry) (head ++ data ++ List.replicate (4096 - data.length) 0#8)).dataLeaves i

/-- A recorded header as it goes again: unchanged but for RESEND = 1 and its check (R351). -/
def resendHead (h : List Byte) : List Byte :=
  withCheck (h.take 2 ++ bytesBE 1 (setBit (ofBytesBE (slice h 2 1)) 0 true) ++ slice h 3 59)

/-- The first parcel of an attempt goes again, read from its source (R352). -/
def State.resendOne (s : State) (p i : Nat) : State :=
  let x := s.stream i
  match x.resendQ with
  | [] => s
  | q :: rest =>
    let out := s.setStream i { x with resendQ := rest }
    match x.recs.find? (fun r => r.par.psn == q) with
    | none => out
    | some r =>
      if s.held (r.par.items.map TxItem.area) then s
      else match r.par.items.find? (fun y => s.isPoisoned y.area.1 y.area.2) with
        | some y => (out.notePoison y.area.1 y.area.2 3).hostFail i hostPoison
        | none =>
          let data := r.par.items.flatMap s.itemBytes
          if crcOf crc32 data ≠ r.crc then out.hostFail i hostSource
          else (out.sendData p i (resendHead r.head) data).countPort p pcResent

/-- Records kept for a port's streams. -/
def State.recordsOn (s : State) (p : Nat) : Nat := (s.hostOn p).foldl (fun a i => a + (s.stream i).recs.length) 0

/-- A stream that may send a new data parcel on port p (R351, R356). -/
def State.canSendNew (s : State) (p i : Nat) : Bool :=
  let x := s.stream i
  x.failed.isNone && !x.outQ.isEmpty && s.shaperOk i && decide (s.recordsOn p < 65536)

/-- WEIGHT of a stream's profile; 1 for profile 0. -/
def State.weightOf (s : State) (i : Nat) : Nat :=
  let k := eShaper (s.stream i).entry
  if k = 0 then 1 else bits (s.obj (Reg.shaperProfile k)) 52 48

/-- The stream served next by the round-robin of port p, and the parcels it may send after this one. -/
def State.nextStream (s : State) (p : Nat) : Option (Nat × Nat) :=
  let x := s.port p
  let l := (s.hostOn p).filter (s.canSendNew p)
  if 0 < x.turn ∧ l.contains x.cursor then some (x.cursor, x.turn - 1)
  else ((l.find? (fun i => decide (x.cursor < i))).orElse (fun _ => l.head?)).map (fun i => (i, s.weightOf i - 1))

/-- The first new data parcel of stream i goes out, and a record of it is kept. -/
def State.sendNew (s : State) (p i turn : Nat) : State :=
  let x := s.stream i
  match x.outQ with
  | [] => s
  | par :: rest =>
    let s := s.setPort p { s.port p with cursor := i, turn := turn }
    let ride := (s.hostOn p).find? (fun j => (s.stream j).due && !s.mustControl j && ePeerIp (s.stream j).entry == ePeerIp x.entry)
    let head := parcelHeader 0x41 false (eFarStream x.entry) par.psn par.offset par.data.length par.jobTag par.revision par.token
      (ride.map s.feedbackOf)
    let x := { x with outQ := rest, recs := x.recs ++ [{ par := par, head := head, crc := crcOf crc32 par.data }], parcelsOut := x.parcelsOut + 1 }
    let s := (s.setStream i x).sendData p i head par.data
    match ride with
    | some j => s.feedbackSent j
    | none => s

/-- The stream of port p whose attempt was made first and still has parcels to send. -/
def State.resendStream (s : State) (p : Nat) : Option Nat :=
  let l := (s.hostOn p).filter (fun i => !(s.stream i).resendQ.isEmpty && (s.stream i).failed.isNone && s.shaperOk i)
  match l with
  | [] => none
  | a :: r => some (r.foldl (fun b i => if (s.stream i).attemptAt < (s.stream b).attemptAt then i else b) a)

/-- A ring parcel goes out; the IPv6 address of the neighbour is in no register (DEDUCED, log entry 52). -/
def State.sendRing (s : State) (p : Nat) : State :=
  let x := s.port p
  match x.ringQ with
  | [] => s
  | q :: r =>
    let (v, s) := s.takeFree
    (s.setPort p { s.port p with ringQ := r }).sendFrame p 0 (bytesBE 16 (v % 2 ^ 128)) q

/-- A port sends its next frame (R356). -/
def State.sendNext (s : State) (p : Nat) : State :=
  if !(s.port p).ringQ.isEmpty then s.sendRing p
  else match (s.hostOn p).find? s.mustControl with
    | some i => s.sendControl p i
    | none => match s.resendStream p with
      | some i => s.resendOne p i
      | none => match s.nextStream p with
        | some (i, turn) => s.sendNew p i turn
        | none => match s.dueStream p with
          | some i => s.sendControl p i
          | none => s

def execHostFrameSend (t : Nat) (p : Fin 16) (s0 : State) : Result :=
  let s := s0.tick t
  if (s.port p.val).up then .next (s.sendNext p.val) else .next s

end Sys2Proof.Machine
end

