-- ==== Sys2Proof/Machine/Accum.lean ====
section
/-! DEFINITION. Exact accumulation: products, the 192-bit window, partials and their combination
(04_tensor_arithmetic.md, R75-R92). A partial is a `Val` whose magnitude has its leading 1 at bit 185; its
anchor is A = e + 185. -/
namespace Sys2Proof

/-- The exact value 1 that a SUM operand is multiplied by. -/
def Val.one : Val := .fin false (2 ^ 63) (-63) false

/-- Normalization of a signed window sum whose bit 185 weighs 2^top (R81). -/
def normalize (acc : Int) (top : Int) (sticky : Bool) : Val :=
  if acc = 0 then .cancel sticky
  else
    let mag := acc.natAbs
    let k := bitLen mag
    if 186 < k then
      let s := k - 186
      .fin (decide (acc < 0)) (mag / 2 ^ s) (top - 185 + s) (sticky || mag % 2 ^ s != 0)
    else .fin (decide (acc < 0)) (mag * 2 ^ (186 - k)) (top - 185 - (186 - k : Int)) sticky

/-- Adding a decoded value to the combination: C is "decoded to W and taken as a partial" (R85). -/
def asPartial : Val → Val
  | .fin neg mag e s => normalize (if neg then -(mag : Int) else mag) (e + 185) s
  | v => v

/-- The operands of a term that is live: both finite and not zero (R79). -/
def liveTerm : Val × Val → Option (Bool × Nat × Int)
  | (.fin na ma ea _, .fin nb mb eb _) => some (na != nb, ma * mb, ea + eb)
  | _ => none

/-- The term has an infinity or a NaN for an operand (R89). -/
def termSpecial (t : Val × Val) : Bool := t.1.isSpecial || t.2.isSpecial

def Val.isNan : Val → Bool
  | .nan _ _ _ => true | _ => false

def Val.isSnan : Val → Bool
  | .nan _ _ s => s | _ => false

def Val.isZero : Val → Bool
  | .zero _ => true | .cancel _ => true | _ => false

/-- The sign of a value, as far as a product needs it. -/
def Val.negative : Val → Bool
  | .zero n => n | .cancel _ => false | .fin n _ _ _ => n | .inf n => n | .nan n _ _ => n

/-- The term multiplies a zero by an infinity (R89). -/
def zeroTimesInf (t : Val × Val) : Bool :=
  match t.1, t.2 with
  | .inf _, b => b.isZero
  | a, .inf _ => a.isZero
  | _, _ => false

/-- The sign of an infinite product. -/
def infTerm (t : Val × Val) : Option Bool :=
  match t.1, t.2 with
  | .inf n, b => if b.isZero || b.isNan then none else some (n != b.negative)
  | a, .inf n => if a.isZero || a.isNan then none else some (n != a.negative)
  | _, _ => none

/-- The partial of a group that has special terms, and whether INVALID is raised (R89). -/
def specialGroup (ts : List (Val × Val)) : Val × Bool :=
  let snan := ts.any (fun t => t.1.isSnan || t.2.isSnan)
  let nan := ts.any (fun t => t.1.isNan || t.2.isNan)
  let zi := ts.any zeroTimesInf
  let pos := ts.any (fun t => infTerm t == some false)
  let neg := ts.any (fun t => infTerm t == some true)
  let inv := snan || zi || (pos && neg)
  if nan || zi || (pos && neg) then (.qnan, inv) else (.inf neg, inv)

/-- The top of a group: the largest top among its live terms (R79). A product ma × mb × 2^(ea + eb) of two normal
significands has top ea + eb + 127 (R77). -/
def groupTop (l : Bool × Nat × Int) (ls : List (Bool × Nat × Int)) : Int := ls.foldl (fun m t => max m (t.2.2 + 127)) (l.2.2 + 127)

/-- A live term in the window whose bit 185 weighs 2^top: its truncated magnitude, and whether a bit is dropped (R79). -/
def windowTerm (top : Int) (t : Bool × Nat × Int) : Nat × Bool :=
  let pos := t.2.2 - top + 185
  if 0 ≤ pos then (t.2.1 * 2 ^ pos.toNat, false) else (t.2.1 / 2 ^ (-pos).toNat, t.2.1 % 2 ^ (-pos).toNat != 0)

/-- The window sum of live terms and its sticky bit (R80). -/
def windowSum (top : Int) (ts : List (Bool × Nat × Int)) : Int × Bool :=
  ts.foldl (fun a t =>
    let k := windowTerm top t
    (if t.1 then a.1 - (k.1 : Int) else a.1 + (k.1 : Int), a.2 || k.2)) (0, false)

/-- The partial of one group of at most 32 terms, and whether INVALID is raised (R79, R80, R88, R89). -/
def groupSum (ts : List (Val × Val)) : Val × Bool :=
  if ts.any termSpecial then specialGroup ts
  else match ts.filterMap liveTerm with
    | [] => (.zero (ts.all (fun t => t.1.negative != t.2.negative)), false)
    | l :: ls =>
      let top := groupTop l ls
      let r := windowSum top (l :: ls)
      (normalize r.1 top r.2, false)

/-- ORing a zero's sticky bit into a partial (R82). -/
def addSticky (s : Bool) : Val → Val
  | .fin n m e t => .fin n m e (t || s)
  | .cancel t => .cancel (t || s)
  | v => v

/-- The combination of two partials, and whether INVALID is raised (R82, R88, R89). -/
def combine (p q : Val) : Val × Bool :=
  match p, q with
  | .nan _ _ _, _ => (.qnan, false)
  | _, .nan _ _ _ => (.qnan, false)
  | .inf a, .inf b => if a = b then (.inf a, false) else (.qnan, true)
  | .inf a, _ => (.inf a, false)
  | _, .inf b => (.inf b, false)
  | .zero a, .zero b => (.zero (a && b), false)
  | .zero _, .cancel s => (.cancel s, false)
  | .cancel s, .zero _ => (.cancel s, false)
  | .cancel s, .cancel t => (.cancel (s || t), false)
  | .zero _, .fin n m e s => (.fin n m e s, false)
  | .fin n m e s, .zero _ => (.fin n m e s, false)
  | .cancel s, v => (addSticky s v, false)
  | v, .cancel s => (addSticky s v, false)
  | .fin na ma ea sa, .fin nb mb eb sb =>
    let e := max ea eb
    let da := (e - ea).toNat
    let db := (e - eb).toNat
    let va : Int := ma / 2 ^ da
    let vb : Int := mb / 2 ^ db
    let sticky := sa || sb || ma % 2 ^ da != 0 || mb % 2 ^ db != 0
    (normalize ((if na then -va else va) + (if nb then -vb else vb)) (e + 185) sticky, false)

/-- LINEAR: from the first group on, in increasing group order (R83). -/
def linear (ps : List (Val × Bool)) : Val × Bool :=
  match ps with
  | [] => (.zero false, false)
  | p :: r => r.foldl (fun a q => let c := combine a.1 q.1; (c.1, a.2 || q.2 || c.2)) p

/-- One level of the tree (R83): neighbours combine, an odd last entry passes on. -/
def treeLevel : List (Val × Bool) → List (Val × Bool)
  | a :: b :: r => (let c := combine a.1 b.1; (c.1, a.2 || b.2 || c.2)) :: treeLevel r
  | l => l

/-- TREE: levels until one partial remains; `fuel` is at least the number of levels. -/
def tree : Nat → List (Val × Bool) → Val × Bool
  | _, [] => (.zero false, false)
  | _, [p] => p
  | 0, p :: _ => p
  | fuel + 1, ps => tree fuel (treeLevel ps)

/-- The combining order of a cue (R83). -/
inductive Order
  | linear | tree
  deriving DecidableEq, Repr

/-- The sum of the terms of one output element, in groups of 32 (R77, R83): the final partial and whether
INVALID is raised. -/
def accumulate (o : Order) (ts : List (Val × Val)) : Val × Bool :=
  let gs := (chunks 32 ts.length ts).map groupSum
  match o with
  | .linear => linear gs
  | .tree => tree gs.length gs

/-- The addend of a tile cue enters last (R85). -/
def withAddend (c : Option Val) (r : Val × Bool) : Val × Bool :=
  match c with
  | none => r
  | some v =>
    let p := combine (asPartial v) r.1
    (p.1, r.2 || p.2 || v.isSnan)

/-- The order of MAX and MIN: −0 lies below +0 (R75). `valLt a b` for values that are no NaN. -/
def valKey : Val → Int × Int × Nat × Bool
  | .zero n => (0, 0, 0, n)
  | .cancel _ => (0, 0, 0, false)
  | .fin n m e _ => (if n then -1 else 1, (bitLen m : Int) + e, m * 2 ^ (256 - bitLen m), n)
  | .inf n => (if n then -2 else 2, 0, 0, n)
  | .nan _ _ _ => (0, 0, 0, false)

def valLt (a b : Val) : Bool :=
  let x := valKey a
  let y := valKey b
  if x.1 ≠ y.1 then decide (x.1 < y.1)
  else if x.1 = 0 then x.2.2.2 && !y.2.2.2
  else
    let lt := decide (x.2.1 < y.2.1) || (x.2.1 == y.2.1 && decide (x.2.2.1 < y.2.2.1))
    let gt := decide (y.2.1 < x.2.1) || (x.2.1 == y.2.1 && decide (y.2.2.1 < x.2.2.1))
    if x.1 < 0 then gt else lt

/-- MAX and MIN: the largest or smallest operand; any NaN gives the canonical NaN, INVALID only for a
signalling one (R75). -/
def extremum (wantMax : Bool) : List Val → Val × Bool
  | [] => (.zero false, false)
  | v :: vs =>
    let inv := (v :: vs).any Val.isSnan
    if (v :: vs).any Val.isNan then (.qnan, inv)
    else (vs.foldl (fun m x => if (if wantMax then valLt m x else valLt x m) then x else m) v, inv)

/-- ABS: the value with its sign cleared. -/
def absVal : Val → Val
  | .zero _ => .zero false
  | .cancel s => .cancel s
  | .fin _ m e s => .fin false m e s
  | .inf _ => .inf false
  | .nan _ p s => .nan false p s

/-- The kind of a special value: 0 NaN, 1 +∞, 2 −∞ (Table 4.7 FIRST_KIND). -/
def Val.kind : Val → Option Nat
  | .nan _ _ _ => some 0
  | .inf n => some (if n then 2 else 1)
  | _ => none

/-- The final partial of an element had sticky = 1 (Table 4.7 WINDOW_LOSS). -/
def Val.sticky : Val → Bool
  | .cancel s => s
  | .fin _ _ _ s => s
  | _ => false

/-- One output element as a special-value record sees it: its row and column in the tile, its final
partial, and what its delivered code means (R99). -/
structure TileElem where
  row : Nat
  col : Nat
  part : Val
  out : Val
  deriving DecidableEq, Repr

/-- The kind of a special element: that of its partial when the partial is special, else that of its
delivered code (R99). -/
def TileElem.kind (x : TileElem) : Option Nat :=
  match x.part.kind with
  | some k => some k
  | none => x.out.kind

/-- Some element shows kind `k` at either point (R99). -/
def hasKind (k : Nat) (xs : List TileElem) : Bool :=
  xs.any (fun x => x.part.kind == some k || x.out.kind == some k)

/-- The first special element: smallest row, then smallest column (R99). -/
def firstSpecial (xs : List TileElem) : Option TileElem :=
  xs.foldl (fun a x => if x.kind = none then a else match a with
    | none => some x
    | some y => if x.row < y.row ∨ (x.row = y.row ∧ x.col < y.col) then some x else some y) none

/-- The special-value record of one output tile (Table 4.7). -/
def tileRecord (index : Nat) (recomputed retried : Bool) (xs : List TileElem) : Nat :=
  let f := firstSpecial xs
  let kind := match f with
    | some x => x.kind.getD 0
    | none => 0
  let row := match f with
    | some x => x.row
    | none => 0
  let col := match f with
    | some x => x.col
    | none => 0
  let count := xs.countP (fun x => x.kind != none)
  b2n f.isSome + 2 * b2n (hasKind 0 xs) + 4 * b2n (hasKind 1 xs) + 8 * b2n (hasKind 2 xs)
    + 2 ^ 4 * kind + 2 ^ 8 * (row % 64) + 2 ^ 16 * (col % 64) + 2 ^ 24 * (count % 8192)
    + 2 ^ 40 * b2n (xs.any (fun x => x.part.sticky)) + 2 ^ 41 * b2n recomputed + 2 ^ 42 * b2n retried
    + 2 ^ 48 * (index % 65536)

/-! ### Residue checks (R93, R94) -/

/-- Residue modulo 7. -/
def residue7 (v : Int) : Nat := (v % 7).toNat

/-- The weight modulo 7 of window bit j: 1, 2 or 4, since 2³ leaves 1 (R93). -/
def weight7 (j : Int) : Int := 2 ^ (j % 3).toNat

/-- What one check compares: the window's value and the residue that the predictor forms beside it. The special-value
path has no window: it runs twice and the results are compared (R93). -/
structure Window where
  value : Int
  predicted : Nat
  special : Bool
  deriving DecidableEq, Repr

/-- The check fails when the hardware's window stands off the true value by `error`; on the special-value path, when the
two runs differ (R93). -/
def Window.mismatch (w : Window) (error : Int) : Bool :=
  if w.special then error != 0 else residue7 (w.value + error) != w.predicted

/-- The special-value path. -/
def Window.twice : Window := ⟨0, 0, true⟩

/-- What the predictor makes of a magnitude whose bit 0 stands at window bit `pos`, from the magnitude's residue and
that of the bits that drop out (R93). -/
def predict (neg : Bool) (residue : Int) (mag : Nat) (pos : Int) : Int :=
  let dropped := if 0 ≤ pos then 0 else mag % 2 ^ (-pos).toNat
  (if neg then -1 else 1) * ((residue - (dropped % 7 : Nat)) * weight7 pos)

/-- A live term with the residue of its product, formed from the operands' significands without the multiplier (R93). -/
def liveResidue : Val × Val → Option ((Bool × Nat × Int) × Int)
  | t@(.fin _ ma _ _, .fin _ mb _ _) => (liveTerm t).map (fun l => (l, ((ma % 7 : Nat) : Int) * (mb % 7 : Nat)))
  | _ => none

/-- The check at the end of a group (R93). -/
def groupWindow (ts : List (Val × Val)) : Window :=
  if ts.any termSpecial then .twice
  else match ts.filterMap liveResidue with
    | [] => ⟨0, 0, false⟩
    | l :: ls =>
      let top := groupTop l.1 (ls.map Prod.fst)
      ⟨(windowSum top (ts.filterMap liveTerm)).1,
       residue7 (((l :: ls).map (fun t => predict t.1.1 t.2 t.1.2.1 (t.1.2.2 - top + 185))).sum), false⟩

/-- A finite partial's sign, magnitude and exponent; none for a zero. -/
def Val.parts : Val → Option (Bool × Nat × Int)
  | .fin n m e _ => some (n, m, e)
  | _ => none

/-- The check after a combination: both partials aligned to the larger anchor (R82, R93). -/
def combineWindow (p q : Val) : Window :=
  if p.isSpecial || q.isSpecial then .twice
  else match p.parts.toList ++ q.parts.toList with
    | [] => ⟨0, 0, false⟩
    | x :: l =>
      let e := l.foldl (fun m y => max m y.2.2) x.2.2
      ⟨((x :: l).map (fun y => (if y.1 then -1 else 1) * ((y.2.1 / 2 ^ (e - y.2.2).toNat : Nat) : Int))).sum,
       residue7 (((x :: l).map (fun y => predict y.1 (y.2.1 % 7 : Nat) y.2.1 (y.2.2 - e))).sum), false⟩

/-- The check after the normalization of a window sum (R81, R93). -/
def normalizeWindow (w : Window) : Window :=
  if w.special then .twice
  else
    let mag := w.value.natAbs
    let pos : Int := 186 - bitLen mag
    ⟨((if 0 ≤ pos then mag * 2 ^ pos.toNat else mag / 2 ^ (-pos).toNat : Nat) : Int),
     residue7 (predict false (mag % 7 : Nat) mag pos), false⟩

/-- The pairs that combine at each level, level 1 first: under LINEAR group j enters at level j (R83), and a group's own
normalization counts as level 0, since R101 numbers levels for TREE alone (DESIGN CHOICE, log entry 138). -/
def linearPairs : Val × Bool → List (Val × Bool) → List (List (Val × Val))
  | _, [] => []
  | a, p :: r => let c := combine a.1 p.1
    [(a.1, p.1)] :: linearPairs (c.1, c.2) r

def pairsOf : List (Val × Bool) → List (Val × Val)
  | a :: b :: r => (a.1, b.1) :: pairsOf r
  | _ => []

def treePairs : Nat → List (Val × Bool) → List (List (Val × Val))
  | fuel + 1, a :: b :: r => pairsOf (a :: b :: r) :: treePairs fuel (treeLevel (a :: b :: r))
  | _, _ => []

/-- The addend combines at a level of its own, after the groups (R85). DESIGN CHOICE, log entry 119. -/
def levelPairs (o : Order) (gs : List (Val × Bool)) (addend : Option Val) : List (List (Val × Val)) :=
  let inner := match o, gs with
    | .linear, p :: r => linearPairs p r
    | .linear, [] => []
    | .tree, ps => treePairs ps.length ps
  let whole := match o with
    | .linear => linear gs
    | .tree => tree gs.length gs
  inner ++ (addend.map (fun v => [(asPartial v, whole.1)])).toList

/-- The check that a fault names, in the sum of one output element: of group `level`, or of combination `nth` of
level `level`, or of the normalization behind either; level 0 of a normalization is that of group `nth`. -/
def checkOf (o : Order) (groups : List (List (Val × Val))) (addend : Option Val) (f : CellFault) : Option Window :=
  let pair (l : Nat) : Option Window :=
    ((levelPairs o (groups.map groupSum) addend)[l]?.bind (fun ps => ps[f.nth]?)).map (fun p => combineWindow p.1 p.2)
  match f.place, f.level.toNat with
  | .group, g => groups[g]?.map groupWindow
  | .combination, l + 1 => pair l
  | .normalization, 0 => groups[f.nth]?.map (fun g => normalizeWindow (groupWindow g))
  | .normalization, l + 1 => (pair l).map normalizeWindow
  | .combination, 0 => none

end Sys2Proof
end

