-- ==== Sys2Proof/Machine/Operands.lean ====
section
/-! DEFINITION. The operand forms of tensor cues: where each element of a plane, of a scalar list, of a row of A
or of a column of B lies, and the areas that a cue of each class reads and writes (R59, R78, R98, R109, R144,
R158, R192, R205). -/
namespace Sys2Proof.Machine

/-- A number rounded up to a multiple of 64. -/
def up64 (n : Nat) : Nat := ceilDiv n 64 * 64

/-- Element i of a tensor of format f at address a (R57, R59, R63). -/
def State.val (s : State) (f : Fmt) (a i : Nat) : Val := elemVal f (fun k => (readByte s.mem (a + k)).toNat) i

/-- Format of a cue's field; a sealed sheet names no reserved code (R50). -/
def fmtD (code : Nat) : Fmt := (fmtOf code).getD .e16

/-- Rounding attribute of a cue; a sealed sheet names no reserved one (R65). -/
def rndD (code : Nat) : Rnd := (rndOf code).getD .rne

/-- The combining order of a cue (R83). -/
def orderOf (c : Cue) : Order := if cOrder c = 1 then .tree else .linear

/-- M × N of a cue. -/
def cCount (c : Cue) : Nat := cM c * cN c

def cAScalar (c : Cue) : Bool := bit (cArg c) 5
def cBScalar (c : Cue) : Bool := bit (cArg c) 6

/-- Bytes between the planes of a vector operand (Table 5.5). -/
def planeStride (f : Fmt) (n : Nat) : Nat := up64 (storageBytes f n)

/-- Term t of a vector operand for output element i (R75, Table 5.5). -/
def State.vectorOperand (s : State) (f : Fmt) (a n : Nat) (scalar : Bool) (t i : Nat) : Val :=
  if scalar then s.val f a t else s.val f (a + t * planeStride f n) i

/-- Bytes of a vector operand of k terms. -/
def vectorBytes (f : Fmt) (n k : Nat) (scalar : Bool) : Nat :=
  if scalar then storageBytes f k else (k - 1) * planeStride f n + storageBytes f n

/-- Row m of A at reduction index k (R78); A lies row by row (DESIGN CHOICE, log entry 70). -/
def State.tileA (s : State) (c : Cue) (m k : Nat) : Val := s.val (fmtD (cFmtA c)) (cAddrA c) (m * cK c + k)

/-- Column n of B at reduction index k (R78); B lies column by column (DESIGN CHOICE, log entry 70). -/
def State.tileB (s : State) (c : Cue) (n k : Nat) : Val := s.val (fmtD (cFmtB c)) (cAddrB c) (n * cK c + k)

/-- Output tiles of a cue (R98). -/
def tileTotal (c : Cue) : Nat :=
  if cUnit c = uTile then ceilDiv (cM c) 64 * ceilDiv (cN c) 64 else ceilDiv (cCount c) 4096

/-- Tile, row and column of output element i (R98). -/
def tilePlace (c : Cue) (i : Nat) : Nat × Nat × Nat :=
  if cUnit c = uTile then
    let m := i / cN c
    let n := i % cN c
    (m / 64 * ceilDiv (cN c) 64 + n / 64, m % 64, n % 64)
  else (i / 4096, i % 4096 / 64, i % 64)

/-- The vector operations that accumulate (R75). -/
def vAccumulates (vop : Nat) : Bool := vop == 0 || vop == 1

/-! ### Areas, as address and length -/

/-- Slot stride of a COLLECTIVE cue (R144). -/
def landingStride (c : Cue) : Nat := up64 (64 + storageBytes (fmtD (cFmtA c)) (cCount c))

/-- Stretch of one side of a MOVE cue (R205). -/
def moveBytes (c : Cue) (stride : Nat) : Nat := (cM c - 1) * (if stride = 0 then cN c else stride) + cN c

/-- Where run r of a DECOMPRESS cue begins, and where its values go (Table 8.5). -/
def runBlocks (c : Cue) (r : Nat) : Nat := cAddrA c + (cK c - 1) + r * (cAddrB c - cAddrA c)
def runValues (c : Cue) (r : Nat) : Nat := cAddrOut c + r * (cAddrAux c - cAddrOut c)

/-- OP of an OPTIMIZER cue, its program and its block length (Table 7.5). -/
def oOp (c : Cue) : Nat := bits (cArg c) 5 4
def oProgram (c : Cue) : Nat := bits (cArg c) 3 0
def oBlock (c : Cue) : Nat := 64 * 2 ^ bits (cArg c) 8 6
def isUpdate (c : Cue) : Bool := cUnit c == uOptimizer && oOp c == 0

/-- Values of the short side of SKETCH and UNSKETCH (R171). -/
def sketchShort (c : Cue) : Nat := cCount c / oBlock c * cK c

/-- What a cue reads, its landing slots and state planes apart. -/
def readAreas (c : Cue) : List (Nat × Nat) :=
  let n := cCount c
  let u := cUnit c
  if u = uTile then
    [(cAddrA c, storageBytes (fmtD (cFmtA c)) (cM c * cK c)), (cAddrB c, storageBytes (fmtD (cFmtB c)) (cN c * cK c))]
      ++ (if cAuxEn c then [(cAddrAux c, storageBytes (fmtD (cFmtAux c)) n)] else [])
  else if u = uVector then
    (cAddrA c, vectorBytes (fmtD (cFmtA c)) n (cK c) (cAScalar c))
      :: (if cVop c = 0 then [(cAddrB c, vectorBytes (fmtD (cFmtB c)) n (cK c) (cBScalar c))] else [])
  else if u = uCollective then
    if cAuxEn c then [(cAddrAux c, 64 + storageBytes (fmtD (cFmtAux c)) n)] else []
  else if u = uOptimizer then
    if oOp c = 0 then [(cAddrA c, (cK c - 1) * up64 (2 * n) + 2 * n)]
    else [(cAddrA c, storageBytes (fmtD (cFmtA c)) (if oOp c = 1 then n else sketchShort c))]
  else if u = uCompress then [(cAddrA c, storageBytes (fmtD (cFmtA c)) (64 * cM c))]
  else if u = uDecompress then (List.range (cN c)).map (fun r => (runBlocks c r, 89 * cM c))
  else if u = uHostOut ∨ u = uLineOut ∨ u = uCheck then [(cAddrA c, n)]
  else []

/-- What a cue writes, its landing slots and state planes apart: results and flag area. -/
def writeAreas (c : Cue) : List (Nat × Nat) :=
  let n := cCount c
  let u := cUnit c
  let out := storageBytes (fmtD (cFmtOut c))
  if u = uTile ∨ u = uVector then [(cAddrOut c, out n), (cAddrFlag c, 8 * tileTotal c)]
  else if u = uCollective then [(cAddrOut c, up64 (64 + out n)), (cAddrFlag c, 8 * ceilDiv n 4096)]
  else if u = uOptimizer then
    let m := if oOp c = 1 then sketchShort c else n
    [(cAddrOut c, out m), (cAddrFlag c, 8 * ceilDiv m 4096)]
  else if u = uCompress then [(cAddrOut c + cK c - 1, 89 * cM c)]
  else if u = uDecompress then (List.range (cN c)).map (fun r => (runValues c r, out (64 * cM c)))
  else if u = uHostIn ∨ u = uLineIn then [(cAddrOut c, n)]
  else if u = uCheck then [(cAddrOut c, 64)]
  else []

/-- Some byte of some area is poisoned. -/
def State.anyPoison (s : State) (as : List (Nat × Nat)) : Bool := as.any (fun a => s.isPoisoned a.1 a.2)

/-- The poison of the areas is recorded as read by a cue (R200). -/
def State.notePoisons (s : State) (as : List (Nat × Nat)) : State :=
  as.foldl (fun u a => u.notePoison a.1 a.2 3) s

end Sys2Proof.Machine
end

