-- ==== Sys2Proof/Machine/Flags.lean ====
section
/-! DEFINITION. The conversion flags a cue gathers (R72, R90, R182), and its special-value records (R98-R100,
R166). -/
namespace Sys2Proof.Machine

/-- INVALID where some element raised it while its sum was formed (R89). -/
def invalidIf (b : Bool) : Nat := if b then flagInvalid else 0

/-- One step's result: the final partial and whether INVALID was raised. -/
abbrev Formed := Val × Bool

/-- A run of formed results in memory: bytes, codes with their block scales, and flags (R64, R86, R90). -/
def deliverFormed (f : Fmt) (c : Cue) (rs : List Formed) : List Byte × List (Nat × Nat) × Nat :=
  let d := deliverAll f (rndD (cRnd c)) (cSat c) (rs.map Prod.fst)
  (d.1, d.2.1, d.2.2 ||| invalidIf (rs.any Prod.snd))

/-- The elements of one tile, from the results and their delivered codes in tensor order (R99). -/
def tileElems (f : Fmt) (place : Nat → Nat × Nat × Nat) (tile : Nat) (rs : List Formed) (codes : List (Nat × Nat)) : List TileElem :=
  let all := (rs.zip codes).mapIdx (fun i p => (place i, p))
  (all.filter (fun x => x.1.1 == tile)).map (fun x =>
    { row := x.1.2.1, col := x.1.2.2, part := x.2.1.1, out := deliveredVal f x.2.2.1 x.2.2.2 })

/-- Fields of a special-value record (Table 4.7). -/
def recSpecial (r : Nat) : Bool := bit r 0
def recLoss (r : Nat) : Bool := bit r 40

/-- A record is counted as it is written (Table 4.8). -/
def State.countRecord (s : State) (r : Nat) : State :=
  let s := if recSpecial r then s.bump Reg.specialTiles else s
  if recLoss r then s.bump Reg.windowLossTiles else s

/-- The record of a tile is written into a flag area and counted (R98). -/
def State.writeRecord (s : State) (area tile r : Nat) : State := (s.write (area + 8 * tile) (bytesLE 8 r)).countRecord r

/-- Two records of parts of one tile as the record of both: the first special element is that of the smaller row,
then column (R99). -/
def mergeRecord (a b : Nat) : Nat :=
  let place (r : Nat) : Nat := bits r 13 8 * 64 + bits r 21 16
  let first := if !recSpecial a then b else if !recSpecial b then a else if place a ≤ place b then a else b
  let any (lo hi : Nat) : Nat := bits a hi lo ||| bits b hi lo
  any 0 3 + 2 ^ 4 * bits first 5 4 + 2 ^ 8 * bits first 13 8 + 2 ^ 16 * bits first 21 16
    + 2 ^ 24 * ((bits a 36 24 + bits b 36 24) % 8192) + 2 ^ 40 * any 40 42 + 2 ^ 48 * bits b 63 48

/-- A running cue is changed in place. -/
def State.onRunning (s : State) (pos : Nat) (f : Running → Running) : State :=
  { s with eng := { s.eng with running := s.eng.running.map (fun r => if r.pos = pos then f r else r) } }

/-- The running cue at a position. -/
def State.runningAt (s : State) (pos : Nat) : Option Running := s.eng.running.find? (fun r => r.pos == pos)

/-- Flags join those of a running cue (R72). -/
def State.addFlags (s : State) (pos flags : Nat) : State := s.onRunning pos (fun r => { r with flags := r.flags ||| flags })

/-- A write of FLAGS_ACCUMULATED clears the bits written as 1; bits 7 to 4 are reserved (R10, R132). -/
def State.writeFlagsAccumulated (s : State) (v : Nat) : Status × State :=
  if bits v 7 4 ≠ 0 then (stReservedNonzero, s)
  else
    let old := s.obj Reg.flagsAccumulated
    (stOk, s.setObj Reg.flagsAccumulated (old - (old &&& v)))

def execFlagsAccumulatedClear (t : Nat) (value : Byte) (s0 : State) : Result :=
  .next ((s0.tick t).managed (fun s => s.writeFlagsAccumulated value.toNat))

end Sys2Proof.Machine
end

