-- ==== Sys2Proof/Machine/Engine.lean ====
section
/-! DEFINITION. The cue engine: fetching, the queues' order, barriers, waits, the completion arbiter and its
records (05_cue_sheets.md, R104, R111, R120-R123, R127-R132). -/
namespace Sys2Proof.Machine

/-! ### Positions -/

/-- The position has ended. -/
def Engine.isEnded (e : Engine) (p : Nat) : Bool := decide (p < e.oldest) || tget 0 e.ended p != 0

/-- The position has ended COMPLETE, as far as its status is kept. -/
def Engine.isComplete (e : Engine) (p : Nat) : Bool := tget 0 e.ended p == 1

/-- The first position from p on that has not ended, looking at most `fuel` further. -/
def firstOpen (ended : Tab Nat) : Nat → Nat → Nat
  | 0, p => p
  | fuel + 1, p => if tget 0 ended p = 0 then p else firstOpen ended fuel (p + 1)

/-- Pass c of R134, 0 when the body is empty: that of the oldest open cue, or of the last one that ended while none is open.
-/
def State.currentPass (s : State) (n : Nat) : Nat :=
  let h := s.hdr n
  let of (p : Nat) : Option Nat := (unrolled h p).map (fun q =>
    if q.1 < hLoopStart h then 0 else if q.1 < hLoopEnd h then q.2 else hLoopCount h)
  if hLoopStart h = hLoopEnd h then 0
  else match of s.eng.oldest with
    | some c => c
    | none => (of s.eng.lastEnded).getD 0

/-- First position whose end status is kept (R134). -/
def State.keptFrom (s : State) (n : Nat) : Nat :=
  let c := s.currentPass n
  let h := s.hdr n
  if c = 0 then 0 else hLoopStart h + (c - 1) * (hLoopEnd h - hLoopStart h)

/-- End statuses below the kept stretch are forgotten. -/
def State.forgetEnds (s : State) (n : Nat) : State :=
  let k := s.keptFrom n
  { s with eng := { s.eng with ended := s.eng.ended.filter (fun e => decide (k ≤ e.1)),
                               fetched := s.eng.fetched.filter (fun e => decide (s.eng.oldest ≤ e.1)) } }

/-- The cue engine's look-ahead (R130). -/
abbrev lookAhead : Nat := 16384

/-! ### Completion (R129, R131, R132) -/

/-- Statuses of Table 5.9. -/
abbrev endComplete : Nat := 0
abbrev endAborted : Nat := 1
abbrev endTileFault : Nat := 2
abbrev endDamaged : Nat := 3
abbrev endStreamFailed : Nat := 4

/-- A completion record (Table 5.8). -/
def completionWord (idx status iter flags tag revision dispatched ended : Nat) : Nat :=
  idx + 2 ^ 24 * status + 2 ^ 32 * iter + 2 ^ 64 * flags + 2 ^ 80 * tag + 2 ^ 96 * revision
    + 2 ^ 128 * dispatched + 2 ^ 192 * ended

/-- The record goes into the completion ring in device memory (R131, R132). -/
def State.writeCompletion (s : State) (n r : Nat) : State :=
  let h := s.hdr n
  let slot := s.obj Reg.completionWriteSeq % 2 ^ hRingLog2 h
  let rings := match s.eng.rings with
    | [] => []
    | x :: rest => { x with count := x.count + 1 } :: rest
  (State.write { s with eng := { s.eng with rings := rings } } (hRingBase h + 32 * slot) (bytesLE 32 r)).bump Reg.completionWriteSeq

/-- The completion token: local signals, and the remote token in its stream's queue (R123, R129). -/
def State.issueToken (s : State) (c : Cue) : State :=
  let s := if cSig0N c = 0 then s else s.addTokens (cSig0Obj c) (cSig0N c)
  let s := if cSig1N c = 0 then s else s.addTokens (cSig1Obj c) (cSig1N c)
  if cRemoteEn c then s.push (cTokenStream c) [.token (cRemoteObj c) (cRemoteN c)] else s

/-- The engine parks at a HANDOVER that completes under an armed sheet (R116), and stops once every cue of a
finite order has ended (R118). DEDUCED, log entry 98. -/
def State.parkOrStop (s : State) (n : Nat) (c : Cue) (status : Nat) : State :=
  let s := if isHandover c && status == endComplete && s.armed.isSome && s.engState == engRunning then
    s.setObj Reg.cueEngineState engParked else s
  if unrolledLength (s.hdr n) = some s.eng.oldest then s.setObj Reg.cueEngineState engStopped else s

/-- One call of the arbiter, which also ends what a complete cue has read of the landing regions (R23): position p of the
active sheet in slot n ends (R129). `time` is the network time of its dispatch, 0 if it never was. -/
def State.finish (s : State) (n p status flags time : Nat) : State :=
  match s.posCue n p with
  | none => s
  | some (c, idx, iter) =>
    let regions := if status = endComplete then
        (s.eng.regions.map (fun g => { g with readers := g.readers.erase p })).filter (fun g => !g.readers.isEmpty)
      else s.eng.regions.filter (fun g => g.pos != p)
    let flags := if status = endComplete then flags else 0
    let s := if status = endComplete then s.issueToken c else s
    let e := s.eng
    let ended := tset 0 e.ended p (status + 1)
    let e := { e with ended := ended, regions := regions, running := e.running.filter (fun r => r.pos != p),
                      taken := e.taken.filter (fun x => x != p), takenAt := tset 0 e.takenAt p 0, marks := e.marks.filter (fun x => x != p),
                      oldest := firstOpen ended (ended.length + 1) e.oldest, lastEnded := p,
                      wall := if isBarrier c && status != endComplete then some (min p (e.wall.getD p)) else e.wall }
    let s := { s with eng := e }
    let s := if cRecordEn c || status != endComplete then
      s.writeCompletion n (completionWord idx status iter flags (cTag c) (hRevision (s.hdr n)) time s.net) else s
    let s := s.bump (if status = endComplete then Reg.cuesCompleted else if status = endAborted then Reg.cuesAborted else Reg.cuesFailed)
    let s := s.setObj Reg.flagsAccumulated (s.obj Reg.flagsAccumulated ||| flags)
    let s := if status = endComplete then s
      else if status = endDamaged then s.event 0x5004 (idx + 2 ^ 32 * iter) 0
      else s.event 0x5005 (idx + 2 ^ 32 * iter) status
    (s.parkOrStop n c status).forgetEnds n

/-! ### Queues (R127, R128) -/

/-- Every barrier before position p has completed (R128). -/
def State.released (s : State) (n p : Nat) : Bool :=
  (match s.eng.wall with
    | some w => decide (p ≤ w)
    | none => true)
  && (List.range (p - s.eng.oldest)).all (fun k =>
    let b := s.eng.oldest + k
    match s.posCue n b with
    | some (c, _) => !isBarrier c || s.eng.isComplete b
    | none => true)

/-- The next position of queue q among those that have been read, looking at most `fuel` further. -/
def State.seek (s : State) (n q : Nat) : Nat → Nat → Option Nat
  | 0, _ => none
  | fuel + 1, p =>
    if s.eng.fetchedTo ≤ p then none
    else match s.posCue n p with
      | some (c, _) => if queueOf c = q then some p else State.seek s n q fuel (p + 1)
      | none => none

/-- The position queue q takes next. -/
def State.nextOf (s : State) (n q : Nat) : Option Nat :=
  let p := max (tget 0 s.eng.qpos q) s.eng.oldest
  s.seek n q (s.eng.fetchedTo - p) p

/-- Queue q has passed position p. A collective group counts its cues (R145). -/
def State.passed (s : State) (q p : Nat) : State :=
  let e := s.eng
  let inst := if 8 ≤ q ∧ q < 520 then tset 0 e.instances (q - 8) (tget 0 e.instances (q - 8) + 1) else e.instances
  { s with eng := { e with qpos := tset 0 e.qpos q (p + 1), instances := inst } }

/-- Both waits of a cue can be taken (R120). -/
def State.waitsMet (s : State) (c : Cue) : Bool :=
  let a := s.sync (cWait0Obj c)
  let b := s.sync (cWait1Obj c)
  if cWait0N c = 0 then cWait1N c == 0 || decide (cWait1N c ≤ b)
  else if cWait1N c = 0 then decide (cWait0N c ≤ a)
  else if cWait0Obj c = cWait1Obj c then decide (cWait0N c + cWait1N c ≤ a)
  else decide (cWait0N c ≤ a) && decide (cWait1N c ≤ b)

/-- Both amounts are taken in one step (R120). -/
def State.takeWaits (s : State) (c : Cue) : State :=
  let s := if cWait0N c = 0 then s else s.setSync (cWait0Obj c) (s.sync (cWait0Obj c) - cWait0N c)
  if cWait1N c = 0 then s else s.setSync (cWait1Obj c) (s.sync (cWait1Obj c) - cWait1N c)

/-- What the queue finds when it reaches position p: it is not released, or lies too far ahead, or is not read
well, or it ends there without running, or it may run. -/
inductive Reached
  | wait | ends (status : Nat) | run
  deriving DecidableEq, Repr

def State.reach (s : State) (n p : Nat) : Reached :=
  if s.eng.oldest + lookAhead < p ∨ s.released n p = false then .wait
  else if tget 0 s.eng.fetched p = 2 then .wait
  else if s.eng.marks.contains p then .ends endAborted
  else if tget 0 s.eng.fetched p = 3 then .ends endDamaged
  else .run

/-- The engine dispatches: a sheet is RUNNING and the module is READY (R438). -/
def State.dispatching (s : State) : Bool := s.engState == engRunning && s.modState == modReady

/-! ### Fetching (R111, R130) -/

/-- CUE_CRC of a cue of the sheet (R111). -/
def cueCrcGood (bytes : List Byte) : Bool := crcOf crc8Cue (bytes.take 63) == (bytes.getD 63 0#8).toNat

/-- Where cue idx of slot n's sheet stands. -/
def State.cueAddr (s : State) (n idx : Nat) : Nat := slotBase n + hCueOffset (s.hdr n) + 64 * idx

/-- The bytes of cue idx read as the sheet's, and not as poison (Table 9.2). -/
def State.cueReadsWell (s : State) (n idx : Nat) : Bool :=
  cueCrcGood (s.read (s.cueAddr n idx) 64) && !s.isPoisoned (s.cueAddr n idx) 64

/-- The cue engine fetches cue idx: whether it reads well; poison it meets is recorded (R111, R200). -/
def State.fetchCue (s : State) (n idx : Nat) : Bool × State :=
  (s.cueReadsWell n idx, s.notePoison (s.cueAddr n idx) 64 1)

/-- The positions of one page read from position p on: those of the same page of 1,024 cues, one after another. -/
def pagePositions (h p : Nat) : List Nat :=
  match unrolled h p with
  | none => []
  | some (i, _) =>
    ((List.range (1024 - i % 1024)).map (fun k => p + k)).takeWhile (fun x =>
      (unrolled h x).map Prod.fst == some (i + (x - p)))

/-- A page read completes; `bad` are the positions whose bytes arrived damaged. -/
def execCuePageFetch (t : Nat) (bad : List Nat) (s0 : State) : Result :=
  let s := s0.tick t
  match s.active with
  | none => .next s
  | some n =>
    let p := s.eng.fetchedTo
    let ps := pagePositions (s.hdr n) p
    let idx (x : Nat) : Nat := ((unrolled (s.hdr n) x).map Prod.fst).getD 0
    if s.engState ≠ engRunning ∨ s.eng.oldest + lookAhead ≤ p ∨ s.held (ps.map (fun x => (s.cueAddr n (idx x), 64))) then .next s
    else
      .next (ps.foldl (fun u x =>
        let (well, u) := u.fetchCue n (idx x)
        let u := { u with eng := { u.eng with fetchedTo := x + 1 } }
        if well && !bad.contains x then u
        else State.bump { u with eng := { u.eng with fetched := tset 0 u.eng.fetched x 2 } } Reg.cueCrcMismatches) s)

end Sys2Proof.Machine
end

