-- ==== Sys2Proof/Machine/Tensor.lean ====
section
/-! DEFINITION. Tensor cells: TILE and VECTOR cues, seeded sketches, residue checks, tile faults and their retries
(04_tensor_arithmetic.md, R74-R102; R170, R171). -/
namespace Sys2Proof.Machine

/-! ### Cells (R93-R97, R102) -/

/-- Cell x is in service (Table 4.8). -/
def State.cellInService (s : State) (x : Nat) : Bool := bit (s.obj Reg.tcInService) x

/-- Cell x runs a cue other than the one at `pos`. -/
def State.cellBusy (s : State) (pos x : Nat) : Bool :=
  s.eng.running.any (fun r => r.pos != pos && (r.cells.contains x || r.onto.contains x))

/-- Cell x can work for the cue at `pos`. -/
def State.cellFree (s : State) (pos x : Nat) : Bool := s.cellInService x && !s.cellBusy pos x

/-- The cells a cue asks for can take it: free, and no more of them than CELLS names (Table 5.5). -/
def State.cellsCanTake (s : State) (pos : Nat) (c : Cue) (cells : List Nat) : Bool :=
  let most := bits (cArg c) 4 0
  !cells.isEmpty && cells.all (s.cellFree pos)
    && (cUnit c == uOptimizer || most == 0 || decide (cells.eraseDups.length ≤ most))

/-- A mismatch whose recompute passes (R94, Table 17.3). -/
def State.recompute (s : State) (pos cell tile : Nat) : State :=
  ((s.bump Reg.residueMismatches).points (element 6 cell) 100).onRunning pos (fun r => { r with recomputed := tile :: r.recomputed })

/-- LAST_TILE_FAULT (Table 4.9). -/
def tileFaultWord (cell idx group : Nat) (comb : Bool) : Nat :=
  cell + 2 ^ 8 * idx + 2 ^ 32 * (group % 65536) + 2 ^ 48 * b2n comb + 2 ^ 49

/-- A share waits for a retry while no cell is in service: its cue ends TILE_FAULT (R95). -/
def State.failWaiting (s : State) : State :=
  if s.obj Reg.tcInService ≠ 0 then s
  else s.eng.running.foldl (fun u r => if r.waiting.isEmpty then u else u.doom r.pos endTileFault) s

/-- A second mismatch on the same check: the cell leaves service and its share waits for a retry, or the cue
ends TILE_FAULT when this was the retry or no cell is left (R95, R97, Table 17.3). The recompute that failed sets no
RECOMPUTED: R94 tells of it after the one that passes (DEDUCED, log entry 93). -/
def State.tileFault (s : State) (pos cell group : Nat) (comb retry : Bool) : State :=
  let idx := match s.runningAt pos with
    | some r => r.idx
    | none => 0
  let s := ((s.bumpBy Reg.residueMismatches 2).bump Reg.tileFaults).setObj Reg.tcInService (setBit (s.obj Reg.tcInService) cell false)
  let s := s.setObj Reg.lastTileFault (tileFaultWord cell idx group comb)
  let s := (s.event 0x5006 (s.obj Reg.lastTileFault) 0).failElement (element 6 cell)
  let s := { s with cells := tset 0 s.cells cell 0 }
  let s := if retry then s.doom pos endTileFault
    else s.onRunning pos (fun r => { r with waiting := r.waiting ++ [cell] })
  s.failWaiting

/-- Where the checks of a share of a cue stand: the output tile of the check that a fault names, and what that check
compares; none when no such check is made there. -/
abbrev Checks := CellFault → Option (Nat × Window)

/-- The disturbances that arise in a share, in order, until one of them is a tile fault; whether none was (R93, R94).
What the check does not detect, an error that is a multiple of 7 for the window, goes on unnoticed; its effect on the
result is not modelled (DESIGN CHOICE, log entry 119). -/
def State.residueFaults (s : State) (pos cell : Nat) (retry : Bool) (checks : Checks) : List CellFault → State × Bool
  | [] => (s, true)
  | f :: r => match checks f with
    | none => s.residueFaults pos cell retry checks r
    | some (tile, w) =>
      if !w.mismatch f.error then s.residueFaults pos cell retry checks r
      else if w.mismatch f.again then (s.tileFault pos cell f.level.toNat (f.place != .group) retry, false)
      else State.residueFaults (s.recompute pos cell tile) pos cell retry checks r

/-- The residue checks of one share of a cue, which begins with group `group` of tile `first`. An armed injection falls
on that check (R93-R95, R102). -/
def State.shareChecks (s : State) (pos cell first group : Nat) (retry : Bool) (checks : Checks) (faults : List CellFault) : State × Bool :=
  let inj := tget 0 s.cells cell
  if inj = 2 then (s.tileFault pos cell group false retry, false)
  else
    let s := if inj = 1 then State.recompute { s with cells := tset 0 s.cells cell 0 } pos cell first else s
    s.residueFaults pos cell retry checks faults

/-! ### Sketches (R170, R171) -/

/-- The hash of R170. -/
def sketchHash (sigma x : Nat) : Nat :=
  let m := 2 ^ 64
  let z := (sigma + (x + 1) * 0x9E3779B97F4A7C15) % m
  let z := (z ^^^ (z / 2 ^ 30)) * 0xBF58476D1CE4E5B9 % m
  let z := (z ^^^ (z / 2 ^ 27)) * 0x94D049BB133111EB % m
  z ^^^ (z / 2 ^ 31)

/-- The sign r(j, i) as an exact operand. -/
def sketchSign (sigma j i : Nat) : Val :=
  .fin (bit (sketchHash sigma (j * 1024 + i)) 63) (2 ^ 63) (-63) false

/-- The terms of result value x of SKETCH or UNSKETCH (R171). -/
def State.sketchTerms (s : State) (c : Cue) (sigma x : Nat) : List (Val × Val) :=
  let b := oBlock c
  let k := cK c
  let v := s.val (fmtD (cFmtA c)) (cAddrA c)
  if oOp c = 1 then (List.range b).map (fun i => (sketchSign sigma (x % k) i, v (x / k * b + i)))
  else (List.range k).map (fun j => (sketchSign sigma j (x % b), v (x / b * k + j)))

/-! ### Results (R75-R92) -/

/-- Operand A of a vector cue's term t for result i (R75). -/
def State.vectorA (s : State) (c : Cue) (i t : Nat) : Val :=
  s.vectorOperand (fmtD (cFmtA c)) (cAddrA c) (cCount c) (cAScalar c) t i

/-- The terms of result i of an accumulating cue, in the order of R77: of a dot product or sum, of a tile, or of a
sketch. -/
def State.sumTerms (s : State) (c : Cue) (sigma i : Nat) : List (Val × Val) :=
  if cUnit c = uTile then (List.range (cK c)).map (fun k => (s.tileA c (i / cN c) k, s.tileB c (i % cN c) k))
  else if cUnit c = uVector then (List.range (cK c)).map (fun t => (s.vectorA c i t,
    if cVop c = 0 then s.vectorOperand (fmtD (cFmtB c)) (cAddrB c) (cCount c) (cBScalar c) t i else Val.one))
  else s.sketchTerms c sigma i

/-- The order in which a cue's groups combine (R83, R171). -/
def cueOrder (c : Cue) : Order := if cUnit c = uOptimizer then .linear else orderOf c

/-- The addend of result i of a tile cue (R85). -/
def State.addendOf (s : State) (c : Cue) (i : Nat) : Option Val :=
  if cUnit c = uTile ∧ cAuxEn c then some (s.val (fmtD (cFmtAux c)) (cAddrAux c) i) else none

/-- The cue's sums are checked by residues (R93). -/
def cAccumulates (c : Cue) : Bool := cUnit c != uVector || vAccumulates (cVop c)

/-- Result i before rounding (R75, R77, R85, R171). -/
def State.resultValue (s : State) (c : Cue) (sigma i : Nat) : Formed :=
  if cAccumulates c then withAddend (s.addendOf c i) (accumulate (cueOrder c) (s.sumTerms c sigma i))
  else match cVop c with
    | 2 => extremum true ((List.range (cK c)).map (s.vectorA c i))
    | 3 => extremum false ((List.range (cK c)).map (s.vectorA c i))
    | 4 => (absVal (s.vectorA c i 0), false)
    | _ => (s.vectorA c i 0, false)

/-- Results of a cue that a tensor cell computes in one go. -/
def resultCount (c : Cue) : Nat := if cUnit c = uOptimizer ∧ oOp c = 1 then sketchShort c else cCount c

/-- Tiles of a cue's result. -/
def resultTiles (c : Cue) : Nat := if cUnit c = uOptimizer then ceilDiv (resultCount c) 4096 else tileTotal c

/-- The results and their records are written, and the flags gathered (R90, R98, R100). -/
def State.writeResults (s : State) (pos : Nat) (c : Cue) (sigma : Nat) : State :=
  let rs := (List.range (resultCount c)).map (s.resultValue c sigma)
  let f := fmtD (cFmtOut c)
  let d := deliverFormed f c rs
  let r := (s.runningAt pos).getD { pos := pos, idx := 0, iter := 0, time := 0 }
  let s := s.write (cAddrOut c) d.1
  let s := (List.range (resultTiles c)).foldl (fun u k =>
    u.writeRecord (cAddrFlag c) k
      (tileRecord k (r.recomputed.contains k) (r.retried.contains k) (tileElems f (tilePlace c) k rs d.2.1))) s
  (s.addFlags pos d.2.2).onRunning pos (fun x => { x with done := 1 })

/-- A retry writes its tiles again with the same bits: their records are marked RETRIED (R95). -/
def State.markRetried (s : State) (c : Cue) (tiles : List Nat) : State :=
  tiles.foldl (fun u k =>
    u.writeRecord (cAddrFlag c) k (setBit (u.readLE (cAddrFlag c + 8 * k) 8) 42 true)) s

/-! ### Shares (R84) -/

/-- Groups of each of a cue's sums. -/
def sumGroups (c : Cue) : Nat :=
  ceilDiv (if cUnit c = uOptimizer then (if oOp c = 1 then oBlock c else cK c) else cK c) 32

/-- Groups lo to hi of n are the leaves of one whole subtree of the tree of R83. -/
def wholeSubtree (n lo hi : Nat) : Bool :=
  (List.range (bitLen n + 1)).any (fun l => lo % 2 ^ l == 0 && hi == min (lo + 2 ^ l) n)

/-- A share that the engine may make of a cue: a LINEAR cue, and one without sums, is not divided along its groups, a TREE
cue only into whole subtrees (R84). -/
def shareGood (c : Cue) (h : CellShare) : Bool :=
  decide (h.tile + h.tiles ≤ resultTiles c) && decide (h.first < h.last) && decide (h.last ≤ 4096)
    && (if cAccumulates c && cueOrder c == .tree then decide (h.lo < h.hi) && wholeSubtree (sumGroups c) h.lo h.hi
        else h.lo == 0 && h.hi == sumGroups c)

/-- Two shares have no work in common. -/
def sharesApart (h k : CellShare) : Bool :=
  decide (h.tile + h.tiles ≤ k.tile) || decide (k.tile + k.tiles ≤ h.tile)
    || decide (h.last ≤ k.first) || decide (k.last ≤ h.first) || decide (h.hi ≤ k.lo) || decide (k.hi ≤ h.lo)

/-- Every share keeps apart from those after it. -/
def allApart : List CellShare → Bool
  | [] => true
  | h :: r => r.all (sharesApart h) && allApart r

/-- The shares divide the cue: every group of every position of every tile is in one of them (R84). -/
def sharesDivide (c : Cue) (hs : List CellShare) : Bool :=
  hs.all (shareGood c) && allApart hs
    && (hs.map (fun h => h.tiles * (h.last - h.first) * (h.hi - h.lo))).sum == resultTiles c * 4096 * sumGroups c

/-- The first group of the groups that a check covers. -/
def firstGroup (o : Order) (f : CellFault) : Nat :=
  match f.place, o with
  | .group, _ => f.level.toNat
  | _, .tree => f.nth * 2 ^ f.level.toNat
  | .normalization, .linear => if f.level = 0 then f.nth else f.level.toNat
  | .combination, .linear => f.level.toNat

/-- The check of result element `f.elem` lies in a share. A combination of partials from several shares lies in that of
its first group; the addend's lies in the first (DESIGN CHOICE, log entry 120). -/
def shareHas (c : Cue) (f : CellFault) (h : CellShare) : Bool :=
  let p := tilePlace c f.elem
  let at_ := 64 * p.2.1 + p.2.2
  let g := firstGroup (cueOrder c) f
  decide (h.tile ≤ p.1) && decide (p.1 < h.tile + h.tiles) && decide (h.first ≤ at_) && decide (at_ < h.last)
    && (if g < sumGroups c then decide (h.lo ≤ g) && decide (g < h.hi) else h.lo == 0)

/-- The checks that a cell makes in its shares of a cue (R93). -/
def State.shareSites (s : State) (c : Cue) (sigma : Nat) (hs : List CellShare) : Checks := fun f =>
  if f.elem < resultCount c ∧ hs.any (shareHas c f) then
    let ts := s.sumTerms c sigma f.elem
    (checkOf (cueOrder c) (chunks 32 ts.length ts) (s.addendOf c f.elem) f).map (fun w => ((tilePlace c f.elem).1, w))
  else none

/-- Output tiles that a cell's shares reach into. -/
def shareTiles (hs : List CellShare) : List Nat := (hs.flatMap (fun h => (List.range h.tiles).map (fun k => h.tile + k))).eraseDups

/-- The shares of cell x, and those that it redoes (R95). -/
def Running.sharesOn (r : Running) (x : Nat) : List CellShare := r.shares.filter (fun h => h.cell.val == x)
def Running.redoneOn (r : Running) (x : Nat) : List CellShare := r.redo.filter (fun h => h.cell.val == x)

/-- No share of the cue waits and it can still complete. -/
def State.sharesDone (s : State) (pos : Nat) : Bool :=
  match s.runningAt pos with
  | some r => r.waiting.isEmpty && r.fate.isNone
  | none => false

/-- A TILE, VECTOR, SKETCH or UNSKETCH cue runs on its cells (R84, R93-R95). Poisoned input ends it
STREAM_FAILED (Table 9.2). -/
def State.startTensor (s : State) (pos : Nat) (c : Cue) (sigma : Nat) (shares : List CellShare) (faults : List CellFault) : State :=
  if s.anyPoison (readAreas c) then (s.notePoisons (readAreas c)).doom pos endStreamFailed
  else
    let s := if !cAccumulates c then s
      else (shares.map (fun h => h.cell)).eraseDups.foldl (fun u x =>
        let hs := shares.filter (fun h => h.cell == x)
        match hs with
        | [] => u
        | h :: _ => (u.shareChecks pos x.val h.tile h.lo false (s.shareSites c sigma hs) faults).1) s
    if s.sharesDone pos then s.writeResults pos c sigma else s

/-- The faulted share at the head of the waiting ones starts again on the lowest free cell (R95). For a cue whose
work goes on piece by piece, the pieces that follow are the retry (R153, R162). -/
def execCueRetryDispatch (t : Nat) (pos : Nat) (faults : List CellFault) (s0 : State) : Result :=
  let s := s0.tick t
  match s.active, s.runningAt pos with
  | some n, some r =>
    match r.waiting, (List.range 16).find? (s.cellFree pos), s.posCue n pos with
    | x :: rest, some y, some (c, _) =>
      if r.fate.isSome || s.held (readAreas c ++ writeAreas c) then .next s
      else
        let s := s.bump Reg.cueRetries
        let s := s.onRunning pos (fun r => { r with waiting := rest, onto := r.onto ++ [y],
                                                    redo := r.redo ++ (r.sharesOn x ++ r.redoneOn x).map (fun h => { h with cell := Fin.ofNat 16 y }) })
        if cUnit c = uCollective ∨ isUpdate c then .next s
        else
          let hs := r.sharesOn x ++ r.redoneOn x
          let ts := shareTiles hs
          let s := s.onRunning pos (fun r => { r with retried := r.retried ++ ts })
          let s := (s.shareChecks pos y (ts.headD 0) ((hs.map CellShare.lo).headD 0) true (s.shareSites c r.goal hs) faults).1
          .next (if !s.sharesDone pos then s
            else if r.done = 1 then s.markRetried c ts
            else s.writeResults pos c r.goal)
    | _, _, _ => .next s
  | _, _ => .next s

/-- The running cue whose sums cell x forms at the moment. -/
def State.cellCue (s : State) (x : Nat) : Option Running :=
  s.eng.running.find? (fun r => r.fate.isNone && (r.cells.contains x || r.onto.contains x))

/-- The checks that cell x still makes for a cue that runs on it: those of its shares, and of the shares that it took over
in a retry. A collective or an update goes on tile by tile and piece by piece, so its next check is to come; a cue without
sums makes none, and one whose work has not begun makes them all later. -/
def State.sitesNow (s : State) (r : Running) (x : Nat) : Checks :=
  match s.active.bind (fun n => s.posCue n r.pos) with
  | some (c, _) =>
    if cUnit c = uCollective ∨ isUpdate c ∨ !cAccumulates c ∨ r.idle.isSome then fun _ => none
    else s.shareSites c r.goal (r.sharesOn x ++ r.redoneOn x)
  | none => fun _ => none

/-- The check lies in a share that cell x redoes (R95). -/
def State.inRetry (s : State) (r : Running) (x : Nat) (f : CellFault) : Bool :=
  match s.active.bind (fun n => s.posCue n r.pos) with
  | some (c, _) => (r.redoneOn x).any (shareHas c f)
  | none => false

/-- RECOMPUTED is set in the record of a tile that has been written already (R94). -/
def State.markRecomputed (s : State) (r : Running) (tile : Nat) : State :=
  match s.active.bind (fun n => s.posCue n r.pos) with
  | some (c, _) =>
    let a := cAddrFlag c + 8 * tile
    if r.done = 1 then s.write a (bytesLE 8 (setBit (s.readLE a 8) 41 true)) else s
  | none => s

/-- A write of RESIDUE_INJECT (R102, Table 4.10). `falls` names the check of a running cue that comes next on the
cell; none, or one that is not made there, when the cell performs no further check before its next cue. -/
def State.writeResidueInject (s : State) (v : Nat) (falls : Option CellFault) : Status × State :=
  let x := bits v 3 0
  let mode := bits v 5 4
  let arm : State := { s with cells := tset 0 s.cells x mode }
  if bits v 31 6 ≠ 0 then (stReservedNonzero, s)
  else if mode = 3 ∨ !s.cellInService x then (stOutOfRange, s)
  else match falls, s.cellCue x with
    | some f, some r => match s.sitesNow r x f with
      | none => (stOk, arm)
      | some (tile, _) =>
        if mode = 1 then (stOk, (State.recompute { s with cells := tset 0 s.cells x 0 } r.pos x tile).markRecomputed r tile)
        else if mode = 2 then (stOk, s.tileFault r.pos x f.level.toNat (f.place != .group) (s.inRetry r x f))
        else (stOk, arm)
    | _, _ => (stOk, arm)

/-- Where the check stands that comes next on cell x, as far as nothing tells (DESIGN CHOICE, log entry 119). -/
def State.freeCheck (s : State) (x : Nat) : Option CellFault :=
  match s.cellCue x with
  | none => none
  | some r => match s.active.bind (fun n => s.posCue n r.pos) with
    | none => none
    | some (c, _) =>
      let v := s.takeFree.1
      let place : CheckPlace := match v % 3 with
        | 0 => .group
        | 1 => .combination
        | _ => .normalization
      let k := v / 3 / 65536
      some { elem := k % max 1 (resultCount c), sum := 0, place := place, level := BitVec.ofNat 16 (v / 3),
             nth := k / max 1 (resultCount c), error := 1, again := 0 }

/-- A write of RESIDUE_INJECT as a register: the struck check is a free value (R102). -/
def State.writeResidueRegister (s : State) (v : Nat) : Status × State :=
  let r := s.writeResidueInject v (s.freeCheck (bits v 3 0))
  (r.1, if (s.freeCheck (bits v 3 0)).isSome then r.2.takeFree.2 else r.2)

def execResidueInjectWrite (t : Nat) (value : Word32) (falls : Option CellFault) (s0 : State) : Result :=
  .next ((s0.tick t).managed (fun s => s.writeResidueInject value.toNat falls))

end Sys2Proof.Machine
end

