-- ==== Sys2Proof/Machine/Chorus.lean ====
section
/-! DEFINITION. The chorus engine: members, counted tensors, header treatment, reduction and what members wait for
(06_collectives.md, R137-R155). -/
namespace Sys2Proof.Machine

/-! ### Members (R138, R139) -/

/-- A stream bound to a group: its index and its entry. -/
abbrev Bound := Nat × Nat

/-- Streams of the sheet of slot n bound to group g. -/
def State.boundTo (s : State) (n g : Nat) : List Bound :=
  ((List.range (hStreamCount (s.hdr n))).map (fun i => (i, s.streamEntry n i))).filter (fun b => eBound b.2 && eGroup b.2 == g)

/-- Stage of a group (R140). -/
def stageOf (bs : List Bound) : Nat := match bs with
  | b :: _ => eStage b.2
  | [] => 0

/-- Index of the self member (R139). -/
def State.selfIndex (s : State) (n : Nat) (bs : List Bound) : Nat :=
  if stageOf bs = 4 then hSite (s.hdr n)
  else ((List.range (bs.length + 1)).find? (fun m => !bs.any (fun b => eMember b.2 == m))).getD 0

/-- Element width in which values of a format travel (R60). -/
def wireWidth (f : Fmt) : Nat :=
  match f with
  | .f6a => 3
  | .f6b => 3
  | f => max 1 (f.width / 8)

/-! ### Counted tensors (R141, R142, Table 6.3) -/

def tCount (h : Nat) : Nat := bits h 31 0
def tFmt (h : Nat) : Nat := bits h 35 32
def tStage (h : Nat) : Nat := bits h 38 36
def tGroup (h : Nat) : Nat := bits h 48 40
def tMember (h : Nat) : Nat := bits h 61 52
def tInstance (h : Nat) : Nat := bits h 95 64
def tJobTag (h : Nat) : Nat := bits h 111 96
def tRevision (h : Nat) : Nat := bits h 127 112

/-- HDR_CHECK of a header over its other bits. -/
def headerCheck (h : Nat) : Nat := crcOf crc16Hdr (bytesLE 62 h)
def headerGood (h : Nat) : Bool := headerCheck h == bits h 511 496
def headerReserved (h : Nat) : Bool := bit h 39 || bits h 51 49 != 0 || bits h 63 62 != 0 || bits h 495 128 != 0

/-- A header that the FX-3 writes itself. -/
def State.makeHeader (s : State) (count fmt stage group member num : Nat) : Nat :=
  let h := count + 2 ^ 32 * fmt + 2 ^ 36 * stage + 2 ^ 40 * group + 2 ^ 52 * member + 2 ^ 64 * num
    + 2 ^ 96 * s.tags.1 + 2 ^ 112 * s.tags.2
  h + 2 ^ 496 * headerCheck h

/-- A header as it travels: each 64-bit word in network order (R141). -/
def headerWire (h : Nat) : List Byte := (List.range 8).flatMap (fun w => bytesBE 8 (bits h (64 * w + 63) (64 * w)))
def headerOfWire (l : List Byte) : Nat := ofBytesLE ((chunks 8 8 l).flatMap List.reverse)

/-! ### Instances -/

/-- Changing the instance of a group. -/
def State.onInstance (s : State) (g : Nat) (f : Instance → Instance) : State :=
  s.setGroupInst g ((s.groupInst g).map f)

/-- A running COLLECTIVE cue of a group: slot, instance, cue. -/
def State.collective (s : State) (g : Nat) : Option (Nat × Instance × Cue) :=
  match s.active, s.groupInst g with
  | some n, some x => (s.posCue n x.pos).map (fun p => (n, x, p.1))
  | _, _ => none

/-- LAST_HEADER_REFUSED (Table 6.11). -/
def headerRefusedWord (g member : Nat) (self : Bool) (reason num : Nat) : Nat :=
  g + 2 ^ 9 * member + 2 ^ 19 * b2n self + 2 ^ 20 * reason + 2 ^ 32 * (num % 2 ^ 31) + 2 ^ 63

/-- A header is refused and reported (R148). -/
def State.refuseHeader (s : State) (g member : Nat) (self : Bool) (reason num : Nat) : State :=
  let s := s.setObj Reg.lastHeaderRefused (headerRefusedWord g member self reason num)
  (s.event 0x5009 (s.obj Reg.lastHeaderRefused) 0).bump Reg.headersRefused

/-- Members that must contribute: IN streams, and the self member. -/
def contributors (bs : List Bound) (c : Cue) (self : Nat) : List Nat :=
  (bs.filter (fun b => eCollIn b.2)).map (fun b => eMember b.2) ++ (if cAuxEn c then [self] else [])

/-- Every member's header has been accepted. -/
def State.headersIn (s : State) (n g : Nat) (x : Instance) (c : Cue) : Bool :=
  let bs := s.boundTo n g
  (contributors bs c (s.selfIndex n bs)).all (fun m => x.members.any (fun y => y.index == m))

/-- The result length (R149). -/
def Instance.length (x : Instance) : Nat := x.members.foldl (fun a m => max a m.count) 0
def Instance.tileTotal (x : Instance) : Nat := ceilDiv x.length 4096

/-- Streams of the group that the result goes out on. -/
def resultStreams (bs : List Bound) : List Bound := bs.filter (fun b => eOutResult b.2)

/-- Items that send a tensor's values in element order. -/
def valueItem (c : Cue) (base lo hi pos : Nat) : TxItem :=
  let f := fmtD (cFmtOut c)
  .mem base (storageBytes f lo) (storageBytes f hi - storageBytes f lo) (wireWidth f) pos

/-- Result tiles that are ready in element order are sent, and the last parcel is released (R142, R150). -/
def State.sendResult (s : State) (g : Nat) : State :=
  match s.collective g with
  | none => s
  | some (n, x, c) =>
    let total := x.tileTotal
    let ready := ((List.range total).drop x.sent).takeWhile (fun b => x.tiles.contains b)
    let upTo := x.sent + ready.length
    if !x.headerOut || (ready.isEmpty && decide (total ≠ 0)) then s
    else
      let vals := if ready.isEmpty then []
        else [valueItem c (cAddrOut c + 64) (4096 * x.sent) (min x.length (4096 * upTo)) x.pos]
      let items := vals ++ (if upTo = total then [TxItem.flush] else [])
      let s := s.onInstance g (fun x => { x with sent := upTo })
      (resultStreams (s.boundTo n g)).foldl (fun u b => u.push b.1 items) s

/-- Once every header is accepted, the result header is written, and sent from where it is written: each of its 64-bit words
in network order (R141, R142, R149, R352). -/
def State.countsKnown (s : State) (g : Nat) : State :=
  match s.collective g with
  | none => s
  | some (n, x, c) =>
    if x.headerOut || !s.headersIn n g x c then s
    else
      let bs := s.boundTo n g
      let h := s.makeHeader x.length (cFmtOut c) (stageOf bs) g 0x3FF x.num
      let s := s.write (cAddrOut c) (bytesLE 64 h)
      let s := (resultStreams bs).foldl (fun u b => u.push b.1 [.mem (cAddrOut c) 0 64 8 x.pos]) s
      let s := s.onInstance g (fun x => { x with headerOut := true })
      let i := tget {} s.groupInfo g
      let s := { s with groupInfo := tset {} s.groupInfo g { i with count := x.length } }
      if x.length = 0 then s.sendResult g else s

/-- The memory of a cue's self contribution as far as its CAP reaches. -/
def selfArea (c : Cue) : Nat × Nat := (cAddrAux c, 64 + storageBytes (fmtD (cFmtAux c)) (cCount c))

/-- The self header is examined: COUNT, FMT and HDR_CHECK alone (R142, R146, Table 6.5). The header that goes out under
OUT_SELF is made here and stands nowhere in memory (DEDUCED, log entry 149). -/
def State.examineSelf (s : State) (n g pos num : Nat) (c : Cue) : State :=
  let bs := s.boundTo n g
  let self := s.selfIndex n bs
  let a := cAddrAux c
  let h := s.readLE a 64
  let f := fmtD (cFmtAux c)
  let refuse (r : Nat) : State := s.refuseHeader g self true r num
  if s.isPoisoned a 64 then s.notePoison a 64 3
  else if !headerGood h then refuse 1
  else if tFmt h ≠ cFmtAux c then refuse 4
  else if cCount c < tCount h then refuse 5
  else if s.isPoisoned (a + 64) (storageBytes f (tCount h)) then s.notePoison (a + 64) (storageBytes f (tCount h)) 3
  else
    let out := s.makeHeader (tCount h) (tFmt h) (stageOf bs) g self num
    let items := [TxItem.lit (headerWire out) pos, .mem (a + 64) 0 (storageBytes f (tCount h)) (wireWidth f) pos, .flush]
    let s := s.onInstance g (fun x => { x with members := x.members ++ [⟨self, tCount h, a + 64, none⟩] })
    (bs.filter (fun b => eOutSelf b.2)).foldl (fun u b => u.push b.1 items) s

/-- Members of a group, the self member included (Table 6.10). -/
def State.membersOf (s : State) (n g : Nat) (self : Bool) : Nat := (s.boundTo n g).length + b2n self

/-- A COLLECTIVE cue is dispatched as instance `num` of its group, and examines its self header (R145, R146), or waits for
the hub that holds it (R198). -/
def State.startCollective (s : State) (n pos : Nat) (c : Cue) (num : Nat) : State :=
  let g := cGroup c
  let num := num % 2 ^ 32
  let s := s.setGroupInst g (some { pos := pos, num := num, since := s.now })
  let i := tget {} s.groupInfo g
  let s := { s with groupInfo := tset {} s.groupInfo g { i with num := num, members := s.membersOf n g (cAuxEn c) } }
  if cAuxEn c && s.held [selfArea c] then s.onInstance g (fun x => { x with selfIdle := true })
  else (if cAuxEn c then s.examineSelf n g pos num c else s).countsKnown g

/-- The self header is examined once the accesses to it are held no more (R198). -/
def State.resumeSelf (s : State) (n pos : Nat) (c : Cue) : State :=
  let g := cGroup c
  match s.groupInst g with
  | some x =>
    if x.pos = pos ∧ x.selfIdle ∧ !s.held [selfArea c] then
      ((s.onInstance g (fun x => { x with selfIdle := false })).examineSelf n g pos x.num c).countsKnown g
    else s
  | none => s

/-! ### Headers on member streams (R147, R148) -/

/-- a precedes b, modulo 2³² (Table 6.5). -/
def precedes (a b : Nat) : Bool :=
  let d := (b + 2 ^ 32 - a % 2 ^ 32) % 2 ^ 32
  decide (1 ≤ d) && decide (d ≤ 2 ^ 31)

/-- Why a header on a member stream is refused, before INSTANCE is looked at (Table 6.5). -/
def State.headerFault (s : State) (g : Nat) (e : Nat) (c : Cue) (h : Nat) : Option Nat :=
  if !headerGood h || headerReserved h then some 1
  else if !s.tagsActive (tJobTag h) (tRevision h) then some 2
  else if tGroup h ≠ g ∨ tStage h ≠ eStage e ∨ tMember h ≠ eMember e then some 3
  else if tFmt h ≠ cFmtA c then some 4
  else if cCount c < tCount h then some 5
  else none

/-- The next header on an IN stream of its group's current instance is examined (R147). -/
def execMemberHeaderArrival (t : Nat) (i : BitVec 14) (s0 : State) : Result :=
  let s := s0.tick t
  let i := i.toNat
  let x := s.stream i
  let e := x.entry
  let g := eGroup e
  if !eBound e || !eCollIn e || x.lostFraming then .next s
  else match s.collective g, x.rxBytes x.rxCover 64 with
    | some (_, inst, c), some raw =>
      let m := eMember e
      if inst.members.any (fun y => y.index == m) then .next s
      else
        let h := headerOfWire raw
        let f := fmtD (cFmtA c)
        let len := storageBytes f (tCount h)
        let good := headerGood h && !headerReserved h
        if good && !s.tagsActive (tJobTag h) (tRevision h) && s.tagsArmed (tJobTag h) (tRevision h) then .next s
        else
          let refuse (r : Nat) : State :=
            (s.refuseHeader g m false r inst.num).setStream i { x with lostFraming := true }
          match s.headerFault g e c h with
          | some r => .next (refuse r)
          | none =>
            if precedes (tInstance h) inst.num then
              let s := s.coverCue i (64 + len) none 1 inst.pos
              .next (s.bump Reg.staleDiscarded)
            else if tInstance h ≠ inst.num then .next (refuse 6)
            else
              let slot := cAddrA c + m * landingStride c
              let s := (s.cover i 64 none 1 inst.pos).write slot (bytesLE 64 h)
              let from_ := (s.stream i).rxCover
              let s := s.coverCue i len (some (slot + 64)) (wireWidth f) inst.pos
              let s := s.onInstance g (fun y => { y with members := y.members ++ [⟨m, tCount h, slot + 64, some (i, from_)⟩] })
              .next (s.countsKnown g)
    | _, _ => .next s

/-! ### Reduction (R149, R150) -/

/-- Stream positions from p to q all lie in the parts that have come. -/
def allGot (got : List (Nat × Nat)) : Nat → Nat → Nat → Bool
  | 0, p, q => decide (q ≤ p)
  | fuel + 1, p, q =>
    if q ≤ p then true
    else match got.find? (fun x => decide (x.1 ≤ p) && decide (p < x.2)) with
      | some x => allGot got fuel x.2 q
      | none => false

/-- Bytes lo to hi of a member's values have been delivered. -/
def State.memberHas (s : State) (m : Member) (lo hi : Nat) : Bool :=
  match m.source with
  | none => true
  | some (i, p) =>
    match (s.stream i).covers.find? (fun c => c.start == p && c.dest.isSome) with
    | some c => allGot c.got (c.got.length + 1) (p + lo) (p + hi)
    | none => hi == 0

/-- Bytes of a member's values that lie in a tile. -/
def memberSpan (f : Fmt) (m : Member) (b : Nat) : Nat × Nat :=
  (storageBytes f (min m.count (4096 * b)), storageBytes f (min m.count (4096 * (b + 1))))

/-- The members whose count reaches into tile b. -/
def Instance.reaching (x : Instance) (b : Nat) : List Member := x.members.filter (fun m => decide (4096 * b < m.count))

/-- Format of a member's values. -/
def memberFmt (c : Cue) (m : Member) : Fmt := fmtD (if m.source.isNone then cFmtAux c else cFmtA c)

/-- Members in rising index order. -/
def insertMember (m : Member) : List Member → List Member
  | [] => [m]
  | y :: r => if m.index ≤ y.index then m :: y :: r else y :: insertMember m r
def Instance.ordered (x : Instance) : List Member := x.members.foldr insertMember []

/-- The groups of 32 member indices that have a member which reaches element i, rising (R149). -/
def chorusPresent (ms : List Member) (i : Nat) : List Nat :=
  (List.range 32).filter (fun j => ms.any (fun m => decide (i < m.count) && m.index / 32 == j))

/-- The terms of element i in these groups (R149). -/
def State.chorusGroups (s : State) (c : Cue) (ms : List Member) (i : Nat) : List (List (Val × Val)) :=
  (chorusPresent ms i).map (fun j => (ms.filter (fun m => decide (i < m.count) && m.index / 32 == j)).map (fun m =>
    (s.val (memberFmt c m) m.base i, Val.one)))

/-- A fault names a group by its index j, and the combination that takes it in by the same number (R83, R149, Table 4.9);
the same fault by the place that j has among the groups present. -/
def faultAmong (js : List Nat) (f : CellFault) : Option CellFault :=
  let place (j : Nat) : Option Nat := js.findIdx? (fun x => x == j)
  match f.place, f.level.toNat with
  | .normalization, 0 => (place f.nth).map (fun i => { f with nth := i })
  | .normalization, l + 1 => ((place (l + 1)).filter (fun i => i != 0)).map (fun i => { f with level := BitVec.ofNat 16 i })
  | _, l => (place l).map (fun i => { f with level := BitVec.ofNat 16 i })

/-- Element i of the result before rounding (R149). -/
def State.chorusValue (s : State) (c : Cue) (ms : List Member) (i : Nat) : Formed :=
  let gs := s.chorusGroups c ms i
  match cVop c with
  | 2 => extremum true (gs.flatten.map Prod.fst)
  | 3 => extremum false (gs.flatten.map Prod.fst)
  | _ => linear (gs.map groupSum)

/-- The residue checks of tile b of a result, element by element (R93, R153). -/
def State.chorusSites (s : State) (c : Cue) (ms : List Member) (len b : Nat) : Checks := fun f =>
  if f.elem / 4096 = b ∧ f.elem < len then
    (faultAmong (chorusPresent ms f.elem) f).bind (fun f => (checkOf .linear (s.chorusGroups c ms f.elem) none f).map (fun w => (b, w)))
  else none

/-- The group of the first check of tile b. -/
def Instance.firstGroup (x : Instance) (b : Nat) : Nat := ((chorusPresent x.members (4096 * b)).head?).getD 0

/-- Members whose part of tile b is poisoned become missing for the instance (R151). -/
def State.losePoisoned (s : State) (g b : Nat) (c : Cue) (x : Instance) : State :=
  let bad := (x.reaching b).filter (fun m =>
    let w := memberSpan (memberFmt c m) m b
    s.isPoisoned (m.base + w.1) (w.2 - w.1))
  let s := s.notePoisons (bad.map (fun m =>
    let w := memberSpan (memberFmt c m) m b
    (m.base + w.1, w.2 - w.1)))
  s.onInstance g (fun y => { y with poisoned := y.poisoned ++ bad.map (fun m => m.index) })

/-- What the reduction of tile b reads and writes. -/
def Instance.tileAreas (x : Instance) (c : Cue) (b : Nat) : List (Nat × Nat) :=
  let f := fmtD (cFmtOut c)
  let lo := storageBytes f (4096 * b)
  (cAddrOut c + 64 + lo, storageBytes f (min x.length (4096 * (b + 1))) - lo) :: (cAddrFlag c + 8 * b, 8)
    :: (x.reaching b).map (fun m => let w := memberSpan (memberFmt c m) m b; (m.base + w.1, w.2 - w.1))

/-- Tile b of a group's result is reduced on a cell, written, recorded and sent (R149, R150, R153). -/
def execCollectiveTileReduce (t : Nat) (g : Fin 512) (b : Nat) (cell : Fin 16) (faults : List CellFault) (s0 : State) : Result :=
  let s := s0.tick t
  let g := g.val
  match s.collective g with
  | none => .next s
  | some (_, x, c) =>
    match s.runningAt x.pos with
    | none => .next s
    | some r =>
      if !x.headerOut || decide (x.tileTotal ≤ b) || x.tiles.contains b || !x.poisoned.isEmpty || r.fate.isSome
          || s.held (x.tileAreas c b) || !r.waiting.isEmpty || !s.cellFree x.pos cell.val
              || (r.retried.contains b && r.onto.getLast? != some cell.val)
          || !(x.reaching b).all (fun m => let w := memberSpan (memberFmt c m) m b; s.memberHas m w.1 w.2) then .next s
      else
        let s := s.losePoisoned g b c x
        match s.groupInst g with
        | none => .next s
        | some y =>
          if !y.poisoned.isEmpty then .next s
          else
            let retry := r.retried.contains b
            let chk := if cVop c = 1 then s.shareChecks x.pos cell.val b (x.firstGroup b) retry (s.chorusSites c x.ordered x.length b) faults else (s, true)
            let s := chk.1
            if !chk.2 then .next (s.onRunning x.pos (fun r => { r with retried := b :: r.retried }))
            else
              let lo := 4096 * b
              let n := min (x.length - lo) 4096
              let f := fmtD (cFmtOut c)
              let rs := (List.range n).map (fun k => s.chorusValue c x.ordered (lo + k))
              let d := deliverFormed f c rs
              let s := s.write (cAddrOut c + 64 + storageBytes f lo) d.1
              let rec_ := match s.runningAt x.pos with
                | some r => r.recomputed.contains b
                | none => false
              let s := s.writeRecord (cAddrFlag c) b
                (tileRecord b rec_ retry (tileElems f (fun k => (b, k / 64, k % 64)) b rs d.2.1))
              let s := (s.addFlags x.pos d.2.2).onInstance g (fun y => { y with tiles := b :: y.tiles })
              .next (s.sendResult g)

/-! ### Completion and abort (R150-R152) -/

/-- Every outgoing byte of a cue on a stream lies where R150 wants it. -/
def State.outDone (s : State) (i pos : Nat) : Bool :=
  if eKind (s.stream i).entry = kindLine then s.lineOutDone i pos else !s.cueBytesWait i pos

/-- The instance has nothing more to do (R150). -/
def State.collectiveDone (s : State) (g : Nat) : Bool :=
  match s.collective g with
  | none => false
  | some (n, x, _) =>
    x.headerOut && x.poisoned.isEmpty && decide (x.tiles.length = x.tileTotal)
      && (s.boundTo n g).all (fun b => !(eOutSelf b.2 || eOutResult b.2) || s.outDone b.1 x.pos)

/-- The parcel holds bytes of the cue at a position. -/
def Parcel.partOf (p : Parcel) (pos : Nat) : Bool := p.items.any (fun y => y.owner == some pos)

/-- Parcels of a stream that are encrypted and not yet route-coded, from the first on that holds bytes of a cue. -/
def State.uncodedFrom (s : State) (i pos : Nat) : List Parcel :=
  (((s.link (eLink (s.stream i).entry)).ready.filter (fun b => b.stream == i)).filterMap Body.par).dropWhile (fun p => !p.partOf pos)

/-- Parcels of a cue on a LINE stream that are not yet route-coded and stored are taken back, so no further parcel of the
instance leaves (R150, R152): the encryption of one, and of those behind it, is discarded and its IV_COUNT stays unused
(R302); those behind take their numbers, and a token that rode in one goes to the head of the queue. A HOST stream's lie
in their port's transmit queue (R150). DEDUCED, log entry 94. -/
def State.recallParcels (s : State) (i pos : Nat) : State :=
  let x := s.stream i
  let back := s.uncodedFrom i pos
  let all := back ++ x.outQ
  let gone := all.filter (fun p => p.partOf pos)
  match all with
  | [] => s
  | p0 :: _ =>
    if eKind x.entry ≠ kindLine ∨ gone.isEmpty then s
    else
      let s := s.modLink (eLink x.entry) (fun k => { k with ready := k.ready.filter (fun b =>
        b.stream != i || !back.any (fun p => p.psn == b.psn)) })
      let r := (all.filter (fun p => !p.partOf pos)).foldl (fun (a : List Parcel × Nat × Nat) p =>
        (a.1 ++ [{ p with psn := a.2.1, offset := a.2.2 }], seqAdd a.2.1 1, (a.2.2 + p.data.length) % 2 ^ 64)) ([], p0.psn, p0.offset)
      let tokens := (gone.filter (fun p => bit p.token 21)).map (fun p => TxItem.token (bits p.token 12 0) (bits p.token 20 13))
      s.setStream i { x with outQ := r.1, txPsn := r.2.1, txOffset := r.2.2, txQ := tokens ++ x.txQ,
                             tokensOut := x.tokensOut - tokens.length, parcelsOut := x.parcelsOut - back.length }

/-- The instance ends. On an end other than COMPLETE the bytes it has not put into parcels are dropped, and what its
members still send of it is discarded (R152). -/
def State.endCollective (s : State) (n pos : Nat) (c : Cue) (status : Nat) : State :=
  let g := cGroup c
  let bs := s.boundTo n g
  let s := if status = endComplete then
      let i := tget {} s.groupInfo g
      { s with groupInfo := tset {} s.groupInfo g { i with completed := (i.completed + 1) % 2 ^ 64 } }
    else bs.foldl (fun u b => ((u.uncoverCue b.1 pos).dropCueBytes b.1 pos).recallParcels b.1 pos) s
  let s := bs.foldl (fun u b => u.forgetCovers b.1 pos) s
  s.setGroupInst g none

/-! ### What a group reports (Table 6.10) -/

/-- Members whose header or data is missing, as a bitmap. -/
def State.groupMissing (s : State) (g : Nat) : Nat :=
  match s.collective g with
  | none => 0
  | some (n, x, c) =>
    let bs := s.boundTo n g
    (contributors bs c (s.selfIndex n bs)).foldl (fun v m =>
      match x.members.find? (fun y => y.index == m) with
      | none => setBit v m true
      | some y =>
        let all := storageBytes (memberFmt c y) y.count
        if x.poisoned.contains m || !s.memberHas y 0 all then setBit v m true else v) 0

def State.groupFirstMissing (s : State) (g : Nat) : Nat := (lowestBit 1024 (s.groupMissing g)).getD 0xFFFF

/-- GROUP_MEMBERS: those of the current instance; else those that the active sheet binds, with the self member where a
cue of the group has one; else, with no sheet, those of the last instance (DESIGN CHOICE, log entry 118). -/
def State.groupMembersWord (s : State) (g : Nat) : Nat :=
  match s.collective g, s.active with
  | some (n, _, c), _ => s.membersOf n g (cAuxEn c)
  | none, some n =>
    let cue := ((List.range (hCueCount (s.hdr n))).map (s.cueAt n)).find? (fun c => cUnit c == uCollective && cGroup c == g)
    s.membersOf n g (cue.elim false cAuxEn)
  | none, none => (tget {} s.groupInfo g).members

/-- GROUP_STATE: REDUCING while data is missing, that of a poisoned member too. -/
def State.groupStateWord (s : State) (g : Nat) : Nat :=
  match s.collective g with
  | none => 0
  | some (n, x, c) => if !s.headersIn n g x c then 1 
    else if decide (x.tiles.length < x.tileTotal) || x.poisoned.any (fun m => decide (m < 1024)) then 2 else 3

/-- GROUP_HEADERS_ACCEPTED and GROUP_WAIT_NS. -/
def State.groupAccepted (s : State) (g : Nat) : Nat := match s.groupInst g with
  | some x => x.members.length
  | none => 0
def State.groupWaitNs (s : State) (g : Nat) : Nat := match s.groupInst g with
  | some x => s.now - x.since
  | none => 0

end Sys2Proof.Machine
end

