-- ==== Sys2Proof/Machine/Codec.lean ====
section
/-! DEFINITION. Fixed-rate exponent compression: blocks, coding, decoding, damage, and the table slots
(08_compression.md, R173-R193). -/
namespace Sys2Proof.Machine

/-! ### Decode tables (R176, R177) -/

/-- Entry k of a table (R176). -/
def tableEntry (t k : Nat) : Nat := bits t (8 * k + 7) (8 * k)
def isOffset (e : Nat) : Bool := decide (e < 0x40)
def entryZero : Nat := 0x80
def entryUnused : Nat := 0xFF

/-- The eight entries. -/
def tableEntries (t : Nat) : List Nat := (List.range 8).map (tableEntry t)

/-- The table is valid (R177). -/
def tableValid (t : Nat) : Bool :=
  let es := tableEntries t
  let offs := es.filter isOffset
  es.all (fun e => isOffset e || e == entryZero || e == entryUnused)
    && decide (es.count entryZero = 1) && decide (offs.count 0 = 1) && decide offs.Nodup

/-- The code whose entry is e. -/
def codeOfEntry (t e : Nat) : Nat := ((List.range 8).find? (fun k => tableEntry t k == e)).getD 0

/-- Table and generation of slot k. -/
def State.slotTab (s : State) (k : Nat) : Nat := s.obj (Reg.slotTable k) % 2 ^ 64
def State.slotGen (s : State) (k : Nat) : Nat := bits (s.obj (Reg.slotTable k)) 67 64

/-! ### Coding (R179-R182) -/

def e16Sign (c : Nat) : Bool := bit c 15
def e16Exp (c : Nat) : Nat := bits c 14 7
def e16Frac (c : Nat) : Nat := bits c 6 0
def e16Code (neg : Bool) (e f : Nat) : Nat := b2n neg * 0x8000 + e * 0x80 + f

/-- Base of a block (R180). -/
def blockBase (cs : List Nat) : Nat :=
  cs.foldl (fun b c =>
    let e := e16Exp c
    max b (if e = 255 then 254 else e)) 0

/-- How a value was coded (Table 8.3). -/
inductive CodedAs
  | exact | flushed | gap | saturated
  deriving DecidableEq, Repr

/-- A coded value: its field without the sign, and what counts it. -/
structure Coded where
  code : Nat
  neg : Bool
  frac : Nat
  how : CodedAs
  deriving DecidableEq, Repr

/-- The smallest usable listed offset above d (Table 8.3, row 5). -/
def nextOffset (t b d : Nat) : Option Nat :=
  (tableEntries t).foldl (fun m e =>
    if isOffset e && decide (d < e) && decide (e + 1 ≤ b) && (match m with
        | some x => decide (e < x)
        | none => true) then some e else m) none

/-- Coding of one value at a short or long position (R181, Table 8.3). -/
def codeValue (t b : Nat) (short : Bool) (c : Nat) : Coded :=
  let e := e16Exp c
  let neg := e16Sign c
  let ones := if short then 63 else 127
  let frac (f : Nat) : Nat := if short then f / 2 else f
  let zero (h : CodedAs) : Coded := ⟨codeOfEntry t entryZero, neg, 0, h⟩
  if e = 255 then ⟨codeOfEntry t 0, neg, ones, .saturated⟩
  else if e = 0 then zero (if e16Frac c = 0 then .exact else .flushed)
  else
    let d := b - e
    if d < 0x40 ∧ (tableEntries t).contains d then ⟨codeOfEntry t d, neg, frac (e16Frac c), .exact⟩
    else match nextOffset t b d with
      | some x => ⟨codeOfEntry t x, neg, ones, .gap⟩
      | none => zero .flushed

/-- Value of a consistent field (R184). -/
def fieldValue (t b : Nat) (short : Bool) (code : Nat) (neg : Bool) (frac : Nat) : Nat :=
  let e := tableEntry t code
  if isOffset e then e16Code neg (b - e) (if short then 2 * frac else frac) else e16Code neg 0 0

/-- A block as the encoder makes it: its bits, the values it decodes to, how each was coded, and the flags (R182). -/
structure Block where
  word : Nat
  decoded : List Nat
  hows : List CodedAs
  flags : Nat
  deriving DecidableEq, Repr

/-- Where field v begins, and whether it is short (Table 8.1). -/
def fieldAt (v : Nat) : Nat := if v < 58 then 14 + 11 * v else 652 + 10 * (v - 58)
def fieldShort (v : Nat) : Bool := decide (58 ≤ v)

/-- Coding a block of 64 E16 codes under a slot (R180, R181, R183). -/
def codeBlock (slot gen t : Nat) (cs : List Nat) : Block :=
  let b := blockBase cs
  let vs := cs.mapIdx (fun v c => (v, c, codeValue t b (fieldShort v) c))
  let word := vs.foldl (fun w x =>
    let fb := if fieldShort x.1 then 6 else 7
    w + (x.2.2.frac + 2 ^ fb * x.2.2.code + 2 ^ (fb + 3) * b2n x.2.2.neg) * 2 ^ fieldAt x.1)
    (slot + 2 ^ 2 * gen + 2 ^ 6 * b)
  let dec := vs.map (fun x => fieldValue t b (fieldShort x.1) x.2.2.code x.2.2.neg x.2.2.frac)
  let flag (x : (Nat × Nat × Coded) × Nat) : Nat :=
    let c := x.1.2.1
    if x.1.2.2.how = .saturated then flagInvalid
    else (if x.2 ≠ c then flagInexact else 0) ||| (if c % 0x8000 ≠ 0 ∧ x.2 % 0x8000 = 0 then flagUnderflow else 0)
  { word := word, decoded := dec, hows := vs.map (fun x => x.2.2.how),
    flags := (vs.zip dec).foldl (fun a x => a ||| flag x) 0 }

/-- The encoder's counters for one block (Table 8.9). -/
def State.countCoded (s : State) (b : Block) : State :=
  (((s.bump Reg.blocksCoded).bumpBy Reg.valuesFlushed (b.hows.count .flushed)).bumpBy Reg.valuesInGap (b.hows.count .gap)).bumpBy
    Reg.valuesSaturated (b.hows.count .saturated)

/-- A block coded under slot k is written at an address (R174). -/
def State.writeBlock (s : State) (k a : Nat) (cs : List Nat) : Block × State :=
  let b := codeBlock k (s.slotGen k) (s.slotTab k) cs
  (b, (s.write a (bytesLE 89 b.word)).countCoded b)

/-! ### Blocks in flight (R188) -/

/-- A decrement of a slot's count holds at 0 and is reported once (R188). -/
def State.decInFlight (s : State) (k n : Nat) : State :=
  let v := s.obj (Reg.slotInFlight k)
  if v < n then ((s.setObj (Reg.slotInFlight k) 0).event 0x500C k 0).bump Reg.inFlightUnderflows
  else s.setObj (Reg.slotInFlight k) (v - n)

/-- UNIT, SLOT and bit 3 (HOLD or RETIRE) of a compression cue (Table 8.5). -/
def zUnit (c : Cue) : Nat := bits (cArg c) 0 0
def zSlot (c : Cue) : Nat := bits (cArg c) 2 1
def zHold (c : Cue) : Bool := bit (cArg c) 3

/-! ### COMPRESS cues (R179, R192) -/

/-- Value i of a COMPRESS cue's input as an E16 code, with its conversion flags (R179). -/
def State.compressInput (s : State) (c : Cue) (i : Nat) : Nat × Nat :=
  let f := fmtD (cFmtA c)
  let code := elemCode f (fun k => (readByte s.mem (cAddrA c + k)).toNat) i
  if f = .e16 then (code, 0) else Sys2Proof.deliver .e16 (rndD (cRnd c)) false (decodeCode f code)

/-- A COMPRESS cue codes its blocks (R179). -/
def State.startCompress (s : State) (pos : Nat) (c : Cue) : State :=
  if s.anyPoison (readAreas c) then (s.notePoisons (readAreas c)).doom pos endStreamFailed
  else
    let ins := (List.range (64 * cM c)).map (s.compressInput c)
    let r := (List.range (cM c)).foldl (fun (a : State × Nat) b =>
      let x := a.1.writeBlock (zSlot c) (cAddrOut c + cK c - 1 + 89 * b) (((ins.drop (64 * b)).take 64).map Prod.fst)
      (x.2, a.2 ||| x.1.flags)) (s, ins.foldl (fun a x => a ||| x.2) 0)
    r.1.addFlags pos r.2

/-- A COMPRESS cue ends: its blocks leave flight unless it holds them and completes (R188). -/
def State.endCompress (s : State) (c : Cue) (status : Nat) : State :=
  if zHold c && status == endComplete then s else s.decInFlight (zSlot c) (cM c)

/-! ### Decoding (R184-R186) -/

/-- The fields of a block's values: position, code, sign, fraction. -/
def blockFields (w : Nat) : List (Nat × Nat × Bool × Nat) :=
  (List.range 64).map (fun v =>
    let fb := if fieldShort v then 6 else 7
    let x := bits w (fieldAt v + fb + 3) (fieldAt v)
    (v, x / 2 ^ fb % 8, bit x (fb + 3), x % 2 ^ fb))

/-- Checks of Table 8.4: the reason of the first that fails; none for a consistent block. -/
def blockFault (slot gen t w : Nat) : Option Nat :=
  let b := bits w 13 6
  let fs := blockFields w
  let e (x : Nat × Nat × Bool × Nat) : Nat := tableEntry t x.2.1
  if bits w 1 0 ≠ slot then some 1
  else if bits w 5 2 ≠ gen then some 2
  else if b = 0xFF then some 3
  else if fs.any (fun x => e x == entryUnused) then some 4
  else if fs.any (fun x => isOffset (e x) && decide (b < e x + 1)) then some 4
  else if fs.any (fun x => e x == entryZero && x.2.2.2 != 0) then some 4
  else if b ≠ 0 ∧ !fs.any (fun x => e x == 0) then some 4
  else none

/-- The values of a consistent block (R184). -/
def blockValues (t w : Nat) : List Nat :=
  (blockFields w).map (fun x => fieldValue t (bits w 13 6) (fieldShort x.1) x.2.1 x.2.2.1 x.2.2.2)

/-- Where block j of a DECOMPRESS cue lies, and where its values go (Table 8.5). -/
def decodeAddr (c : Cue) (j : Nat) : Nat := runBlocks c (j / cM c) + 89 * (j % cM c)
def decodeOut (c : Cue) (j : Nat) : Nat := runValues c (j / cM c) + 64 * (fmtD (cFmtOut c)).width / 8 * (j % cM c)

/-- LAST_BLOCK_DAMAGE (Table 8.10). -/
def blockDamageWord (reason unit outcome addr : Nat) : Nat :=
  reason + 2 ^ 4 * unit + 2 ^ 5 * outcome + 2 ^ 7 + 2 ^ 8 * addr

/-- The outcome of the last damaged block, when that is the block at `addr`. -/
def State.damageOutcome (s : State) (addr outcome : Nat) : State :=
  let w := s.obj Reg.lastBlockDamage
  if bits w 55 8 = addr then s.setObj Reg.lastBlockDamage (setBits w 6 5 outcome) else s

/-- The values of a block are written in FMT_OUT and the block leaves flight, once more under RETIRE (R184, R188). -/
def State.releaseBlock (s : State) (pos : Nat) (c : Cue) (j w charged : Nat) : State :=
  let f := fmtD (cFmtOut c)
  let vs := (blockValues (s.slotTab (zSlot c)) w).map (fun x => decodeCode .e16 x)
  let codes := blockValues (s.slotTab (zSlot c)) w
  let d := deliverAll f (rndD (cRnd c)) (cSat c) vs
  let out := if f = .e16 then packCodes 16 codes else d.1
  let s := (s.write (decodeOut c j) out).addFlags pos (if f = .e16 then 0 else d.2.2)
  let s := (s.bump Reg.blocksDecoded).decInFlight charged 1
  let s := if zHold c then s.decInFlight charged 1 else s
  s.onRunning pos (fun r => { r with done := j + 1 })

/-- The bytes of a block as the decoder reads them: as they lie in memory, unless a fault on the way changed them;
none when the memory returns poison (Table 9.2). -/
def State.blockSeen (s : State) (a : Nat) (seen : Option (List Byte)) : Option Nat :=
  if s.isPoisoned a 89 then none else some (ofBytesLE (seen.getD (s.read a 89)))

/-- The checks of a block as it was read. -/
def State.blockCheck (s : State) (c : Cue) : Option Nat → Option Nat
  | none => some 4
  | some w => blockFault (zSlot c) (s.slotGen (zSlot c)) (s.slotTab (zSlot c)) w

/-- A DECOMPRESS cue is running at `pos` and can still complete. -/
def State.decoding (s : State) (pos : Nat) : Option (Cue × Nat) :=
  match s.active, s.runningAt pos with
  | some n, some r => match s.posCue n pos with
    | some (c, _) => if cUnit c = uDecompress ∧ r.fate = none then some (c, r.done) else none
    | none => none
  | _, _ => none

/-- The decoder reads the next block of a cue (R185, R186 step 1). A block with a poisoned line is charged to the slot that
the cue names, its SLOT byte poisoned or not (R188; DESIGN CHOICE, log entry 158). -/
def execBlockDecode (t : Nat) (pos : Nat) (seen : Option (List Byte)) (s0 : State) : Result :=
  let s := s0.tick t
  match s.decoding pos with
  | none => .next s
  | some (c, j) =>
    if cN c * cM c ≤ j || s.damages.any (fun d => d.pos == pos) || s.held [(decodeAddr c j, 89)] then .next s
    else
      let a := decodeAddr c j
      let w := s.blockSeen a seen
      let charged := match w with
        | some w => bits w 1 0
        | none => zSlot c
      let fault := s.blockCheck c w
      let s := (s.notePoison a 89 2).bump (Reg.slotInFlight charged)
      match w, fault with
      | some w, none => .next (s.releaseBlock pos c j w charged)
      | _, r =>
        let reason := r.getD 4
        let s := (s.event 0x500A a reason).bump Reg.blocksDamaged
        let s := s.setObj Reg.lastBlockDamage (blockDamageWord reason (zUnit c) 3 a)
        .next { s with damages := s.damages ++ [⟨pos, j, a, false, charged⟩] }

/-- A damaged block is resolved: its values are written, or its cue cannot complete. It is released from the slot that its
first read charged, whatever SLOT the block that passed has (R188; DESIGN CHOICE, log entry 159). -/
def State.resolveDamage (s : State) (pos : Nat) (c : Cue) (d : Damage) (w : Option Nat) (outcome : Nat) : State :=
  let s := { s with damages := s.damages.filter (fun x => x.pos != pos) }
  let s := s.damageOutcome d.addr outcome
  match w with
  | some w => s.releaseBlock pos c d.block w d.slot
  | none => (s.decInFlight d.slot 1).doom pos endStreamFailed

/-- The parcels that hold the bytes of a block, when a LINE stream of the active sheet wrote them all; the latest
writer of each byte counts (R186 step 3). -/
def State.blockParcels (s : State) (a : Nat) : Option (List (Nat × Nat)) :=
  let hit (x : Nat) : Option (Nat × Nat) :=
    (s.landings.find? (fun l =>
      let k := wireToMem l.w (x - l.base)
      decide (l.base ≤ x) && decide (l.at_ ≤ k) && decide (k < l.at_ + l.len))).map (fun l => (l.stream, l.psn))
  (((List.range 89).map (fun k => hit (a + k))).mapM id).map List.eraseDups

/-- The block has been read once more (R186 steps 2 and 3). -/
def execDamageRefetch (t : Nat) (pos : Nat) (seen : Option (List Byte)) (s0 : State) : Result :=
  let s := s0.tick t
  match s.decoding pos, s.damages.find? (fun d => d.pos == pos && !d.requested) with
  | some (c, _), some d =>
    if s.held [(d.addr, 89)] then .next s
    else
      let w := s.blockSeen d.addr seen
      let s := s.notePoison d.addr 89 2
      match s.blockCheck c w with
      | none => .next ((s.bump Reg.damageRefetched).resolveDamage pos c d w 0)
      | some r =>
        let last := s.obj Reg.lastBlockDamage
        let s := if bits last 55 8 = d.addr then s.setObj Reg.lastBlockDamage (setBits last 3 0 r) else s
        match s.blockParcels d.addr with
        | some ps =>
          let s := { s with damages := s.damages.map (fun x => if x.pos = pos then { x with requested := true } else x) }
          .next (ps.foldl (fun u p => u.rerequest p.1 p.2 pos) s)
        | none => .next (s.resolveDamage pos c d none 2)
  | _, _ => .next s

/-- The re-requests of the cue at a position, over every link. -/
def State.rereqsOf (s : State) (pos : Nat) : List Rereq :=
  (s.links.flatMap (fun l => l.2.rereqs)).filter (fun r => r.pos == pos)

/-- They are forgotten. -/
def State.dropRereqs (s : State) (pos : Nat) : State :=
  s.links.foldl (fun u l => u.setLink l.1 { l.2 with rereqs := l.2.rereqs.filter (fun r => r.pos != pos) }) s

/-- The re-requests for a damaged block have ended (R186 steps 3 and 4). -/
def execDamageRerequestDone (t : Nat) (pos : Nat) (s0 : State) : Result :=
  let s := s0.tick t
  match s.decoding pos, s.damages.find? (fun d => d.pos == pos && d.requested) with
  | some (c, _), some d =>
    let rs := s.rereqsOf pos
    if rs.any (fun r => r.outcome.isNone) || s.held [(d.addr, 89)] then .next s
    else
      let w := s.blockSeen d.addr none
      let s := (s.dropRereqs pos).notePoison d.addr 89 2
      if rs.all (fun r => r.outcome == some true) && (s.blockCheck c w).isNone then
        .next ((s.bump Reg.damageRerequested).resolveDamage pos c d w 1)
      else .next (s.resolveDamage pos c d none 2)
  | _, _ => .next s

/-- A DECOMPRESS cue ends: a block it still works on leaves flight (R188). LAST_BLOCK_DAMAGE of a block that an abort
leaves unresolved keeps OUTCOME 0b11, since Table 8.10 has no code for it (DESIGN CHOICE, log entry 137). -/
def State.endDecompress (s : State) (pos : Nat) : State :=
  let s := (s.damages.filter (fun d => d.pos == pos)).foldl (fun u d => u.decInFlight d.slot 1) s
  State.dropRereqs { s with damages := s.damages.filter (fun d => d.pos != pos) } pos

/-! ### Slots (R187, R189) -/

/-- JOURNAL_EN and JOURNAL_TABLE_SLOT of a program record (Table 7.2). -/
def pgJournal (r : Nat) : Bool := bit r 36
def pgTableSlot (r : Nat) : Nat := bits r 41 40

/-- The sheet of slot n names table slot k (R187). -/
def State.namesTable (s : State) (n k : Nat) : Bool :=
  (List.range (hCueCount (s.hdr n))).any (fun i =>
    let c := s.cueAt n i
    (cUnit c == uCompress || cUnit c == uDecompress) && zSlot c == k)
  || (List.range 16).any (fun p =>
    let r := tget 0 (s.slotSt n).copies (Reg.programRecord p)
    pgJournal r && pgTableSlot r == k)

/-- SLOT_NAMED (Table 8.9). -/
def State.slotNamedWord (s : State) (k : Nat) : Nat :=
  b2n (s.armedSlots.any (fun n => s.namesTable n k))
  + 2 * b2n (match s.active with
    | some n => s.namesTable n k
    | none => false)

/-- A refused slot write is reported (R187). -/
def State.tableRefused (s : State) (k : Nat) (st : Status) : Status × State :=
  (st, (s.event 0x500B k st).bump Reg.tableWritesRefused)

/-- The write of SLOT_TABLE (R187). -/
def State.writeSlotTable (s : State) (k v : Nat) : Status × State :=
  if bits v 127 68 ≠ 0 then (stReservedNonzero, s)
  else if !tableValid (v % 2 ^ 64) || bits v 67 64 == s.slotGen k then (stInconsistent, s)
  else if s.slotNamedWord k ≠ 0 then s.tableRefused k stTableInUse
  else if s.obj (Reg.slotInFlight k) ≠ 0 then s.tableRefused k stTableInFlight
  else (stOk, (s.setObj (Reg.slotTable k) v).setObj (Reg.slotGeneration k) (bits v 67 64))

def execSlotTableWrite (t : Nat) (k : Fin 4) (value : BitVec 128) (s0 : State) : Result :=
  .next ((s0.tick t).managed (fun s => s.writeSlotTable k.val value.toNat))

/-- The write of SLOT_IN_FLIGHT_CLEAR (R189). -/
def State.writeInFlightClear (s : State) (k v : Nat) : Status × State :=
  if v ≠ 1 then (stOutOfRange, s)
  else if s.engState = engRunning ∨ s.engState = engParked ∨ bit (s.slotNamedWord k) 0 then (stSlotBusy, s)
  else (stOk, s.setObj (Reg.slotInFlight k) 0)

def execSlotInFlightClear (t : Nat) (k : Fin 4) (value : Byte) (s0 : State) : Result :=
  .next ((s0.tick t).managed (fun s => s.writeInFlightClear k.val value.toNat))

end Sys2Proof.Machine
end

