-- ==== Sys2Proof/Machine/Optimizer.lean ====
section
/-! DEFINITION. The optimizer sequencer: update programs, pieces, held state, the journal and outer steps
(07_outer_optimizer.md, R156-R172 and R479; R389 of 17_sites_and_resilience.md). -/
namespace Sys2Proof.Machine

/-! ### Program records (R157, Tables 7.2 to 7.4) -/

def pgSteps (r : Nat) : Nat := bits r 7 0
def pgOutFmt (r : Nat) : Nat := bits r 11 8
def pgPlanes (r : Nat) : Nat := bits r 19 16
def pgPlaneFmt (r j : Nat) : Nat := bits r (23 + 4 * j) (20 + 4 * j)
def pgDepth (r : Nat) : Nat := bits r 39 37
def pgStateBase (r : Nat) : Nat := bits r 111 64
def pgPlaneStride (r : Nat) : Nat := bits r 175 128
def pgJournalBase (r : Nat) : Nat := bits r 239 192
def pgJournalStride (r : Nat) : Nat := bits r 303 256
def pgConst (r k : Nat) : Nat := bits r (351 + 32 * k) (320 + 32 * k)
def pgStep (r k : Nat) : Nat := bits r (895 + 64 * k) (832 + 64 * k)
def pgSeed (r : Nat) : Nat := bits r 1407 1344
def pgSalt (r : Nat) : Bool := bit r 1408

def stDest (w : Nat) : Nat := bits w 2 0
def stAddendEn (w : Nat) : Bool := bit w 3
def stAddend (w : Nat) : Nat := bits w 7 4
def stTerms (w : Nat) : Nat := bits w 9 8
def stRnd (w : Nat) : Nat := bits w 12 10
def stSat (w : Nat) : Bool := bit w 13
def stCoef (w t : Nat) : Nat := bits w (19 + 8 * t) (16 + 8 * t)
def stSrc (w t : Nat) : Nat := bits w (23 + 8 * t) (20 + 8 * t)

/-- The sources a step uses. -/
def stSources (w : Nat) : List Nat :=
  (List.range (stTerms w)).map (stSrc w) ++ (if stAddendEn w then [stAddend w] else [])

/-- The steps of a program in order. -/
def pgStepList (r : Nat) : List Nat := (List.range (pgSteps r)).map (pgStep r)

/-- A source that an earlier step must have written, as the DEST that writes it. -/
def sourceDest (c : Nat) : Option Nat := if 4 ≤ c ∧ c ≤ 7 then some (c - 4) else if c = 9 then some 5 else if c = 10 then some 6 else none

/-- A step keeps the conditions of R157, the steps before it having written `done`. -/
def stepGood (r w : Nat) (done : List Nat) : Bool :=
  let planes := pgPlanes r
  decide (stDest w < 7) && decide (1 ≤ stTerms w) && decide (stTerms w ≤ 3) && (rndOf (stRnd w)).isSome
    && (decide (4 ≤ stDest w) || decide (stDest w < planes))
    && (stSources w).all (fun c => decide (c ≤ 10) && (decide (8 ≤ c) || decide (c % 4 < planes))
      && (match sourceDest c with
        | some d => done.contains d
        | none => true))
    && (List.range 3).all (fun t => decide (t < stTerms w) || (stCoef w t == 0 && stSrc w t == 0))
    && (stAddendEn w || stAddend w == 0)

/-- Every step keeps them. -/
def stepsGood (r : Nat) : List Nat → List Nat → Bool
  | _, [] => true
  | done, w :: rest => stepGood r w done && stepsGood r (stDest w :: done) rest

/-- A RESERVED field of a program record is not zero (Tables 7.2 and 7.3). -/
def programReserved (r : Nat) : Bool :=
  [(15, 12), (63, 42), (127, 112), (191, 176), (255, 240), (319, 304), (1535, 1409)].any (fun f => bits r f.1 f.2 != 0)
    || (List.range 8).any (fun k => bits (pgStep r k) 15 14 != 0 || bits (pgStep r k) 63 40 != 0)

/-- The conditions of R157. -/
def programGood (r : Nat) : Bool :=
  if pgSteps r = 0 then r == 0
  else
    let dests := (pgStepList r).map stDest
    decide (pgSteps r ≤ 8) && decide (1 ≤ pgPlanes r) && decide (pgPlanes r ≤ 4)
      && (List.range (pgPlanes r)).all (fun j => decide (pgPlaneFmt r j ≤ 3)) && decide (pgOutFmt r ≤ 8)
      && [pgStateBase r, pgPlaneStride r, pgJournalBase r, pgJournalStride r].all (fun x => x % 64 == 0)
      && stepsGood r [] (pgStepList r) && decide dests.Nodup && dests.contains 4

/-- The write of PROGRAM_RECORD (R157). -/
def State.writeProgram (s : State) (p v : Nat) : Status × State :=
  if programReserved v then (stReservedNonzero, s)
  else if !programGood v then (stInconsistent, s)
  else (stOk, s.setObj (Reg.programRecord p) v)

def execProgramRecordWrite (t : Nat) (p : Fin 16) (value : BitVec 1536) (s0 : State) : Result :=
  .next ((s0.tick t).managed (fun s => s.writeProgram p.val value.toNat))

/-! ### Cues, ranges and outer steps (R158, R159, R164, R167) -/

/-- The copy of the program that a cue of slot n's sheet names (R158). -/
def State.programOf (s : State) (n : Nat) (c : Cue) : Nat := tget 0 (s.slotSt n).copies (Reg.programRecord (oProgram c))

/-- Width in bytes of plane j. -/
def planeWidth (r j : Nat) : Nat := (fmtD (pgPlaneFmt r j)).width / 8

/-- Address of element i of plane j (R156). -/
def planeAddr (r j i : Nat) : Nat := pgStateBase r + j * pgPlaneStride r + i * planeWidth r j

/-- First parameter of an UPDATE cue's range (R158). -/
def rangeFirst (r : Nat) (c : Cue) : Nat := (cAddrAux c - pgStateBase r) / planeWidth r 0

/-- The outer step of iteration t (R167). -/
def State.outerStep (s : State) (iter : Nat) : Nat := (s.opt.base + iter) % 2 ^ 64

/-- The range of an UPDATE cue shares a parameter with that of a running one (R164). -/
def State.rangeBusy (s : State) (n : Nat) (c : Cue) : Bool :=
  let r := s.programOf n c
  let a := rangeFirst r c
  s.eng.running.any (fun x => match s.posCue n x.pos with
    | some (d, _) =>
      isUpdate d && (let b := rangeFirst (s.programOf n d) d
        decide (a < b + cCount d) && decide (b < a + cCount c))
    | none => false)

/-- STATE_STEP after a reset (R388). -/
abbrev stepUnknown : Nat := 0xFFFFFFFFFFFFFFFF

/-- STATE_STEP = s − 1 modulo 2⁶⁴, and known (R389). -/
def State.stepReady (s : State) (step : Nat) : Bool :=
  let x := s.obj Reg.stateStep
  x != stepUnknown && (x + 1) % 2 ^ 64 == step

/-- An UPDATE cue at position p may be dispatched; what it waits for is counted the first time (R389). -/
def State.commitGate (s : State) (p step : Nat) : Bool × State :=
  if !s.quorum then
    if s.eng.heldQuorum.contains p then (false, s)
    else (false, State.bump { s with eng := { s.eng with heldQuorum := p :: s.eng.heldQuorum } } Reg.quorumHolds)
  else if !s.stepReady step then
    if s.eng.heldState.contains p then (false, s)
    else (false, State.bump { s with eng := { s.eng with heldState := p :: s.eng.heldState } } Reg.stateHolds)
  else (true, s)

/-- The hold of an UPDATE cue whose range is busy is counted once (R164). -/
def State.countRangeHold (s : State) (p : Nat) : State :=
  if s.eng.heldRange.contains p then s
  else State.bump { s with eng := { s.eng with heldRange := p :: s.eng.heldRange } } Reg.rangeHolds

/-- σ of a SKETCH or UNSKETCH cue (R170). -/
def State.sketchSigma (s : State) (n : Nat) (c : Cue) (iter : Nat) : Nat :=
  let r := s.programOf n c
  if pgSalt r then pgSeed r ^^^ s.outerStep iter else pgSeed r

/-- An UPDATE cue begins. -/
def State.startUpdate (s : State) (pos : Nat) : State :=
  { s with opt := { s.opt with runs := s.opt.runs ++ [{ pos := pos }] } }

/-! ### One parameter (R159-R162, R166) -/

/-- What the steps of one parameter have at hand, and what they have made. `quants` are the quantities of R166 in order:
partial and delivered value. -/
structure ParamEnv where
  g : Val
  old : List Val
  new : List Val
  t0 : Val := .zero false
  t1 : Val := .zero false
  out : Nat := 0
  codes : Tab Nat := []
  quants : List (Val × Val) := []
  flags : Nat := 0

/-- Value of a source (Table 7.4). -/
def ParamEnv.source (e : ParamEnv) (c : Nat) : Val :=
  if c < 4 then e.old.getD c (.zero false)
  else if c < 8 then e.new.getD (c - 4) (.zero false)
  else if c = 8 then e.g else if c = 9 then e.t0 else e.t1

/-- Format of a destination (R162). -/
def destFmt (r d : Nat) : Fmt := if d < 4 then fmtD (pgPlaneFmt r d) else if d = 4 then fmtD (pgOutFmt r) else .binary32

/-- The terms and the addend of a step (R162). -/
def stepTerms (r : Nat) (e : ParamEnv) (w : Nat) : List (Val × Val) :=
  (List.range (stTerms w)).map (fun t => (decodeCode .binary32 (pgConst r (stCoef w t)), e.source (stSrc w t)))
def stepAddend (e : ParamEnv) (w : Nat) : Option Val := if stAddendEn w then some (e.source (stAddend w)) else none

/-- One step of a program for one parameter (R162). -/
def runStep (r : Nat) (e : ParamEnv) (w : Nat) : ParamEnv :=
  let x := withAddend (stepAddend e w) (groupSum (stepTerms r e w))
  let f := destFmt r (stDest w)
  let d := deliver f (rndD (stRnd w)) (stSat w) x.1
  let v := decodeCode f d.1
  let e := { e with quants := e.quants ++ [(x.1, v)], flags := e.flags ||| d.2 ||| invalidIf x.2 }
  if stDest w < 4 then { e with new := e.new.set (stDest w) v, codes := tset (2 ^ 64) e.codes (stDest w) d.1 }
  else if stDest w = 4 then { e with out := d.1 }
  else if stDest w = 5 then { e with t0 := v } else { e with t1 := v }

/-- Temporaries that a step reads, as DEST codes. -/
def stTemps (w : Nat) : List Nat := (stSources w).filterMap (fun c => if c = 9 then some 5 else if c = 10 then some 6 else none)

/-- The steps run for a piece whose tile is already applied: OUT and the temporaries it needs (R389). -/
def outputSteps (r : Nat) : List Nat :=
  let ws := pgStepList r
  let reads (ds : List Nat) : List Nat := (ws.filter (fun w => ds.contains (stDest w))).flatMap stTemps
  let a := reads [4]
  let b := a ++ reads a
  ws.filter (fun w => stDest w == 4 || b.contains (stDest w))

/-- The code that is held of plane j's element i for an outer step (R479). -/
def State.heldCode (s : State) (r step j i : Nat) : Option Nat :=
  let a := planeAddr r j i
  (s.opt.held.filter (fun h => h.step == step)).reverse.findSome? (fun h =>
    h.writes.findSome? (fun w => if w.1 ≤ a ∧ a < w.1 + w.2.length then some (ofBytesLE (slice w.2 (a - w.1) (planeWidth r j))) else none))

/-- The value of plane j's element i that a step of outer step `step` reads as OLD_Pj: held if it is held (R479). -/
def State.oldPlane (s : State) (r step j i : Nat) : Val :=
  decodeCode (fmtD (pgPlaneFmt r j)) ((s.heldCode r step j i).getD (s.readLE (planeAddr r j i) (planeWidth r j)))

/-- The partials that G of value x sums (R160). -/
def State.gradientTerms (s : State) (c : Cue) (x : Nat) : List (Val × Val) :=
  (List.range (cK c)).map (fun p => (s.val .e16 (cAddrA c + p * up64 (2 * cCount c)) x, Val.one))

/-- G of value x of the range, before the journal: partial, code, flags (R160). -/
def State.gradient (s : State) (c : Cue) (x : Nat) : Formed × Nat × Nat :=
  let p := groupSum (s.gradientTerms c x)
  let d := Sys2Proof.deliver .e16 .rne false p.1
  (p, d.1, d.2 ||| invalidIf p.2)

/-! ### Pieces (R159, R161, R162, R166, R479) -/

/-- A piece of an UPDATE cue: shard tile, its first parameter, how many. -/
structure Piece where
  tile : Nat
  first : Nat
  count : Nat

/-- The piece of a range that lies in a shard tile (R159). -/
def pieceOf (first n tile : Nat) : Piece :=
  let lo := max first (4096 * tile)
  let hi := min (first + n) (4096 * (tile + 1))
  ⟨tile, lo, hi - lo⟩

/-- Parameters of a shard tile below OPT_PARAM_COUNT. -/
def tileParams (params tile : Nat) : Nat := min (params - 4096 * tile) 4096

/-- The journal's coding of G over a piece: blocks with their numbers (R161). -/
def State.journalBlocks (s : State) (r : Nat) (p : Piece) (codes : List Nat) : List (Nat × Block) :=
  let k := pgTableSlot r
  ((chunks 64 codes.length codes).mapIdx (fun q cs =>
    (p.first / 64 + q, codeBlock k (s.slotGen k) (s.slotTab k) (cs ++ List.replicate (64 - cs.length) 0))))

/-- The first journal block of an outer step opens its entry (R168); the blocks the entry held leave flight (R188).
DEDUCED, log entry 96. -/
def State.openEntry (s : State) (e step : Nat) : State :=
  if tget 0 s.opt.opened e = step + 1 then s
  else
    let s := (List.range 4).foldl (fun u k =>
      let n := tget 0 u.opt.journal (4 * e + k)
      if n = 0 then u
      else State.decInFlight { u with opt := { u.opt with journal := tset 0 u.opt.journal (4 * e + k) 0 } } k n) s
    let s := { s with opt := { s.opt with opened := tset 0 s.opt.opened e (step + 1) } }
    (s.setObj (Reg.journalEntryStep e) step).setObj (Reg.journalEntryBlocks e) 0

/-- Where block q of journal entry e lies (R161). -/
def journalAddr (r e q : Nat) : Nat := pgJournalBase r + e * pgJournalStride r + 89 * q

/-- A journal block is written and is in flight (R161, R188). -/
def State.writeJournal (s : State) (r e : Nat) (b : Nat × Block) : State :=
  let k := pgTableSlot r
  let s := (s.write (journalAddr r e b.1) (bytesLE 89 b.2.word)).countCoded b.2
  let s := s.bump (Reg.slotInFlight k)
  { s with opt := { s.opt with journal := tset 0 s.opt.journal (4 * e + k) (tget 0 s.opt.journal (4 * e + k) + 1) } }

/-- The new state elements of a piece, plane by plane (R156). -/
def planeWrites (r : Nat) (p : Piece) (envs : List ParamEnv) : List (Nat × List Byte) :=
  ((List.range (pgPlanes r)).filter (fun j => (pgStepList r).any (fun w => stDest w == j))).map (fun j =>
    (planeAddr r j p.first, envs.flatMap (fun e => bytesLE (planeWidth r j) (tget 0 e.codes j))))

/-- State elements reach HBM, the tile is applied, and nothing of it is held any more (R388, R479). -/
def State.writeTile (s : State) (tile : Nat) (ws : List (Nat × List Byte)) : State :=
  let s := { s with opt := { s.opt with held := s.opt.held.filter (fun h => h.tile != tile) } }
  ((ws.foldl (fun u w => u.write w.1 w.2) s).setApplied tile).commitIfDue

/-- Shard tiles in the hold (R479). -/
def State.heldTiles (s : State) : List Nat := (s.opt.held.map (fun h => h.tile)).eraseDups

/-- A piece that covers only part of its shard tile is held; once the tile is whole it is written (R479). -/
def State.holdPiece (s : State) (params pos step : Nat) (p : Piece) (ws : List (Nat × List Byte)) : State :=
  let s := { s with opt := { s.opt with held := s.opt.held ++ [⟨p.tile, p.first, p.count, pos, step, ws⟩] } }
  let mine (h : HeldPiece) : Bool := h.tile == p.tile && h.step == step
  let hs := s.opt.held.filter mine
  let lo := 4096 * p.tile
  if coveredFrom (hs.map (fun h => (h.first, h.first + h.count))) (hs.length + 1) lo (lo + tileParams params p.tile) then
    State.writeTile { s with opt := { s.opt with held := s.opt.held.filter (fun h => !mine h) } } p.tile (hs.flatMap (fun h => h.writes))
  else s
where
  /-- The intervals cover everything from p to q. -/
  coveredFrom (l : List (Nat × Nat)) : Nat → Nat → Nat → Bool
    | 0, p, q => decide (q ≤ p)
    | fuel + 1, p, q =>
      if q ≤ p then true
      else match l.find? (fun x => decide (x.1 ≤ p) && decide (p < x.2)) with
        | some x => coveredFrom l fuel x.2 q
        | none => false

/-- The elements of one parameter for its record: one for each quantity (R166). -/
def paramElems (x : Nat) (quants : List (Val × Val)) : List TileElem :=
  quants.map (fun q => { row := x % 4096 / 64, col := x % 64, part := q.1, out := q.2 })

/-- The record of the part of a range's tile that a piece brings: each parameter counts once (R166). -/
def paramRecord (tile : Nat) (recomputed retried : Bool) (ps : List (List TileElem)) : Nat :=
  let r := tileRecord tile recomputed retried ps.flatten
  setBits r 36 24 (ps.countP (fun l => l.any (fun x => x.kind != none)))

/-- A range's tile takes the part of a record that a piece brings; a whole record is counted (R98, R166, R172). -/
def State.recordPart (s : State) (pos : Nat) (c : Cue) (tile part n : Nat) : State :=
  let area := cAddrFlag c + 8 * tile
  match s.opt.runs.find? (fun u => u.pos == pos) with
  | none => s
  | some u =>
    let before := tget 0 u.recs tile
    let r := if before = 0 then part else mergeRecord (s.readLE area 8) part
    let s := s.write area (bytesLE 8 r)
    let s := { s with opt := { s.opt with runs := s.opt.runs.map (fun v =>
      if v.pos = pos then { v with recs := tset 0 v.recs tile (before + n) } else v) } }
    if before + n < min 4096 (cCount c - 4096 * tile) then s
    else
      let s := s.countRecord r
      if recSpecial r then s.bump Reg.optSpecialTiles else s

/-- The range's tiles that a piece reaches into, with its parameters there: (tile, first value, how many). -/
def rangeParts (x n : Nat) : List (Nat × Nat × Nat) :=
  (List.range (n / 4096 + 2)).filterMap (fun k =>
    let tile := x / 4096 + k
    let lo := max x (4096 * tile)
    let hi := min (x + n) (4096 * (tile + 1))
    if lo < hi then some (tile, lo, hi - lo) else none)

/-- The steps that a piece runs (R162, R389). -/
def State.pieceSteps (s : State) (r : Nat) (p : Piece) : List Nat := if s.applied p.tile then outputSteps r else pgStepList r

/-- What a piece reads of plane j: its elements there, but for those that are held (R479). -/
def State.planeReads (s : State) (r step : Nat) (p : Piece) (j : Nat) : List (Nat × Nat) :=
  if s.applied p.tile || !s.opt.held.any (fun h => h.step == step && h.tile == p.tile) then
    [(planeAddr r j p.first, p.count * planeWidth r j)]
  else ((List.range p.count).filter (fun k => (s.heldCode r step j (p.first + k)).isNone)).map (fun k =>
    (planeAddr r j (p.first + k), planeWidth r j))

/-- What a piece of a cue in outer step `step` reads of memory: the site partials, and the planes that some step it runs has
as a source or an addend (R159, R201). -/
def State.pieceReads (s : State) (r step : Nat) (c : Cue) (p : Piece) : List (Nat × Nat) :=
  let x := p.first - rangeFirst r c
  (List.range (cK c)).map (fun k => (cAddrA c + k * up64 (2 * cCount c) + 2 * x, 2 * p.count))
    ++ ((List.range (pgPlanes r)).filter (fun j => (s.pieceSteps r p).any (fun w => (stSources w).contains j))).flatMap
      (s.planeReads r step p)

/-- G over a piece, and the journal blocks that code it (R160, R161). -/
def State.pieceGradients (s : State) (r : Nat) (c : Cue) (p : Piece) : List (Formed × Nat × Nat) × List (Nat × Block) :=
  let gs := (List.range p.count).map (fun k => s.gradient c (p.first - rangeFirst r c + k))
  (gs, if pgJournal r then s.journalBlocks r p (gs.map (fun g => g.2.1)) else [])

/-- What each parameter of a piece begins with: G as the journal's blocks give it back, where there is a journal (R161),
and the old planes. The record of R166 takes G's code as it is before the journal (DESIGN CHOICE, log entry 121). -/
def State.pieceStart (s : State) (r step : Nat) (p : Piece) (gs : List (Formed × Nat × Nat)) (blocks : List (Nat × Block)) : List ParamEnv :=
  let final := if pgJournal r then (blocks.flatMap (fun b => b.2.decoded)).take p.count else gs.map (fun g => g.2.1)
  (List.range p.count).map (fun k =>
    let i := p.first + k
    let hbm (j : Nat) : Val := decodeCode (fmtD (pgPlaneFmt r j)) (s.readLE (planeAddr r j i) (planeWidth r j))
    let js := List.range (pgPlanes r)
    let old := if s.applied p.tile then js.map hbm else js.map (fun j => s.oldPlane r step j i)
    let g := (gs.getD k ((.zero false, false), 0, 0))
    { g := decodeCode .e16 (final.getD k 0), old := old, new := old,
      quants := [(g.1.1, decodeCode .e16 g.2.1)], flags := g.2.2 })

/-- What each parameter of a piece ends with (R159, R162, R389). -/
def State.pieceEnvs (s : State) (r step : Nat) (c : Cue) (p : Piece) : List ParamEnv :=
  let g := s.pieceGradients r c p
  (s.pieceStart r step p g.1 g.2).map (fun e => (s.pieceSteps r p).foldl (runStep r) e)

/-- The residue checks of a piece: of G and of each step it runs, parameter by parameter (R93, R162). -/
def State.pieceSites (s : State) (r step : Nat) (c : Cue) (p : Piece) : Checks := fun f =>
  if p.count ≤ f.elem then none
  else
    let x := p.first - rangeFirst r c + f.elem
    let w := match f.sum with
      | 0 => checkOf .linear [s.gradientTerms c x] none f
      | k + 1 =>
        let ws := s.pieceSteps r p
        let (gs, blocks) := s.pieceGradients r c p
        match ws[k]?, (s.pieceStart r step p gs blocks)[f.elem]? with
        | some w, some e =>
          let e := (ws.take k).foldl (runStep r) e
          checkOf .linear [stepTerms r e w] (stepAddend e w) f
        | _, _ => none
    w.map (fun v => (x / 4096, v))

/-- The effect of a piece that has passed its checks (R159-R162, R166, R389, R479). The encoder's counters take the
blocks that are written, not those of a tile already applied (DESIGN CHOICE, log entry 121). -/
def State.applyPiece (s : State) (n pos : Nat) (c : Cue) (iter : Nat) (p : Piece) (retried : Bool) : State :=
  let r := s.programOf n c
  let params := hParams (s.hdr n)
  let step := s.outerStep iter
  let x := p.first - rangeFirst r c
  let applied := s.applied p.tile
  let blocks := (s.pieceGradients r c p).2
  let envs := s.pieceEnvs r step c p
  let of := fmtD (pgOutFmt r)
  let s := s.write (cAddrOut c + storageBytes of x) (packCodes of.width (envs.map (fun e => e.out)))
  let s := s.addFlags pos (blocks.foldl (fun a b => a ||| b.2.flags) (envs.foldl (fun a e => a ||| e.flags) 0))
  let run := (s.runningAt pos).map (fun q => q.recomputed)
  let s := (rangeParts x p.count).foldl (fun u q =>
    let part := ((envs.drop (q.2.1 - x)).take q.2.2).mapIdx (fun k e => paramElems (q.2.1 + k) e.quants)
    u.recordPart pos c q.1 (paramRecord q.1 ((run.getD []).contains q.1) retried part) q.2.2) s
  let s := if applied || !pgJournal r then s
    else
      let e := step % (pgDepth r + 1)
      let s := blocks.foldl (fun u b => u.writeJournal r e b) (s.openEntry e step)
      { s with opt := { s.opt with runs := s.opt.runs.map (fun v => if v.pos = pos then { v with blocks := v.blocks + blocks.length } else v) } }
  let s := { s with opt := { s.opt with runs := s.opt.runs.map (fun v => if v.pos = pos then { v with pieces := p.tile :: v.pieces } else v) } }
  if applied then s
  else if p.count = tileParams params p.tile then s.writeTile p.tile (planeWrites r p envs)
  else s.holdPiece params pos step p (planeWrites r p envs)

/-- The output bytes of a piece (R159). -/
def pieceOutput (r : Nat) (c : Cue) (p : Piece) : Nat × Nat :=
  let f := fmtD (pgOutFmt r)
  let x := p.first - rangeFirst r c
  (cAddrOut c + storageBytes f x, storageBytes f (x + p.count) - storageBytes f x)

/-- Shard tiles of an UPDATE range in order. -/
def rangeTiles (r : Nat) (c : Cue) : List Nat :=
  let a := rangeFirst r c
  ((List.range (cCount c / 4096 + 2)).map (fun k => a / 4096 + k)).filter (fun t => decide (4096 * t < a + cCount c))

/-- The piece may run on the cell: a retry after a tile fault runs on the cell it was dispatched to, from the first piece
not yet written or held (R95, R162). -/
def State.pieceRuns (s : State) (r : Running) (u : UpdateRun) (pg : Nat) (c : Cue) (tile cell : Nat) : Bool :=
  r.fate.isNone && r.waiting.isEmpty && s.cellFree r.pos cell && !u.pieces.contains tile
    && (match r.onto.getLast? with
      | none => true
      | some y => y == cell && (rangeTiles pg c).find? (fun t => !u.pieces.contains t) == some tile)

/-- The output regions of a sheet's UPDATE cues. -/
def State.outputAreas (s : State) (n : Nat) : List (Nat × Nat) :=
  (((List.range (hCueCount (s.hdr n))).map (s.cueAt n)).filter isUpdate).map (fun c =>
    (cAddrOut c, storageBytes (fmtD (cFmtOut c)) (cCount c)))

/-- Where cue x last stood before position p in an earlier outer step: in the pass before, or, when p is in a later pass than
the first, in the prologue. -/
def earlierStep (h p x : Nat) : Option Nat :=
  let inBody := decide (hLoopStart h ≤ x) && decide (x < hLoopEnd h)
  match unrolled h p with
  | some (_, k + 1) => if inBody then some (positionOf h x k) else if x < hLoopStart h then some x else none
  | some (y, 0) => if inBody ∧ hLoopEnd h ≤ y ∧ 2 ≤ hLoopCount h then some (positionOf h x (hLoopCount h - 1)) else none
  | none => none

/-- Positions of the HOST_OUT cues that send the output regions and stood before position p in the outer step before its
own: those of the prologue, and those of the body. -/
def State.hostOuts (s : State) (n p : Nat) : List (List Nat) :=
  let h := s.hdr n
  let xs := (List.range (hCueCount h)).filter (fun x =>
    let c := s.cueAt n x
    cUnit c == uHostOut && (s.outputAreas n).any (fun a => overlap (cAddrA c) (cCount c) a.1 a.2))
  let of (l : List Nat) : List Nat := l.filterMap (earlierStep h p)
  [of (xs.filter (fun x => decide (x < hLoopStart h))), of (xs.filter (fun x => decide (hLoopStart h ≤ x)))]

/-- The output regions are read-only for the step of the cue at a position: the parameter parcels of an earlier step have
begun to go to the host, and it has not returned the credit of the last of them (R24). An outer step is that of R167
(DEDUCED, log entry 108). -/
def State.outputReadOnly (s : State) (n pos : Nat) : Bool :=
  let h := s.hdr n
  let step (p : Nat) : Option Nat := (unrolled h p).map Prod.snd
  (s.hostOuts n pos).any (fun ps =>
      ps.any (fun p => s.eng.isEnded p || (s.runningAt p).isSome) && ps.any (fun p => !s.eng.isEnded p))
    || s.hostReads (s.outputAreas n) (fun p => decide (p < pos) && step p != step pos)

/-- A piece of an UPDATE range runs on a cell (R95, R159, R162, R164, R479). It waits while the output region is read-only
for its step or the host still reads its output bytes (R24), and while the hold has no room for its tile (R479). -/
def execUpdatePiece (t : Nat) (pos : Nat) (tile : Nat) (cell : Fin 16) (faults : List CellFault) (s0 : State) : Result :=
  let s := s0.tick t
  match s.active, s.runningAt pos, s.opt.runs.find? (fun u => u.pos == pos) with
  | some n, some r, some u =>
    match s.posCue n pos with
    | none => .next s
    | some (c, _, iter) =>
      let pg := s.programOf n c
      let p := pieceOf (rangeFirst pg c) (cCount c) tile
      let whole := decide (p.count = tileParams (hParams (s.hdr n)) tile)
      let reads := s.pieceReads pg (s.outerStep iter) c p
      let noRoom := !whole && !s.applied tile && !s.heldTiles.contains tile && decide (64 ≤ s.heldTiles.length)
      if p.count = 0 || !s.pieceRuns r u pg c tile cell.val || noRoom || s.outputReadOnly n pos || s.hostReads [pieceOutput pg c p]
          || s.held (pieceOutput pg c p :: reads) then .next s
      else if s.anyPoison reads then .next ((s.notePoisons reads).doom pos endStreamFailed)
      else
        let retry := !r.onto.isEmpty
        let x := s.shareChecks pos cell.val ((p.first - rangeFirst pg c) / 4096) 0 retry
          (s.pieceSites pg (s.outerStep iter) c p) faults
        if !x.2 then .next x.1 else .next (x.1.applyPiece n pos c iter p retry)
  | _, _, _ => .next s

/-- Every piece of the range is written or held (Table 7.5). -/
def State.updateDone (s : State) (n pos : Nat) (c : Cue) : Bool :=
  match s.opt.runs.find? (fun u => u.pos == pos) with
  | some u => (rangeTiles (s.programOf n c) c).all u.pieces.contains
  | none => false

/-- LAST_INVALID_RANGE (Table 7.9). -/
def invalidRangeWord (first n idx : Nat) : Nat := first % 2 ^ 48 + 2 ^ 48 * (n % 2 ^ 48) + 2 ^ 96 * idx

/-- An UPDATE cue ends: its parameters and blocks count, or its held pieces are discarded and its range is recorded as
invalid (R165, R168, R172, R479). -/
def State.endUpdate (s : State) (n pos idx : Nat) (c : Cue) (iter status : Nat) : State :=
  let r := s.programOf n c
  let blocks := match s.opt.runs.find? (fun u => u.pos == pos) with
    | some u => u.blocks
    | none => 0
  let s := { s with opt := { s.opt with runs := s.opt.runs.filter (fun u => u.pos != pos) } }
  if status = endComplete then
    let s := s.bumpBy Reg.parametersUpdated (cCount c)
    if pgJournal r then s.bumpBy (Reg.journalEntryBlocks (s.outerStep iter % (pgDepth r + 1))) blocks else s
  else
    if status ≠ endAborted ∧ status ≠ endTileFault then s
    else
      let s := { s with opt := { s.opt with held := s.opt.held.filter (fun h => h.pos != pos) } }
      s.setObj Reg.lastInvalidRange (invalidRangeWord (rangeFirst r c) (cCount c) idx)

/-- The write of OUTER_STEP_START (R167). -/
def State.writeOuterStepStart (s : State) (v : Nat) : Status × State :=
  if s.engState = engRunning ∨ s.engState = engParked then (stSlotBusy, s)
  else (stOk, ({ s with opt := { s.opt with written := true } } : State).setObj Reg.outerStepStart v)

end Sys2Proof.Machine
end

