-- ==== Sys2Proof/Machine/Cues.lean ====
section
/-! DEFINITION. Cues from dispatch to end: how each class starts, when it is done, and aborts (05_cue_sheets.md, R109,
R120, R127-R129, R133-R135; R205, R206; R430). -/
namespace Sys2Proof.Machine

/-! ### MOVE, stream and CHECK cues -/

/-- The prefetcher of a MOVE cue, and the sheet's copy of its descriptor (R204). -/
def moveUnit (c : Cue) : Nat := bits (cArg c) 5 0
def State.moveDesc (s : State) (n : Nat) (c : Cue) : Nat := tget 0 (s.slotSt n).copies (Reg.prefetchDescriptor (moveUnit c))

/-- Rows of one side of a MOVE cue (R205). -/
def moveRows (c : Cue) (base stride : Nat) : List (Nat × Nat) :=
  (List.range (cM c)).map (fun r => (base + r * (if stride = 0 then cN c else stride), cN c))

/-- Areas that a cue of slot n's sheet reads and writes, the rows of a MOVE cue among them. -/
def State.cueReads (s : State) (n : Nat) (c : Cue) : List (Nat × Nat) :=
  if cUnit c = uMove then moveRows c (cAddrA c) (dSrc (s.moveDesc n c)) else readAreas c
def State.cueWrites (s : State) (n : Nat) (c : Cue) : List (Nat × Nat) :=
  if cUnit c = uMove then moveRows c (cAddrOut c) (dDst (s.moveDesc n c)) else writeAreas c

/-- A row of a MOVE cue is written. Its first `n` bytes lie in an earlier row too, and the order of the writes is not defined
(R206): a free value says of each whether this row's stands or the earlier one's (DESIGN CHOICE, log entry 160). -/
def State.writeRow (s : State) (dst n : Nat) (row : List Byte) : State :=
  let f := State.freeBytes n s
  let mixed := ((row.take n).zip ((s.read dst n).zip f.1)).map (fun x => if x.2.2.getLsbD 0 then x.1 else x.2.1)
  f.2.write dst (mixed ++ row.drop n)

/-- A MOVE cue copies its rows (R205), which overlap where DST_STRIDE is below N. -/
def State.startMove (s : State) (n pos : Nat) (c : Cue) : State :=
  let src := s.cueReads n c
  let stride := dDst (s.moveDesc n c)
  let shared := if stride = 0 then 0 else cN c - stride
  if s.anyPoison src then (s.notePoisons src).doom pos endStreamFailed
  else (src.zip (s.cueWrites n c)).foldl (fun u p =>
    u.writeRow p.2.1 (if p.2.1 = cAddrOut c then 0 else shared) (s.read p.1.1 p.1.2)) s

/-- The elements that a stream cue's bytes are made of, in bytes (R50, R60): those of FMT_A for the outgoing operand and of
FMT_OUT for the incoming result. Code 0 is binary64 on a HOST stream; a LINE stream carries compressed blocks too, which no
code names and whose bytes keep their order (R174), and code 0 leaves bytes as they stand there, as does a format whose
elements do not fill the bytes (DESIGN CHOICE, log entry 122). -/
def streamWidth (c : Cue) : Nat :=
  let f := if cUnit c = uHostOut ∨ cUnit c = uLineOut then cFmtA c else cFmtOut c
  let w := wireWidth (fmtD f)
  if cCount c % w ≠ 0 ∨ f = 0 ∧ (cUnit c = uLineOut ∨ cUnit c = uLineIn) then 1 else w

/-- Where cue x first stands behind the cue `idx` at position p: in the same pass of the body, or in the next one when it
stands before it; none when it does not come again. -/
def nextPosition (h p idx x : Nat) : Option Nat :=
  let k := ((unrolled h p).map Prod.snd).getD 0
  let inBody (y : Nat) : Bool := decide (hLoopStart h ≤ y) && decide (y < hLoopEnd h)
  if idx < x then (if hLoopEnd h ≤ x ∧ unrolledLength h = none then none else some (positionOf h x (if inBody idx then k else 0)))
  else if inBody x ∧ inBody idx ∧ (hLoopCount h = 0 ∨ k + 1 < hLoopCount h) then some (positionOf h x (k + 1))
  else none

/-- Positions of the cues that read a region after the cue `idx` at position p has landed it, and before a LINE_IN cue lands
in it again: the combine of that landing (R23). -/
def State.readersOf (s : State) (n p idx : Nat) (a : Nat × Nat) : List Nat :=
  let h := s.hdr n
  let cues := (List.range (hCueCount h)).filterMap (fun x => (nextPosition h p idx x).map (fun q => (q, s.cueAt n x)))
  let again := (cues.filter (fun y => cUnit y.2 == uLineIn && overlap a.1 a.2 (cAddrOut y.2) (cCount y.2))).map Prod.fst
  (cues.filter (fun y => (s.cueReads n y.2).any (fun b => overlap a.1 a.2 b.1 b.2) && again.all (fun q => decide (y.1 < q)))).map
    Prod.fst

/-- The area of a LINE_IN cue at position p still holds another iteration's data that the combine has not consumed: a cue
that reads it has not ended COMPLETE (R23; DEDUCED, log entry 139). -/
def State.regionFull (s : State) (p iter : Nat) (c : Cue) : Bool :=
  s.eng.regions.any (fun g => decide (g.pos < p) && g.iter != iter && overlap g.addr g.len (cAddrOut c) (cCount c))

/-- A LINE_IN cue covers its bytes; nothing lands, and none of its parcels is taken, while its region is full: what R278 has
granted up to then is the hold of RX_HOLD_PARCELS alone (R23; DEDUCED, log entry 139). -/
def State.startLanding (s : State) (n pos idx iter : Nat) (c : Cue) : State :=
  let rs := s.readersOf n pos idx (cAddrOut c, cCount c)
  let full := s.regionFull pos iter c
  let s : State := if rs.isEmpty then s
    else { s with eng := { s.eng with regions := s.eng.regions ++ [⟨pos, iter, cAddrOut c, cCount c, rs⟩] } }
  s.coverCue (cStream c) (cCount c) (some (cAddrOut c)) (streamWidth c) pos full

/-- The stream of a LINE_IN cue, whose stretches an end of the cue opens. -/
def State.landingStream (s : State) (n pos : Nat) : List Nat := match s.posCue n pos with
  | some (c, _) => if cUnit c = uLineIn then [cStream c] else []
  | none => []

/-- The combine has consumed regions: the LINE_IN cues that wait for them open, in the order of their dispatch. What follows
on their streams, and on those of `also`, is one instant's. -/
def State.openLandings (s : State) (n : Nat) (also : List Nat) : State :=
  let x := s.eng.running.foldl (fun (x : State × List Nat) r => match x.1.posCue n r.pos with
    | some (c, _) =>
      let i := cStream c
      if cUnit c = uLineIn ∧ (x.1.stream i).covers.any (fun y => y.closed && y.pos == r.pos) ∧ !x.1.regionFull r.pos r.iter c then
        (x.1.openCovers i r.pos, x.2 ++ [i])
      else x
    | none => x) (s, also)
  x.1.settleAll x.2.eraseDups

/-- A stream-moving cue begins; on a stream that has failed it cannot complete (R286, R353). -/
def State.startStream (s : State) (n pos idx iter : Nat) (c : Cue) : State :=
  let i := cStream c
  let len := cCount c
  if (s.stream i).failed.isSome then s.doom pos endStreamFailed
  else if cUnit c = uHostOut ∨ cUnit c = uLineOut then
    s.push i ([.mem (cAddrA c) 0 len (streamWidth c) pos] ++ (if cFlush c then [.flush] else []))
  else if cUnit c = uLineIn then s.startLanding n pos idx iter c
  else s.coverCue i len (some (cAddrOut c)) (streamWidth c) pos

/-- A CHECK cue takes its unit, and with CONTINUE = 0 loads INIT; the context it found is kept for an end other than COMPLETE
(R427, R429, R430). -/
def State.takeCheckUnit (s : State) (n pos : Nat) (c : Cue) : State :=
  let u := kUnit c
  let s := s.onRunning pos (fun r => { r with goal := s.obj (Reg.cvRunning u), done := s.obj (Reg.cvRunningLength u) })
  let s := s.setCv u { s.cv u with cue := some pos }
  if kContinue c then s else s.cvLoad u (s.checkCfg n c)

/-- A CHECK cue runs, in increasing address: at the first poisoned line it can go no further (R427, R430). -/
def State.startCheck (s : State) (n pos : Nat) (c : Cue) : State :=
  let u := kUnit c
  let cfg := s.checkCfg n c
  match (s.poisoned (cAddrA c) (cCount c)).head? with
  | some l => ((s.cvFeed u cfg (cAddrA c) (l - cAddrA c)).notePoison l 1 3).doom pos endStreamFailed
  | none => s.cvFeed u cfg (cAddrA c) (cCount c)

/-- A CHECK cue ends: its record is written, or the context restored (R430, R431). -/
def State.endCheck (s : State) (n : Nat) (r : Running) (c : Cue) (status : Nat) : State :=
  let u := kUnit c
  let s := s.setCv u { s.cv u with cue := none }
  if status = endComplete then
    let s := s.cvProduce u (s.checkCfg n c) (kFinal c) false
    s.write (cAddrOut c) (bytesLE 16 (s.obj (Reg.cvRecord u)))
  else (s.setObj (Reg.cvRunning u) r.goal).setObj (Reg.cvRunningLength u) r.done

/-! ### Dispatch (R127, R129) -/

/-- A unit of the cue's class can take it (R127, R145, R164, R206, Table 19.5). -/
def State.unitFree (s : State) (n pos : Nat) (c : Cue) (shares : List CellShare) : Bool :=
  let u := cUnit c
  let free := s.cellsCanTake pos c (shares.map (fun h => h.cell.val)) && sharesDivide c shares
  if u = uTile ∨ u = uVector then free
  else if u = uOptimizer then (if isUpdate c then !s.rangeBusy n c else free)
  else if u = uMove then
    s.eng.running.all (fun r => match s.posCue n r.pos with
      | some (d, _) => !(cUnit d == uMove && moveUnit d == moveUnit c)
      | none => true)
  else if u = uCheck then !s.cvBusy (kUnit c)
  else true

/-- The work of a cue that reads and writes its areas in one go, once no access to them is held (R198): of a MOVE, COMPRESS
or CHECK cue, or of one that runs on tensor cells. -/
def State.work (s : State) (n pos : Nat) (c : Cue) (faults : List CellFault) : State :=
  match s.runningAt pos with
  | none => s
  | some r =>
    if s.held (s.cueReads n c ++ s.cueWrites n c) then s.onRunning pos (fun r => { r with idle := some faults })
    else
      let s := s.onRunning pos (fun r => { r with idle := none })
      let u := cUnit c
      if u = uMove then s.startMove n pos c
      else if u = uCompress then s.startCompress pos c
      else if u = uCheck then s.startCheck n pos c
      else s.startTensor pos c r.goal r.shares faults

/-- A running cue whose accesses were held goes on, as far as they are held no more (R198). -/
def State.resume (s : State) (n : Nat) (r : Running) : State :=
  match s.posCue n r.pos with
  | some (c, _) =>
    if cUnit c = uCollective then s.resumeSelf n r.pos c
    else match r.idle with
      | some faults => s.work n r.pos c faults
      | none => s
  | none => s

/-- The hub has retrained its link and the accesses it held go on: those of running cues, of streams that read what they
send, and of the retransmit stores (R198). -/
def execHubLinkRetrained (t : Nat) (h : Fin 4) (s0 : State) : Result :=
  let s := s0.tick t
  let h := h.val
  if bit s.memSt.failedHubs h || bit (s.obj Reg.hubLinkState) h then .next s
  else
    let s := s.setObj Reg.hubLinkState (setBit (s.obj Reg.hubLinkState) h true)
    let s := ((s.bump Reg.hubLinkRetrains).event 0x6001 h 0).points (element 4 h) 500
    let s := match s.active with
      | some n => s.eng.running.foldl (fun (u : State) r => u.resume n r) s
      | none => s
    .next ((s.streams.map Prod.fst).foldl (fun u i => u.pump i) s.readStored)

/-- Network time at which the cue at a position is dispatched: when it took its tokens, if it has waited for its unit since
(DEDUCED, log entry 147). -/
def State.dispatchTime (s : State) (pos : Nat) : Nat := match tget 0 s.eng.takenAt pos with
  | 0 => s.net
  | t + 1 => t

/-- A dispatched cue starts on its unit. A COMPRESS cue's blocks are in flight from here on (R188). -/
def State.startCue (s : State) (n pos : Nat) (c : Cue) (idx iter num : Nat) (shares : List CellShare) (faults : List CellFault) : State :=
  let s := s.notePlan n idx
  let u := cUnit c
  if u = uControl ∧ !isBarrier c then s.finish n pos endComplete 0 s.net
  else
    let onCells := u == uTile || u == uVector || (u == uOptimizer && !isUpdate c)
    let sigma := if u = uOptimizer then s.sketchSigma n c iter else 0
    let r : Running := { pos := pos, idx := idx, iter := iter, time := s.dispatchTime pos, shares := if onCells then shares else [], goal := sigma }
    let e := s.eng
    let s := { s with eng := { e with running := e.running ++ [r], taken := e.taken.filter (fun x => x != pos), takenAt := tset 0 e.takenAt pos 0 } }
    let s := if u = uOptimizer then s.setObj Reg.outerStepCurrent (s.outerStep iter) else s
    if u = uControl then s
    else if onCells ∨ u = uMove then s.work n pos c faults
    else if u = uCollective then s.startCollective n pos c num
    else if u = uOptimizer then s.startUpdate pos
    else if u = uCompress then State.work (s.bumpBy (Reg.slotInFlight (zSlot c)) (cM c)) n pos c faults
    else if u = uDecompress then s
    else if u = uCheck then (s.takeCheckUnit n pos c).work n pos c faults
    else s.startStream n pos idx iter c

/-- A cue whose tokens are taken starts, or waits for its unit. -/
def State.startOrWait (s : State) (n pos : Nat) (c : Cue) (idx iter num : Nat) (shares : List CellShare) (faults : List CellFault) : State :=
  if s.unitFree n pos c shares then s.startCue n pos c idx iter num shares faults
  else
    let s := if isUpdate c && s.rangeBusy n c then s.countRangeHold pos else s
    if s.eng.taken.contains pos then s
    else { s with eng := { s.eng with taken := s.eng.taken ++ [pos], takenAt := tset 0 s.eng.takenAt pos (s.net + 1) } }

/-- The cue of queue q that has its tokens and waits for its unit. -/
def State.takenOf (s : State) (n q : Nat) : Option Nat :=
  s.eng.taken.find? (fun p => match s.posCue n p with
    | some (c, _) => queueOf c == q
    | none => false)

/-- A cue that never started ends: of an UPDATE cue aborted so, the range is recorded as invalid all the same (R165). One that
has its tokens has been dispatched (R131; DEDUCED, log entry 147). -/
def State.endUnstarted (s : State) (n pos st : Nat) : State :=
  let time := if s.eng.taken.contains pos then s.dispatchTime pos else 0
  match s.posCue n pos with
  | some (c, idx, iter) => (if isUpdate c then s.endUpdate n pos idx c iter st else s).finish n pos st 0 time
  | none => s.finish n pos st 0 time

/-- Queue q ends the cue it has reached, when that cue never runs (R111, R134). While a cue of it waits for its unit, the
queue has reached no other (R129). -/
def State.endReached (s : State) (n q : Nat) : State :=
  if !s.dispatching || (s.takenOf n q).isSome then s
  else match s.nextOf n q with
    | some p => match s.reach n p with
      | .ends st => (s.passed q p).endUnstarted n p st
      | _ => s
    | none => s

/-- The second fetch of one cue. A second mismatch ends it CUE_DAMAGED once its queue reaches it. -/
def execCueRefetch (t : Nat) (pos : Nat) (bad : Bool) (s0 : State) : Result :=
  let s := s0.tick t
  match s.active with
  | none => .next s
  | some n =>
    match s.posCue n pos with
    | none => .next s
    | some (c, idx, _) =>
      if tget 0 s.eng.fetched pos ≠ 2 || s.held [(s.cueAddr n idx, 64)] then .next s
      else
        let (well, s) := s.fetchCue n idx
        if well && !bad then .next { s with eng := { s.eng with fetched := tset 0 s.eng.fetched pos 0 } }
        else
          let s := State.bump { s with eng := { s.eng with fetched := tset 0 s.eng.fetched pos 3 } } Reg.cueCrcMismatches
          .next (s.endReached n (queueOf c))

/-- Queue q dispatches its next cue, if it may (R120, R127, R128, R389). `shares` divide its work among cells (R84). -/
def execCueDispatch (t : Nat) (q : Fin 532) (shares : List CellShare) (faults : List CellFault) (s0 : State) : Result :=
  let s := s0.tick t
  let q := q.val
  match s.active with
  | none => .next s
  | some n =>
    if !s.dispatching then .next s
    else match s.takenOf n q with
      | some p => match s.posCue n p with
        | some (c, idx, iter) =>
          let gate := if isUpdate c then s.commitGate p (s.outerStep iter) else (true, s)
          if !gate.1 then .next gate.2 else .next (gate.2.startOrWait n p c idx iter 0 shares faults)
        | none => .next s
      | none => match s.nextOf n q with
        | none => .next s
        | some p => match s.posCue n p, s.reach n p with
          | some (c, idx, iter), .run =>
            let num := tget 0 s.eng.instances (cGroup c)
            if !s.waitsMet c || (cUnit c == uCollective && (s.groupInst (cGroup c)).isSome) then .next s
            else
              let gate := if isUpdate c then s.commitGate p (s.outerStep iter) else (true, s)
              if !gate.1 then .next gate.2
              else .next (((gate.2.takeWaits c).passed q p).startOrWait n p c idx iter num shares faults)
          | _, .ends st => .next ((s.passed q p).endUnstarted n p st)
          | _, _ => .next s

/-! ### End (R109, R129, R133) -/

/-- Landing slots of a COLLECTIVE cue's contributions. -/
def State.landingAreas (s : State) (n : Nat) (c : Cue) : List (Nat × Nat) :=
  if cUnit c = uCollective then
    [(cAddrA c, (s.boundTo n (cGroup c)).foldl (fun m b => if eCollIn b.2 then max m (eMember b.2 + 1) else m) 0 * landingStride c)]
  else []

/-- State planes of an UPDATE cue's range. -/
def State.rangeAreas (s : State) (n : Nat) (c : Cue) : List (Nat × Nat) :=
  if isUpdate c then
    let r := s.programOf n c
    (List.range (pgPlanes r)).map (fun j => (planeAddr r j (rangeFirst r c), cCount c * planeWidth r j))
  else []

/-- Some access of the cue is held, so it has not ended (R198). -/
def State.hubBlocks (s : State) (n : Nat) (c : Cue) : Bool :=
  s.held (s.cueReads n c ++ s.cueWrites n c ++ s.landingAreas n c ++ s.rangeAreas n c)

/-- The cue's class is done with it (Table 5.5). A HANDOVER waits for the host to return the last parameter parcel (R24,
the worked example of chapter 05). -/
def State.cueDone (s : State) (n : Nat) (r : Running) (c : Cue) : Bool :=
  let u := cUnit c
  if u = uControl then s.eng.oldest == r.pos && !(isHandover c && s.hostReads (s.outputAreas n))
  else if u = uTile ∨ u = uVector then r.done == 1
  else if u = uCollective then s.collectiveDone (cGroup c)
  else if u = uOptimizer then (if isUpdate c then s.updateDone n r.pos c else r.done == 1)
  else if u = uDecompress then r.done == cM c * cN c
  else if u = uHostOut then !s.cueBytesWait (cStream c) r.pos
  else if u = uLineOut then s.lineOutDone (cStream c) r.pos
  else if u = uHostIn ∨ u = uLineIn then s.coverDone (cStream c) r.pos
  else true

/-- The status a running cue ends with now, if it ends. A COLLECTIVE cue never ends STREAM_FAILED (R151). -/
def State.endStatus (s : State) (n : Nat) (r : Running) (c : Cue) : Option Nat :=
  match r.fate with
  | some st => if cUnit c = uCollective ∧ st = endStreamFailed then none else some st
  | none => if r.waiting.isEmpty && r.idle.isNone && s.cueDone n r c && !s.hubBlocks n c then some endComplete else none

/-- What a cue that ended otherwise than COMPLETE leaves invalid: its outputs, and landed contributions (R133, R152).
The range of an UPDATE cue stands as it was written (R165); a CHECK cue has written nothing (R430). DEDUCED, log entry 94. -/
def State.spoil (s : State) (n : Nat) (c : Cue) : State :=
  if isUpdate c ∨ cUnit c = uCheck then s
  else
    (s.landingAreas n c ++ s.cueWrites n c).foldl (fun u a => u.invalidate a.1 a.2) s

/-- A dispatched cue ends: its unit lets go of it, and the arbiter ends it (R129, R133). -/
def State.endCue (s : State) (n : Nat) (r : Running) (c : Cue) (status : Nat) : State :=
  let u := cUnit c
  let i := cStream c
  let s :=
    if u = uCollective then s.endCollective n r.pos c status
    else if isUpdate c then s.endUpdate n r.pos r.idx c r.iter status
    else if u = uCompress then s.endCompress c status
    else if u = uDecompress then s.endDecompress r.pos
    else if u = uCheck then s.endCheck n r c status
    else if u = uHostOut ∨ u = uLineOut then (if status = endComplete then s else s.dropCueBytes i r.pos)
    else if u = uHostIn ∨ u = uLineIn then (if status = endComplete then s else s.uncoverCue i r.pos).forgetCovers i r.pos
    else s
  let s := if status = endComplete then s else s.spoil n c
  s.finish n r.pos status r.flags r.time

/-- A unit reports the end of the cue at a position (R129). -/
def execCueEnd (t : Nat) (pos : Nat) (s0 : State) : Result :=
  let s := s0.tick t
  match s.active, s.runningAt pos with
  | some n, some r =>
    match s.posCue n pos with
    | some (c, _) => match s.endStatus n r c with
      | some st => .next ((s.endCue n r c st).openLandings n (s.landingStream n pos))
      | none => .next s
    | none => .next s
  | _, _ => .next s

/-! ### Aborts (R133-R135) -/

/-- Answers of Table 5.10. -/
abbrev ansAborted : Nat := 0
abbrev ansComplete : Nat := 1
abbrev ansEnded : Nat := 2
abbrev ansNotActive : Nat := 3
abbrev ansOutOfRange : Nat := 4
abbrev ansMarksFull : Nat := 5

/-- A cue that has been dispatched, or has its tokens, ends ABORTED. -/
def State.abortAt (s : State) (n pos : Nat) : State :=
  match s.runningAt pos, s.posCue n pos with
  | some r, some (c, _) => s.endCue n r c endAborted
  | _, _ => s.endUnstarted n pos endAborted

/-- Everything dispatched or marked ends ABORTED and the engine stops (R135): the running cues in the order of their
dispatch, then those that have their tokens, then the marked ones (DESIGN CHOICE, log entry 123). -/
def State.abortSheet (s : State) (n : Nat) : State :=
  let ps := (s.eng.running.map (fun r => r.pos) ++ s.eng.taken ++ s.eng.marks).eraseDups
  let s := (ps.foldl (fun u p => u.abortAt n p) s).settleAll (ps.flatMap (s.landingStream n)).eraseDups
  s.setObj Reg.cueEngineState engStopped

/-- The position that cue x and iteration t name; none when the order never reaches it or its status is no longer
kept (R134). -/
def State.abortTarget (s : State) (n x t : Nat) : Option Nat :=
  let h := s.hdr n
  if hCueCount h ≤ x then none
  else
    let p : Option Nat :=
      if x < hLoopStart h ∨ hLoopEnd h ≤ x then
        if t ≠ 0 then none
        else if hLoopEnd h ≤ x ∧ unrolledLength h = none then some (beyond + x)
        else some (positionOf h x 0)
      else
        let c := s.currentPass n
        let k : Int := c + ofSigned 32 (t + 2 ^ 32 - c % 2 ^ 32)
        if k < 0 ∨ k < (c : Int) - 1 ∨ (hLoopCount h ≠ 0 ∧ (hLoopCount h : Int) ≤ k) then none
        else some (positionOf h x k.toNat)
    p.bind (fun p => if p < s.keptFrom n then none else some p)

/-- An abort of one cue is captured (R133, R134): the answer and what follows. -/
def State.abortCue (s : State) (n x t : Nat) : Nat × State :=
  match s.abortTarget n x t with
  | none => (ansOutOfRange, s)
  | some p =>
    match tget 0 s.eng.ended p with
    | 1 => (ansComplete, s)
    | 0 =>
      if (s.runningAt p).isSome || s.eng.taken.contains p then (ansAborted, (s.abortAt n p).openLandings n (s.landingStream n p))
      else if s.eng.marks.contains p then (ansAborted, s)
      else if 64 ≤ s.eng.marks.length then (ansMarksFull, s)
      else (ansAborted, { s with eng := { s.eng with marks := s.eng.marks ++ [p] } })
    | st + 1 => (ansEnded + 2 ^ 8 * st, s)

/-- The write of ABORT_REQUEST (R133-R135, Table 5.11). -/
def State.writeAbortRequest (s : State) (v : Nat) : Status × State :=
  if bits v 15 4 ≠ 0 ∨ bits v 63 56 ≠ 0 ∨ bits v 127 96 ≠ 0 then (stReservedNonzero, s)
  else if 1 < bits v 3 0 then (stOutOfRange, s)
  else
    let r := match s.active with
      | none => (ansNotActive, s)
      | some n =>
        if hRevision (s.hdr n) ≠ bits v 31 16 then (ansNotActive, s)
        else if bits v 3 0 = 1 then (ansAborted, s.abortSheet n)
        else s.abortCue n (bits v 55 32) (bits v 95 64)
    (stOk, r.2.setObj Reg.abortResult r.1)

def execCueAbort (t : Nat) (value : BitVec 128) (s0 : State) : Result :=
  .next ((s0.tick t).managed (fun s => s.writeAbortRequest value.toNat))
def execSheetAbort (t : Nat) (value : BitVec 128) (s0 : State) : Result :=
  .next ((s0.tick t).managed (fun s => s.writeAbortRequest value.toNat))

/-! ### What the engine reports (Table 5.15) -/

/-- The oldest cue not yet ended, or the last that ended while none is open: index and iteration. -/
def State.oldestOpen (s : State) : Nat × Nat :=
  match s.active with
  | none => (0, 0)
  | some n =>
    match s.posCue n s.eng.oldest with
    | some (_, i, k) => (i, k)
    | none => match s.posCue n s.eng.lastEnded with
      | some (_, i, k) => (i, k)
      | none => (0, 0)

/-- The ring that holds the record `back` records before the next one. -/
def ringBack : List Ring → Nat → Option Ring
  | [], _ => none
  | r :: rest, back => if back ≤ r.count then some r else ringBack rest (back - r.count)

/-- COMPLETION_RECORD: the record COMPLETION_SELECT names, if it is one of the last 2^COMPLETION_RING_LOG2 (R132), by the
active or last sheet's ring; a record of an earlier sheet is read from the ring it was written in (DESIGN CHOICE, log
entry 117). -/
def State.completionRecord (s : State) : Option Nat :=
  match s.eng.rings with
  | [] => none
  | ⟨_, _, log⟩ :: _ =>
    let q := s.obj Reg.completionSelect
    let back := (s.obj Reg.completionWriteSeq + 2 ^ 32 - q) % 2 ^ 32
    if back = 0 ∨ 2 ^ log < back then none
    else (ringBack s.eng.rings back).map (fun r => s.readLE (r.base + 32 * (q % 2 ^ r.log2)) 32)

end Sys2Proof.Machine
end

