-- ==== Sys2Proof/Machine/Seal.lean ====
section
/-! DEFINITION. Sheet slots: loading, sealing with the checks of Table 5.7, arming and disarming (R112-R115, R25,
R107, R139, R140, R143, R158, R192, R195, R205, R270, R344, R387, R429). -/
namespace Sys2Proof.Machine

/-! ### Fields of a cue, as bit ranges (Table 5.4) -/

/-- A field of a record: its highest and its lowest bit. -/
abbrev Field := Nat × Nat

def fVop : Field := (7, 4)
def fOrder : Field := (9, 8)
def fConv : Field := (13, 10)
def fFmtA : Field := (17, 14)
def fFmtB : Field := (21, 18)
def fFmtAux : Field := (25, 22)
def fFmtOut : Field := (29, 26)
def fAuxEn : Field := (30, 30)
def fAddrA : Field := (239, 192)
def fAddrB : Field := (287, 240)
def fAddrOut : Field := (335, 288)
def fAddrAux : Field := (383, 336)
def fAddrFlag : Field := (431, 384)
def fM : Field := (455, 432)
def fN : Field := (479, 456)
def fK : Field := (496, 480)

/-- Fields that some class does not use. -/
def classFields : List Field :=
  [fVop, fOrder, fConv, fFmtA, fFmtB, fFmtAux, fFmtOut, fAuxEn, fAddrA, fAddrB, fAddrOut, fAddrAux, fAddrFlag, fM, fN, fK]

/-- Every one of the fields is zero. -/
def zeroFields (c : Nat) (fs : List Field) : Bool := fs.all (fun f => bits c f.1 f.2 == 0)

/-- The class uses the fields `used`: every other one is zero (R108), and no DIM among them is (R110). -/
def usesOnly (c : Cue) (used : List Field) : Bool :=
  zeroFields c (classFields.filter (fun f => !used.contains f))
    && [fM, fN, fK].all (fun f => !used.contains f || bits c f.1 f.2 != 0)

/-- Every area lies where cues may reach (R110, R194, R195). -/
def State.inReach (s : State) (as : List (Nat × Nat)) : Bool := as.all (fun a => s.addressable a.1 a.2)

/-! ### Check 7, class by class -/

def controlGood (c : Cue) : Bool := usesOnly c [] && decide (cArg c ≤ 2)

/-- A BS operand of `rows` rows of reduction length k has its blocks start in every row (R78, DESIGN CHOICE, log entry 70). -/
def blocksAligned (fmt rows k : Nat) : Bool := !(fmt == 9 || fmt == 10) || k % 32 == 0 || decide (rows ≤ 1)

def tileGood (c : Cue) : Bool :=
  usesOnly c ([fOrder, fConv, fFmtA, fFmtB, fFmtOut, fAuxEn, fAddrA, fAddrB, fAddrOut, fAddrFlag, fM, fN, fK]
      ++ (if cAuxEn c then [fFmtAux, fAddrAux] else []))
    && decide (cArg c ≤ 16) && decide (cK c ≤ 65536)
    && blocksAligned (cFmtA c) (cM c) (cK c) && blocksAligned (cFmtB c) (cN c) (cK c)

def vectorGood (c : Cue) : Bool :=
  usesOnly c ([fVop, fOrder, fConv, fFmtA, fFmtOut, fAddrA, fAddrOut, fAddrFlag, fM, fN, fK]
      ++ (if cVop c = 0 then [fFmtB, fAddrB] else []))
    && decide (cVop c ≤ 5) && decide (bits (cArg c) 4 0 ≤ 16) && bits (cArg c) 15 7 == 0
    && (cVop c == 0 || !cBScalar c) && decide (cK c ≤ 1024) && (decide (cVop c ≤ 3) || cK c == 1)

/-- Member indices of a group's streams keep to R139, and a group to the 1,024 members of R137. -/
def membersGood (bs : List Bound) (self : Bool) : Bool :=
  if stageOf bs = 4 then true
  else
    let ms := bs.map (fun b => eMember b.2)
    let top := bs.length + b2n self
    decide (top ≤ 1024) && decide ms.Nodup && ms.all (fun m => decide (m < top))

/-- Landing area of a COLLECTIVE cue (R144); empty when no member contributes over a stream. -/
def landingArea (bs : List Bound) (c : Cue) : List (Nat × Nat) :=
  let ins := (bs.filter (fun b => eCollIn b.2)).map (fun b => eMember b.2)
  if ins.isEmpty then [] else [(cAddrA c, (ins.foldl max 0 + 1) * landingStride c)]

/-- No two areas of a list share a byte. -/
def disjointAreas : List (Nat × Nat) → Bool
  | [] => true
  | a :: r => r.all (fun b => !overlap a.1 a.2 b.1 b.2) && disjointAreas r

def isBlockScaled (fmt : Nat) : Bool := fmt == 9 || fmt == 10

def State.collectiveGood (s : State) (n : Nat) (c : Cue) : Bool :=
  let bs := s.boundTo n (cGroup c)
  let ins := bs.any (fun b => eCollIn b.2)
  usesOnly c ([fVop, fConv, fFmtA, fFmtOut, fAuxEn, fAddrOut, fAddrFlag, fM, fN]
      ++ (if ins then [fAddrA] else []) ++ (if cAuxEn c then [fFmtAux, fAddrAux] else []))
    && bits (cArg c) 15 9 == 0 && decide (1 ≤ cVop c) && decide (cVop c ≤ 3)
    && (!cAuxEn c || cFmtAux c == cFmtA c) && !bs.isEmpty
    && !isBlockScaled (cFmtA c) && !isBlockScaled (cFmtAux c) && !isBlockScaled (cFmtOut c)
    && membersGood bs (cAuxEn c) && (cAuxEn c || !bs.any (fun b => eOutSelf b.2))
    && (ins || cAuxEn c) && decide (cCount c ≤ 0xFFFFFFFF)
    && disjointAreas (landingArea bs c ++ readAreas c ++ writeAreas c) && s.inReach (landingArea bs c)

/-- The state planes and the journal that a program names (R158, R195). -/
def programAreas (r params : Nat) : List (Nat × Nat) :=
  (List.range (pgPlanes r)).map (fun j => (planeAddr r j 0, params * planeWidth r j))
    ++ (if pgJournal r then [(pgJournalBase r, (pgDepth r + 1) * pgJournalStride r)] else [])

/-- What R158 asks of the named program, whatever the operation. -/
def State.programFits (s : State) (r params : Nat) : Bool :=
  pgSteps r != 0 && (List.range (pgPlanes r)).all (fun j => decide (params * planeWidth r j ≤ pgPlaneStride r))
    && (!pgJournal r || decide (89 * ceilDiv params 64 ≤ pgJournalStride r))
    && s.inReach (programAreas r params)

def updateGood (c : Cue) (r params : Nat) : Bool :=
  let n := cCount c
  usesOnly c [fFmtA, fFmtOut, fAddrA, fAddrAux, fAddrOut, fAddrFlag, fM, fN, fK]
    && bits (cArg c) 15 4 == 0 && cFmtA c == 3 && cFmtOut c == pgOutFmt r && decide (cK c ≤ 8)
    && decide (pgStateBase r ≤ cAddrAux c) && (cAddrAux c - pgStateBase r) % (64 * planeWidth r 0) == 0
    && decide (rangeFirst r c + n ≤ params) && (n % 64 == 0 || rangeFirst r c + n == params)

def sketchGood (c : Cue) : Bool :=
  usesOnly c [fConv, fFmtA, fFmtOut, fAddrA, fAddrOut, fAddrFlag, fM, fN, fK]
    && bits (cArg c) 15 9 == 0 && decide (oOp c ≤ 2) && decide (bits (cArg c) 8 6 ≤ 4)
    && [1, 2, 3].contains (cFmtA c) && [1, 2, 3].contains (cFmtOut c)
    && decide (cK c ≤ oBlock c) && cCount c % oBlock c == 0

/-- An OPTIMIZER cue against the program record it names, which SEAL copies (R158). -/
def State.optimizerGood (s : State) (n : Nat) (c : Cue) : Bool :=
  let r := s.obj (Reg.programRecord (oProgram c))
  let params := hParams (s.hdr n)
  s.programFits r params && (if oOp c = 0 then updateGood c r params else sketchGood c)

/-- A MOVE cue against the descriptor it names, which SEAL copies (R204, R205). -/
def State.moveGood (s : State) (c : Cue) : Bool :=
  let d := s.obj (Reg.prefetchDescriptor (moveUnit c))
  let src := (cAddrA c, moveBytes c (bits d 47 0))
  let dst := (cAddrOut c, moveBytes c (bits d 111 64))
  usesOnly c [fAddrA, fAddrOut, fM, fN] && bits (cArg c) 15 6 == 0 && bits d 119 112 != 0
    && s.inReach [src, dst] && disjointAreas [src, dst]

def compressGood (c : Cue) : Bool :=
  usesOnly c ([fFmtA, fAddrA, fAddrOut, fM, fN, fK] ++ (if cFmtA c = 2 then [fConv] else []))
    && bits (cArg c) 15 4 == 0 && !cSat c && (cFmtA c == 3 || cFmtA c == 2) && cN c == 1 && decide (cK c ≤ 64)
    && disjointAreas (readAreas c ++ writeAreas c)

def decompressGood (c : Cue) : Bool :=
  let w := (fmtD (cFmtOut c)).width / 8
  usesOnly c ([fFmtOut, fAddrA, fAddrOut, fM, fN, fK] ++ (if cFmtOut c = 2 then [fConv] else [])
      ++ (if 2 ≤ cN c then [fAddrB, fAddrAux] else []))
    && bits (cArg c) 15 4 == 0 && [1, 2, 3].contains (cFmtOut c) && decide (cN c ≤ 8) && decide (cK c ≤ 64)
    && (decide (cN c < 2) || (decide (cAddrA c + 89 * cM c ≤ cAddrB c) && decide (cAddrOut c + 64 * cM c * w ≤ cAddrAux c)))
    && (readAreas c).all (fun a => (writeAreas c).all (fun b => !overlap a.1 a.2 b.1 b.2))

/-- A cue that moves a stream's bytes: its stream is of the kind and bound to no group (R140). -/
def State.streamCueGood (s : State) (n : Nat) (c : Cue) (kind : Nat) (out_ : Bool) : Bool :=
  let e := s.streamEntry n (cStream c)
  usesOnly c (fM :: fN :: (if out_ then [fAddrA, fFmtA] else [fAddrOut, fFmtOut]))
    && bits (cArg c) 15 (if out_ then 15 else 14) == 0
    && decide (cStream c < hStreamCount (s.hdr n)) && eKind e == kind && !eCollEn e

def checkGood (c : Cue) : Bool := usesOnly c [fAddrA, fAddrOut, fM, fN] && bits (cArg c) 15 5 == 0

/-- A cue passes check 7 of Table 5.7. -/
def State.cueGood (s : State) (n : Nat) (c : Cue) : Bool :=
  let u := cUnit c
  let e := s.streamEntry n (cTokenStream c)
  decide (u ≤ uCheck) && decide (cOrder c ≤ 1) && (rndOf (cRnd c)).isSome
    && [cFmtA c, cFmtB c, cFmtAux c, cFmtOut c].all (fun f => (fmtOf f).isSome)
    && zeroFields c [(191, 184), (503, 497)]
    && [cAddrA c, cAddrB c, cAddrOut c, cAddrAux c, cAddrFlag c].all (fun a => a % 64 == 0)
    && (!bit c 183 || (decide (cTokenStream c < hStreamCount (s.hdr n)) && (eKind e == kindHost || eKind e == kindLine)))
    && (if u = uControl then controlGood c
      else if u = uTile then tileGood c
      else if u = uVector then vectorGood c
      else if u = uCollective then s.collectiveGood n c
      else if u = uOptimizer then s.optimizerGood n c
      else if u = uMove then s.moveGood c
      else if u = uCompress then compressGood c
      else if u = uDecompress then decompressGood c
      else if u = uHostOut then s.streamCueGood n c kindHost true
      else if u = uHostIn then s.streamCueGood n c kindHost false
      else if u = uLineOut then s.streamCueGood n c kindLine true
      else if u = uLineIn then s.streamCueGood n c kindLine false
      else checkGood c)
    && s.inReach (readAreas c ++ writeAreas c)

/-! ### Check 3 (R103, R104, R195) -/

/-- The sections of an image as (offset, length). -/
def State.sections (s : State) (n : Nat) : List (Nat × Nat) :=
  let h := s.hdr n
  [(0, 4096), (hCueOffset h, 64 * hCueCount h), (hSyncOffset h, 65536), (hStreamOffset h, 64 * hStreamCount h),
   (hPlanOffset h, 256 + 64 * s.linkCount n),
   (hPowerOffset h, 8 + 8 * s.readLE (slotBase n + hPowerOffset h) 4)]

/-- The header's RESERVED fields (Table 5.1). -/
def headerFields : List Field :=
  [(63, 48), (163, 163), (183, 178), (207, 195), (255, 249), (319, 305), (511, 495), (16383, 693)]

def State.headerFits (s : State) (n : Nat) : Bool :=
  let h := s.hdr n
  zeroFields (s.readLE (slotBase n) 2048) headerFields
    && decide (1 ≤ hSiteCount h) && decide (hSiteCount h ≤ 8) && decide (hSite h < hSiteCount h)
    && decide (1 ≤ hGatewayCount h) && decide (hGatewayCount h ≤ 1024) && decide (hGateway h < hGatewayCount h)
    && decide (1 ≤ hCueCount h) && decide (hCueCount h ≤ 16777216) && decide (hStreamCount h ≤ 16384)
    && decide (hLoopStart h ≤ hLoopEnd h) && decide (hLoopEnd h ≤ hCueCount h)
    && (s.sections n).all (fun x => x.1 % 64 == 0 && decide (x.1 + x.2 ≤ hImageLength h))
    && disjointAreas (s.sections n)
    && decide (8 ≤ hRingLog2 h) && decide (hRingLog2 h ≤ 24) && hRingBase h % 64 == 0
    && !inStaging (hRingBase h) && s.addressable (hRingBase h) (32 * 2 ^ hRingLog2 h)

/-! ### Check 8: sync and stream tables, power plan, channel plan -/

/-- The collective binding of an entry (R140). -/
def bindingGood (e site : Nat) : Bool :=
  bits e 159 154 == 0 &&
  (if eCollEn e then
    (eCollIn e || eOutSelf e || eOutResult e) && !(eOutSelf e && eOutResult e) && decide (eStage e ≤ 4)
      && (if eStage e = 4 then eKind e == kindLine && eMember e == ePeerSite e && eMember e != site else eKind e == kindHost)
  else bits e 159 128 == 0)

/-- A profile that has been written, or none (R344). -/
def State.profileThere (s : State) (reg : Nat → Nat) (k : Nat) : Bool := k == 0 || s.obj (reg k) != 0

/-- A stream entry alone (R104, R106, R140, R344, Table 12.5). -/
def State.entryGood (s : State) (e site : Nat) : Bool :=
  decide (eKind e ≤ 2) && zeroFields e [(7, 5), (23, 21), (63, 38), (127, 96)]
    && (if eKind e = kindHost then
      zeroFields e [(17, 8), (20, 18), (37, 24), (175, 174), (183, 182), (191, 190), (511, 384)] && bindingGood e site
        && !(s.ringEnabled && (decide (14 ≤ ePort e) || decide (14 ≤ eAltPort e))) && eRxHold e != 0
        && s.profileThere Reg.shaperProfile (eShaper e) && s.profileThere Reg.meterProfile (eMeter e)
    else if eKind e = kindLine then zeroFields e [(167, 164), (191, 174), (511, 224)] && bindingGood e site
    else true)

/-- Every entry of the stream table. -/
def State.entries (s : State) (n : Nat) : List Nat := (List.range (hStreamCount (s.hdr n))).map (s.streamEntry n)

/-- What entries must keep among themselves: one STAGE and no MEMBER twice in a group (R140), no two HOST streams
with one peer and far identifier (R344). -/
def entriesAgree (es : List Nat) : Bool :=
  let bound := es.filter eBound
  bound.all (fun a => bound.all (fun b => eGroup a != eGroup b || eStage a == eStage b))
    && decide (bound.map (fun e => (eGroup e, eMember e))).Nodup
    && decide ((es.filter (fun e => eKind e == kindHost)).map (fun e => (ePeerIp e, eFarStream e))).Nodup

/-- CUE_INDEX rises strictly. -/
def risingFrom : Nat → List Nat → Bool
  | _, [] => true
  | lo, x :: r => decide (lo ≤ x) && risingFrom (x + 1) r

def State.powerPlanGood (s : State) (n : Nat) : Bool :=
  let h := s.hdr n
  let w := s.readLE (slotBase n + hPowerOffset h) 8
  let es := (List.range (w % 2 ^ 32)).map (s.powerEntry n)
  decide (w ≤ 1024) && es.all (fun e => zeroFields e [(31, 24), (63, 48)] && decide (bits e 23 0 < hCueCount h))
    && risingFrom 0 (es.map (fun e => bits e 23 0))

/-- Channels of a route. -/
def routeChannels (r : Nat) : List Nat := (List.range 8).map (fun i => 8 * r + i)

/-- Item 1 of R270 for a channel, route and link entry. -/
def planChannelGood (e : Nat) : Bool :=
  decide (pRole e ≤ 2) && decide (pRate e ≤ 2) && bits e 31 7 == 0 && (pRole e == 1 || pFarSite e == 0)
def planRouteGood (e : Nat) : Bool := zeroFields e [(7, 6), (127, 14)]
def planLinkGood (e : Nat) : Bool :=
  (codeKM (lCode e)).isSome && zeroFields e [(31, 19), (511, 224)]
    && (List.range 4).all (fun i => decide (i < lPositions e) || bits e (39 + 8 * i) (32 + 8 * i) == 0)

/-- Item 2: understudies of a route. -/
def State.understudies (s : State) (n r : Nat) : Nat := ((routeChannels r).filter (fun c => pRole (s.chanEntry n c) == 2)).length

/-- Item 3: a link's far end, and its routes. -/
def State.planLinkEnds (s : State) (n e : Nat) : Bool :=
  let h := s.hdr n
  let routes := (List.range (lPositions e)).map (lPosRoute e)
  lFarSite e != hSite h && decide (lFarSite e < hSiteCount h) && decide (lFarGateway e < hGatewayCount h) && decide routes.Nodup
    && routes.all (fun r => (routeChannels r).any (fun c =>
      pRole (s.chanEntry n c) == 1 && pFarSite (s.chanEntry n c) == lFarSite e))

/-- Line groups of a link's positions. -/
def linkGroups (e : Nat) : List Nat := (List.range (lPositions e)).map (lPosLg e)

/-- Item 5: ranges of Table 12.3. -/
def planLinkRanges (e : Nat) : Bool :=
  decide (1 ≤ lDelayMax e) && decide (lDelayMax e ≤ 1600) && decide (lSkewMax e ≤ 1000) && decide (lRetain e ≤ 100000)

/-- Item 6: no written timeout below its minimum (R291). -/
def planLinkTimers (e : Nat) : Bool :=
  let t := linkTimers e
  decide (t.holeMin ≤ t.hole) && decide (t.retryMin ≤ t.retry) && decide (t.failMin ≤ t.fail)
    && decide (t.hole ≤ 50000) && decide (t.retry ≤ 50000) && decide (t.fail ≤ 50000)

/-- The first number of a list that fails, as PLAN_CHECK_DETAIL of item k (Table 12.10). -/
def planFirst (item : Nat) (xs : List Nat) (good : Nat → Bool) (elem : Nat → Nat) : Option Nat :=
  (xs.find? (fun x => !good x)).map (fun x => item + 256 * elem x)

/-- The first failure of R270, if any. In item 1 the plan header comes before channels, routes and links (DESIGN CHOICE, log
entry 161). -/
def State.planFault (s : State) (n : Nat) : Option Nat :=
  let links := List.range (s.linkCount n)
  let ent := s.linkEntry n
  let named := (List.range 4).filter (fun r => links.any (fun l => (linkRoutes (ent l)).contains r))
  let groups (l : Nat) : List Nat := (List.range l).flatMap (fun k => linkGroups (ent k))
  let lineStreams := (List.range (hStreamCount (s.hdr n))).filter (fun i => eKind (s.streamEntry n i) == kindLine)
  let head := s.readLE (s.planAt n) 64
  planFirst 1 [0] (fun _ => decide (head ≤ 16)) (fun _ => 0xFF)
    <|> planFirst 1 (List.range 32) (fun c => planChannelGood (s.chanEntry n c)) (fun c => c)
    <|> planFirst 1 (List.range 4) (fun r => planRouteGood (s.routeEntry n r)) (fun r => 0x20 + r)
    <|> planFirst 1 links (fun l => planLinkGood (ent l)) (fun l => 0x40 + l)
    <|> planFirst 2 named (fun r => s.understudies n r == 2) (fun r => r)
    <|> planFirst 3 links (fun l => s.planLinkEnds n (ent l)) (fun l => l)
    <|> planFirst 4 links (fun l => decide (groups l ++ linkGroups (ent l)).Nodup) (fun l => l)
    <|> planFirst 5 links (fun l => planLinkRanges (ent l)) (fun l => l)
    <|> planFirst 6 links (fun l => planLinkTimers (ent l)) (fun l => l)
    <|> planFirst 7 lineStreams (fun i =>
        let e := s.streamEntry n i
        decide (eLink e < s.linkCount n) && lFarSite (ent (eLink e)) == ePeerSite e && lFarGateway (ent (eLink e)) == ePeerGateway e)
      (fun i => eLink (s.streamEntry n i) + 256 * i)

/-- Check 8 but for the channel plan. -/
def State.tablesGood (s : State) (n : Nat) : Bool :=
  (List.range 8192).all (fun o => bits (s.syncEntry n o) 63 48 == 0)
    && (s.entries n).all (fun e => s.entryGood e (hSite (s.hdr n))) && entriesAgree (s.entries n) && s.powerPlanGood n

/-! ### Check 9 (R114, R122) -/

/-- Objects that a cue waits on, and those it signals; N = 0 names none. -/
def waitsOf (c : Cue) : List Nat :=
  (if cWait0N c = 0 then [] else [cWait0Obj c]) ++ (if cWait1N c = 0 then [] else [cWait1Obj c])
def signalsOf (c : Cue) : List Nat :=
  (if cSig0N c = 0 then [] else [cSig0Obj c]) ++ (if cSig1N c = 0 then [] else [cSig1Obj c])

/-- The lowest cue at which a conflict appears; `owner` holds queue + 1 of each object taken so far. -/
def State.syncConflict (s : State) (n : Nat) : Tab Nat → List Nat → Option Nat
  | _, [] => none
  | owner, x :: r =>
    let c := s.cueAt n x
    let q := queueOf c + 1
    if (waitsOf c).any (fun o => tget 0 owner o != 0 && tget 0 owner o != q)
        || (signalsOf c).any (fun o => yRemoteEn (s.syncEntry n o)) then some x
    else State.syncConflict s n ((waitsOf c).foldl (fun m o => tset 0 m o q) owner) r

/-! ### SEAL (R114) -/

/-- No cue or plan element is named. -/
abbrev noDetail : Nat := 0xFFFFFFFF

/-- What the checks of Table 5.7 find: status, SEAL_DETAIL, PLAN_CHECK_DETAIL. Check 8 judges the other tables before the plan
(DESIGN CHOICE, log entry 162). -/
def State.sealChecks (s : State) (n : Nat) : Status × Nat × Nat :=
  let h := s.hdr n
  let len := s.obj (Reg.sheetLength n)
  let cues := List.range (hCueCount h)
  if slotSize < len ∨ hImageLength h ≠ len ∨ crcOf crc32 (s.read (slotBase n) len) ≠ s.obj (Reg.sheetCrc n)
      ∨ s.isPoisoned (slotBase n) len = true then (stSheetCheckFailed, noDetail, noDetail)
  else if hMagic h ≠ 0x33455543 ∨ ¬ (0x0300 ≤ hVersion h ∧ hVersion h ≤ 0x0302) then (stSheetVersion, noDetail, noDetail)
  else if s.headerFits n = false then (stMalformedSheet, noDetail, noDetail)
  else if 4096 < hPace h then (stPaceUnreachable, noDetail, noDetail)
  else if 48000000000 < hParams h then (stCapacityExceeded, noDetail, noDetail)
  else match cues.find? (fun x => !cueCrcGood (bytesLE 64 (s.cueAt n x))) with
    | some x => (stSheetCheckFailed, x, noDetail)
    | none => match cues.find? (fun x => !s.cueGood n (s.cueAt n x)) with
      | some x => (stMalformedCue, x, noDetail)
      | none =>
        if s.tablesGood n = false then (stMalformedSheet, noDetail, noDetail)
        else match s.planFault n with
          | some d => (stMalformedSheet, noDetail, d)
          | none => match s.syncConflict n [] cues with
            | some x => (stSyncConflict, x, noDetail)
            | none => (stOk, noDetail, noDetail)

/-- The object that a cue runs on a copy of, if any (R158, R204, R429). -/
def copiedObject (c : Cue) : Option Nat :=
  if cUnit c = uOptimizer then some (Reg.programRecord (oProgram c))
  else if cUnit c = uMove then some (Reg.prefetchDescriptor (moveUnit c))
  else if cUnit c = uCheck then some (Reg.cvConfig (kUnit c)) else none

/-- The copies that SEAL makes. -/
def State.sealCopies (s : State) (n : Nat) : Tab Nat :=
  ((List.range (hCueCount (s.hdr n))).filterMap (fun x => copiedObject (s.cueAt n x))).foldl
    (fun m o => tset (objReset o) m o (s.obj o)) []

/-- The slot goes to a state. -/
def State.toSlot (s : State) (n v : Nat) : State := s.setObj (Reg.slotState n) v

/-- The sealed image is discarded (R113). -/
def State.discardSeal (s : State) (n : Nat) : State :=
  ((s.setSlotSt n {}).setObj (Reg.sheetJobId n) 0).setObj (Reg.sheetRevision n) 0

/-- The checks end (R114, R411). -/
def execSealDone (t : Nat) (slot : Fin 2) (s0 : State) : Result :=
  let s := s0.tick t
  let n := slot.val
  if !(s.slotSt n).sealing || s.held [(slotBase n, min slotSize (s.obj (Reg.sheetLength n)))] then .next s
  else
    let r := s.sealChecks n
    let s := s.notePoison (slotBase n) (min slotSize (s.obj (Reg.sheetLength n))) 1
    let s := ((s.setObj (Reg.sealResult n) r.1).setObj (Reg.sealDetail n) r.2.1).setObj Reg.planCheckDetail r.2.2
    let s := s.setSlotSt n { sealing := false, copies := if r.1 = stOk then s.sealCopies n else [] }
    let s := if r.1 = stOk then
        ((s.toSlot n slotSealed).setObj (Reg.sheetJobId n) (hJobId (s.hdr n))).setObj (Reg.sheetRevision n) (hRevision (s.hdr n))
      else s
    .next (s.event 0x5003 n r.1)

/-! ### Commands (R112, R115, R118) -/

/-- Fields of a stream entry, and for LINE of its link entry, that a carried context keeps (R115). -/
def State.carryKey (s : State) (n i : Nat) : List Nat :=
  let e := s.streamEntry n i
  let l := s.linkEntry n (eLink e)
  [eKind e, ePeerGateway e, ePeerSite e, ePeerStream e]
    ++ (if eKind e = kindLine then [eLink e, lFarSite l, lFarGateway l, lCode l, bits l 63 32] else [])

/-- Some entry with CARRY differs from the active sheet's (R115). -/
def State.carryMismatch (s : State) (n a : Nat) : Bool :=
  (List.range (hStreamCount (s.hdr n))).any (fun i => eCarry (s.streamEntry n i) && s.carryKey n i != s.carryKey a i)

/-- The sheet of slot n has an UPDATE cue. -/
def State.hasUpdate (s : State) (n : Nat) : Bool :=
  (List.range (hCueCount (s.hdr n))).any (fun x => isUpdate (s.cueAt n x))

/-- What ARM finds, in order (R115, R438, R387). -/
def State.armCheck (s : State) (n : Nat) : Status :=
  let h := s.hdr n
  let sites := setBit (s.farSites n) (hSite h) true
  let tie := s.obj Reg.tieBreakSite
  if s.modState = modSafe then stSafeState
  else if s.modState ≠ modReady then stWrongState
  else if s.obj (Reg.armEpoch n) ≤ s.epoch then stEpochPassed
  else if (match s.active with
      | some a => s.engState != engStopped && hJobId (s.hdr a) != hJobId h
      | none => false) then stJobMismatch
  else if (match s.active with
      | some a => s.carryMismatch n a
      | none => false) then stCarryMismatch
  else if s.hasUpdate n && !s.quorumOf n sites then stNoQuorum
  else if s.hasUpdate n && s.obj Reg.stateStep == stepUnknown then stStateUnknown
  else if s.obj Reg.touchHoldoffMs ≠ 0 ∧ s.obj Reg.touchHoldoffMs < s.touchMinAll n then stTimeoutBelowMinimum
  else if s.hasUpdate n && hSiteCount h == 2 && s.obj (Reg.siteWeight 0) == s.obj (Reg.siteWeight 1)
      && !(bit tie 7 && decide (bits tie 2 0 < 2)) then stNoQuorum
  else stOk

def State.openSlot (s : State) (n : Nat) : Status × State :=
  if s.asleep then (stWrongState, s)
  else if s.modState == modSafe && (s.itemFailed 3 || s.itemFailed 4 || !s.boot.memTested) then (stElementFailed, s)
  else if s.slotStateOf n = slotEmpty ∨ s.slotStateOf n = slotSealed then
    (stOk, ((s.discardSeal n).toSlot n slotLoading).setObj (Reg.sheetOffset n) 0)
  else (stSlotBusy, s)

def State.sealSlot (s : State) (n : Nat) : Status × State :=
  if s.asleep then (stWrongState, s)
  else if s.slotStateOf n = slotLoading ∧ (s.slotSt n).sealing = false then
    (stStarted, (s.setSlotSt n { s.slotSt n with sealing := true }).setObj Reg.planCheckDetail noDetail)
  else (stSlotBusy, s)

/-- SEAL_RESULT holds the status of the last SEAL or ARM (Table 5.10). -/
def State.armSlot (s : State) (n : Nat) : Status × State :=
  if s.slotStateOf n = slotSealed then
    let st := s.armCheck n
    let s := s.setObj (Reg.sealResult n) st
    if st = stOk then
      let s := s.setSlotSt n { s.slotSt n with epoch := s.obj (Reg.armEpoch n), deferred := false }
      (st, s.toSlot n slotArmed)
    else (st, s)
  else (if s.asleep then stWrongState else stSlotBusy, s)

/-- An ARMED slot returns to SEALED; tokens and parcels held for its sheet stay held (DEDUCED, log entry 75). -/
def State.disarm (s : State) (n : Nat) : State := s.toSlot n slotSealed

def State.disarmSlot (s : State) (n : Nat) : Status × State :=
  if s.asleep then (stWrongState, s)
  else if s.slotStateOf n = slotArmed then (stOk, s.disarm n) else (stSlotBusy, s)

def State.clearSlot (s : State) (n : Nat) : Status × State :=
  if (s.slotStateOf n = slotLoading ∧ (s.slotSt n).sealing = false) ∨ s.slotStateOf n = slotSealed then
    (stOk, (s.discardSeal n).toSlot n slotEmpty)
  else (stSlotBusy, s)

def execOpenSlot (t : Nat) (slot : Fin 2) (s0 : State) : Result := .next ((s0.tick t).managed (fun s => s.openSlot slot.val))
def execSealSlot (t : Nat) (slot : Fin 2) (s0 : State) : Result := .next ((s0.tick t).managed (fun s => s.sealSlot slot.val))
def execDisarmSlot (t : Nat) (slot : Fin 2) (s0 : State) : Result := .next ((s0.tick t).managed (fun s => s.disarmSlot slot.val))
def execClearSlot (t : Nat) (slot : Fin 2) (s0 : State) : Result := .next ((s0.tick t).managed (fun s => s.clearSlot slot.val))

def execArmSlot (t : Nat) (slot : Fin 2) (s0 : State) : Result := .next ((s0.tick t).managed (fun s => s.armSlot slot.val))

/-- The write of SHEET_DATA (R113). In an Intermission the staging store takes none, and loses its sheet area (R451). -/
def State.writeSheetData (s : State) (n : Nat) (bs : List Byte) : Status × State :=
  let off := s.obj (Reg.sheetOffset n)
  if s.asleep then (stWrongState, s)
  else if s.slotStateOf n ≠ slotLoading ∨ (s.slotSt n).sealing = true then (stSlotBusy, s)
  else if slotSize < off + bs.length then (stOutOfRange, s)
  else (stOk, (s.write (slotBase n + off) bs).setObj (Reg.sheetOffset n) (off + bs.length))

def execSheetDataWrite (t : Nat) (slot : Fin 2) (data : List Byte) (s0 : State) : Result :=
  .next ((s0.tick t).managed (fun s => s.writeSheetData slot.val data))

/-- Writes of SHEET_OFFSET, SHEET_LENGTH and SHEET_CRC, refused as SHEET_DATA is (R113). -/
def State.writeSheetReg (s : State) (n o v : Nat) : Status × State :=
  if s.slotStateOf n ≠ slotLoading ∨ (s.slotSt n).sealing = true then (stSlotBusy, s)
  else (stOk, s.setObj o v)

end Sys2Proof.Machine
end

