-- ==== Sys2Proof/Machine/Activate.lean ====
section
/-! DEFINITION. What happens at epoch boundaries: key switches and activation, and RETIRE and the draining of earlier
sheets' LINE streams (R116-R119, R124, R145, R167, R272, R289, R303, R324, R345, R350, R352, R355, R357, R365, R384). -/
namespace Sys2Proof.Machine

/-! ### Draining (R119, R289) -/

/-- A stripe stores a parcel of stream i that has ended neither acknowledged nor failed. -/
def LinkSt.stores (k : LinkSt) (i : Nat) : Bool :=
  k.inUse && !k.failed
    && (k.ready.any (fun b => b.stream == i)
      || k.stripes.any (fun t => t.abandoned.isNone && t.positions.any (fun p => match p.body with
        | some b => b.stream == i
        | none => false)))

/-- Every stored parcel of stream i has ended. -/
def State.drained (s : State) (i : Nat) : Bool := s.links.all (fun l => !l.2.stores i)

/-- The link still has something to drain. -/
def LinkSt.undrained (k : LinkSt) : Bool :=
  k.inUse && !k.failed && (!k.ready.isEmpty || k.stripes.any (fun t => t.abandoned.isNone))

/-- The first number of 16 and above that no draining link needs. -/
def State.freeLink (s : State) : Nat :=
  let used := (s.links.filter (fun l => l.2.undrained)).map Prod.fst
  ((List.range (used.length + 1)).find? (fun k => !used.contains (16 + k))).elim 16 (fun k => 16 + k)

/-- LINE streams of link l whose failure has been reported, as far as the link stores parcels of theirs (R119). -/
def State.failedOn (s : State) (l : Nat) : List Nat :=
  let k := s.link l
  let now := (s.streams.filter (fun x => x.2.failed.isSome && eKind x.2.entry == kindLine && eLink x.2.entry == l)).map Prod.fst
  (now ++ k.failedStreams.filter (fun i => !now.contains i)).filter k.stores

/-- An ARQ message of the sending side: ABANDON, DRAINED or REPLY (Table 12.7). -/
def fromSender (m : List Byte) : Bool := [0x03, 0x06, 0x07].contains (ofBytesBE (m.take 1))

/-- A link of the sheet that ends goes among the draining ones, if it has anything to drain; its receiving side ends
(R118; DEDUCED, log entry 77). Messages that its sending side has queued go with it, and no other goes out. -/
def State.detachLink (s : State) (l : Nat) : State :=
  let k := s.link l
  let f := s.freeLink
  let msgs := (s.framer.msgs.filter (fun m => m.2.1 != l || (k.undrained && fromSender m.1))).map (fun m =>
    if m.2.1 = l then (m.1, f, m.2.2) else m)
  let s := if k.undrained then s.setLink f { k with rxEnded := true, open_ := [], rereqs := [], failedStreams := s.failedOn l } else s
  State.setLink { s with framer := { s.framer with msgs := msgs }, defects := { s.defects with okFrom := tset none s.defects.okFrom l none } } l {}

/-! ### Loading streams (R117 step 3) -/

/-- The stream is carried from an active sheet. -/
def State.isCarried (s : State) (n : Nat) (prev : Option Nat) (i : Nat) : Bool := prev.isSome && eCarry (s.streamEntry n i)

/-- The context of stream i under slot n's sheet. A stream that had moved to ALT_PORT is on PORT again
(R346; DEDUCED, log entry 76). -/
def State.loadStream (s : State) (n : Nat) (prev : Option Nat) (i : Nat) : StreamCtx :=
  let x := s.stream i
  let e := s.streamEntry n i
  if s.isCarried n prev i then
    if x.port = ePort e then { x with entry := e }
    else { x with entry := e, port := ePort e, lastTx := s.upTime (ePort e), gapAt := x.gapAt.map (fun _ => s.upTime (ePort e)) }
  else { freshStream x e with draining := !s.drained i, armedHeld := x.armedHeld }

/-- Streams that have a context before or after. -/
def State.streamIndices (s : State) (n : Nat) : List Nat :=
  let c := hStreamCount (s.hdr n)
  List.range c ++ ((s.streams.map Prod.fst).filter (fun i => decide (c ≤ i)))

/-- A HOST stream's shaper and meter are full and its limit goes out at once (R350, R355, R357). -/
def State.startHost (s : State) (i : Nat) : State :=
  let x := s.stream i
  let unit := 1000000000
  let sh := s.obj (Reg.shaperProfile (eShaper x.entry))
  let me := s.obj (Reg.meterProfile (eMeter x.entry))
  s.setStream i { x with shaper := if eShaper x.entry = 0 then 0 else bits sh 47 32 * unit, shaperAt := s.now,
                         meterP := if eMeter x.entry = 0 then 0 else bits me 95 80 * unit,
                         meterC := if eMeter x.entry = 0 then 0 else bits me 79 64 * unit, meterAt := s.now,
                         fbNow := true, fbSince := some (x.fbSince.getD s.now) }

/-- A stream of the active sheet begins: it grants its limit, and tells the far end of it (R278, R350). -/
def State.startContext (s : State) (i : Nat) : State :=
  let x := s.stream i
  if x.draining then s
  else
    let s := s.grant i
    if eKind x.entry = kindHost then (s.startHost i).pump i
    else if eKind x.entry = kindLine then (s.sendCredit i).pump i else s

/-- Parcels held for the sheet are delivered in PSN order as far as they follow on; the others are dropped, and the
peer re-sends them (R352). -/
def State.deliverHeld (i : Nat) : Nat → State → State
  | 0, s => s
  | fuel + 1, s =>
    let x := s.stream i
    match x.armedHeld.find? (fun p => p.psn == x.rxPsn) with
    | none => s.setStream i { x with armedHeld := [] }
    | some p =>
      if x.failed.isSome || x.draining || !s.tagsActive p.jobTag p.revision then s.setStream i { x with armedHeld := [] }
      else if p.offset ≠ x.rxOffset then (s.setStream i { x with armedHeld := [] }).hostFail i hostFraming
      else
        let y := { x with rxOffset := (x.rxOffset + p.data.length) % 2 ^ 64, armedHeld := x.armedHeld.filter (fun q => q.psn != p.psn) }
        State.deliverHeld i fuel ((s.setStream i y).take i p)

/-! ### Activation (R117) -/

/-- Body passes of the active sheet that count as completed: every cue of the pass has ended, in any status, also of a pass
far ahead whose positions a sheet abort has ended (R135, R167). -/
def State.passesDone (s : State) (n : Nat) : Nat :=
  let h := s.hdr n
  let b := hLoopEnd h - hLoopStart h
  let cap (k : Nat) : Bool := hLoopCount h == 0 || decide (k < hLoopCount h)
  if b = 0 then 0
  else
    let base := (s.eng.oldest - hLoopStart h) / b
    let base := if hLoopCount h = 0 then base else min base (hLoopCount h)
    let ahead := ((s.eng.ended.filter (fun e => decide (e.1 < beyond))).map (fun e => (e.1 - hLoopStart h) / b)).eraseDups
    base + (ahead.filter (fun k => decide (base ≤ k) && cap k
      && (List.range b).all (fun j => s.eng.isEnded (hLoopStart h + k * b + j)))).length

/-- S0 of the sheet after the one of slot n (R167). -/
def State.nextBase (s : State) : Nat :=
  if s.opt.written then s.obj Reg.outerStepStart
  else match s.active with
    | some a => (s.opt.base + s.passesDone a) % 2 ^ 64
    | none => s.opt.base

/-- Counts of the sync objects under slot n's sheet (R117 step 2). -/
def State.loadSync (s : State) (n : Nat) (prev : Option Nat) : Tab Nat :=
  (List.range 8192).foldl (fun m o =>
    let e := s.syncEntry n o
    tset 0 m o (if prev.isSome && yCarry e then s.sync o else yInitial e)) []

/-- Links under slot n's sheet: those that a carried LINE stream names keep their state (R117, R272). -/
def State.loadLinks (s : State) (n : Nat) (prev : Option Nat) : State :=
  let kept := ((s.streamIndices n).filter (fun i => s.isCarried n prev i && eKind (s.streamEntry n i) == kindLine)).map
    (fun i => eLink (s.streamEntry n i))
  (List.range 16).foldl (fun u l =>
    let e := u.linkEntry n l
    if kept.contains l then u.modLink l (fun k => { k with entry := e, num := l, failedStreams := u.failedOn l })
    else
      let u := (u.detachLink l).setObj (Reg.routeDelayNs l) 0
      if l < u.linkCount n then u.setLink l { entry := e, num := l, inUse := true } else u) s

/-- Held tokens of the sheet that activates are applied or refused; those of the sheet still armed stay (R117 step
4). -/
def State.applyHeld (s : State) (n : Nat) : State :=
  let held := s.eng.held
  held.foldl (fun u k =>
    if u.tagsMatch n k.jobTag k.revision then (if u.takesFrom n k.obj k.stream then u.applyToken k else u.refuseToken k)
    else if u.tagsArmed k.jobTag k.revision then { u with eng := { u.eng with held := u.eng.held ++ [k] } }
    else u.refuseToken k) { s with eng := { s.eng with held := [] } }

/-- What the units hold of the pool follows the contexts and links that a sheet's beginning or end leaves (R211). -/
def State.fitAll (s : State) : State :=
  s.fitStores (s.streams.flatMap (fun x => [s.rxWant x.1, s.armedWant x.1 x.2.entry]) ++ s.routeWants)

/-- The armed sheet of slot n activates at the boundary of epoch e (R117). -/
def State.activate (s : State) (n e : Nat) : State :=
  let prev := s.active
  let q := s.quorum
  let base := s.nextBase
  let h := s.hdr n
  let touch := if s.site.own.isSome then s.touchSet else 2 ^ hSite h
  let evidence := if prev.isSome then touch else 0
  let sync := s.loadSync n prev
  let ctxs := (s.streamIndices n).map (fun i => (i, s.loadStream n prev i))
  let carried := (s.streamIndices n).filter (s.isCarried n prev)
  let s := (match prev with
    | some a => s.toSlot a slotSealed
    | none => s)
  let s := (((s.toSlot n slotActive).setObj Reg.activeSlot n).setObj Reg.activeJobId (hJobId h)).setObj Reg.activeRevision (hRevision h)
  let s := s.setObj Reg.paceDemand (hPace h)
  let s := s.loadLinks n prev
  let s := ctxs.foldl (fun u x => u.setStream x.1 x.2) s
  let eng : Engine := { sync := sync, held := s.eng.held,
                        rings := ⟨0, hRingBase h, hRingLog2 h⟩ :: s.eng.rings }
  let s := { s with eng := eng, groups := [], damages := [],
                    landings := s.landings.filter (fun x => carried.contains x.stream),
                    opt := { s.opt with base := base, written := false, runs := [], held := [] },
                    power := { s.power with planAt := none },
                    site := { s.site with evidence := evidence, own := some (hSite h, hGateway h) } }
  let s := s.setObj Reg.cueEngineState engRunning
  let s := s.applyHeld n
  let s := s.event 0x5001 n e
  let s := (s.setObj Reg.activationEpoch e).adoptRates
  let is := List.range (hStreamCount h)
  let s := (is.foldl (fun u i => State.deliverHeld i ((u.stream i).armedHeld.length + 1) u) s).fitAll
  let s := is.foldl State.startContext s
  let s := (List.range 8).foldl (fun u f => u.peerTimers f) (s.touchEvents touch q)
  s.windowCheckAll

/-- An armed slot whose epoch has come activates at boundary e, or its activation is deferred (R116). -/
def State.tryActivate (s : State) (n e : Nat) : State :=
  if s.slotStateOf n ≠ slotArmed then s
  else if s.engState ≠ engRunning then s.activate n e
  else if (s.slotSt n).deferred then s
  else (s.setSlotSt n { s.slotSt n with deferred := true }).event 0x5002 n (s.slotSt n).epoch

/-- Every boundary after the last that passed, up to the current epoch, passes in order (R365, R381). -/
def State.passBoundaries (s : State) : State :=
  let old := s.tm.lastBoundary
  let e := s.net / 1000000
  if e ≤ old then s
  else
    let s := { s with tm := { s.tm with lastBoundary := e } }
    let s := (List.range 8).foldl (fun u f => u.dueSwitch f) s
    (s.armedSlots.filter (fun n => decide ((s.slotSt n).epoch ≤ e))).foldl (fun u n =>
      u.tryActivate n (max (old + 1) (u.slotSt n).epoch)) s

def execEpochBoundary (t : Nat) (s0 : State) : Result := .next (State.passBoundaries (s0.tick t))

/-- The new sheet's context of a stream loads once the old one has drained (R119). -/
def execDrainedStreamLoad (t : Nat) (i : BitVec 14) (s0 : State) : Result :=
  let s := s0.tick t
  let i := i.toNat
  let x := s.stream i
  if x.draining && s.drained i then .next (State.startContext (s.setStream i { x with draining := false }) i) else .next s

/-! ### RETIRE (R118) -/

/-- The active sheet ends for good; ACTIVE_JOB_ID, ACTIVE_REVISION and PACE_DEMAND read 0 again
(DEDUCED, log entry 79). -/
def State.retire (s : State) (n : Nat) : State :=
  let touch := s.touchSet
  let q := s.quorum
  let base := (s.opt.base + s.passesDone n) % 2 ^ 64
  let s := { s with framer := { s.framer with lastPlan := (List.range 32).map (s.chanEntry n) } }
  let s := ((s.toSlot n slotSealed).setObj Reg.activeSlot 0xFF).setObj Reg.cueEngineState engIdle
  let s := ((s.setObj Reg.activeJobId 0).setObj Reg.activeRevision 0).setObj Reg.paceDemand 0
  let s := (List.range 16).foldl (fun u l => u.detachLink l) s
  let s := s.streams.foldl (fun u x => u.setStream x.1 { freshStream x.2 0 with armedHeld := x.2.armedHeld }) s
  let s := { s with eng := { held := s.eng.held, rings := s.eng.rings }, groups := [], damages := [], landings := [],
                    opt := { s.opt with base := base, runs := [] },
                    site := { s.site with evidence := 0 }, power := { s.power with planAt := none } }
  let s := (List.range 8).foldl (fun u f => u.peerTimers f) (s.touchEvents touch q).fitAll
  s.windowCheckAll

def State.retireSlot (s : State) (n : Nat) : Status × State :=
  if s.asleep then (stWrongState, s)
  else if s.slotStateOf n = slotActive ∧ s.engState = engStopped then (stOk, s.retire n) else (stSlotBusy, s)

def execRetireSlot (t : Nat) (slot : Fin 2) (s0 : State) : Result := .next ((s0.tick t).managed (fun s => s.retireSlot slot.val))

/-- The write of SLOT_COMMAND: codes of Table 5.15; a SEAL in progress refuses every command (R411). -/
def State.writeSlotCommand (s : State) (n v : Nat) : Status × State :=
  if 6 < v ∨ v = 0 then (stOutOfRange, s)
  else if (s.slotSt n).sealing then (stSlotBusy, s)
  else if v = 1 then s.openSlot n
  else if v = 2 then s.sealSlot n
  else if v = 3 then s.armSlot n
  else if v = 4 then s.disarmSlot n
  else if v = 5 then s.clearSlot n
  else s.retireSlot n

end Sys2Proof.Machine
end

