-- ==== Sys2Proof/Machine/Time.lean ====
section
/-! DEFINITION. The time unit: modes and states, reference inputs, two-way transfer, the servo with its one step, and
disagreeing routes (16_network_time.md, R364-R382; R262, R293). -/
namespace Sys2Proof.Machine

/-! ### States (Table 16.1) -/

abbrev tmFree : Nat := 0
abbrev tmAcquiring : Nat := 1
abbrev tmSettling : Nat := 2
abbrev tmLocked : Nat := 3
abbrev tmHoldover : Nat := 4

abbrev modeFree : Nat := 0
abbrev modeReference : Nat := 1
abbrev modeLine : Nat := 2

def State.timeState (s : State) : Nat := s.obj Reg.timeState
def State.timeMode (s : State) : Nat := s.obj Reg.timeMode

/-- The time unit goes to a state (R367). -/
def State.toTime (s : State) (x : Nat) : State :=
  let old := s.timeState
  if x = old then s else (s.setObj Reg.timeState x).event 0x7001 x old

/-- A bit of TIME_STATUS. -/
def State.timeStatus (s : State) (i : Nat) (b : Bool) : State := s.setObj Reg.timeStatus (setBit (s.obj Reg.timeStatus) i b)

/-- Changing what the time unit keeps. -/
def State.modTime (s : State) (f : TimeSt → TimeSt) : State := { s with tm := f s.tm }

/-- Network time is rebased to now: it reads `ps` and runs on at `ppb`. -/
def State.rebase (s : State) (ps ppb : Int) : State :=
  s.modTime (fun x => { x with anchorPs := ps, anchorAt := s.now, ratePpb := ppb })

/-! ### Servo start (R366, R376) -/

/-- A servo start: the history is discarded, and the local oscillator runs uncorrected (DEDUCED, log entry 82). What
TIME_STATUS said of a source that is followed is over. -/
def State.servoStart (s : State) : State :=
  let s := (s.rebase (s.tm.psAt s.now) 0).modTime (fun x =>
    { x with acqSamples := [], nearFrom := none, refusedFrom := none, refPpb := 0 })
  (((s.timeStatus 5 false).timeStatus 2 false).timeStatus 1 false).toTime tmFree

/-- A servo start is refused while a slot is ARMED or ACTIVE or a page switch is not idle (R376). -/
def State.servoBusy (s : State) : Bool :=
  s.anySlot [slotArmed, slotActive] || s.obj Reg.pageSwitchState != pageIdle

def State.writeTimeMode (s : State) (v : Nat) : Status × State :=
  if 2 < v then (stOutOfRange, s)
  else if s.servoBusy then (stSlotBusy, s)
  else (stOk, (s.setObj Reg.timeMode v).servoStart)

def State.writeServoRestart (s : State) (v : Nat) : Status × State :=
  if v ≠ 1 then (stOutOfRange, s)
  else if s.servoBusy then (stSlotBusy, s)
  else (stOk, s.servoStart)

/-! ### One estimate (R377, R378) -/

/-- A number kept within ±lim. -/
def clampTo (lim : Nat) (x : Int) : Int := if x < -(lim : Int) then -(lim : Int) else if (lim : Int) < x then lim else x

/-- The offset lies within ±20 ns (R367). -/
def isNear (ps : Int) : Bool := decide (ps.natAbs ≤ 20000)

/-- How long after the last estimate estimates count as stopped [ns]: 100 ms (R367, R380), and in REFERENCE mode, whose
edges come once a second (R369), 100 ms after the next edge was due (DESIGN CHOICE, log entry 131). -/
def State.estimateGap (s : State) : Nat := if s.timeMode = modeReference then 1100000000 else 100000000

/-- The estimates have stopped. -/
def State.estimatesStopped (s : State) : Bool := decide (s.tm.usableAt + s.estimateGap ≤ s.now)

/-- An estimate reaches the servo: `src` is its site, or 0xFF for the 1PPS input. The second of ACQUIRING and the stay
within ±20 ns start afresh after a gap, and a refused estimate ends the stay (DESIGN CHOICE, log entry 131). -/
def State.estimate (s : State) (src : Nat) (ps : Int) (a : ServoAnswer) : State :=
  if s.timeMode = modeFree then s
  else if s.timeState = tmFree then
    ((s.modTime (fun x => { x with acqFrom := s.now, acqSamples := [ps], usableAt := s.now })).timeStatus 0 false).toTime tmAcquiring
  else if s.timeState = tmAcquiring then
    s.modTime (fun x => if s.estimatesStopped then { x with acqFrom := s.now, acqSamples := [ps], usableAt := s.now }
      else { x with acqSamples := x.acqSamples ++ [ps], usableAt := s.now })
  else
    let dep := ps - a.predicted
    if 1000 * s.obj Reg.jumpThresholdNs < dep.natAbs then
      let s := s.modTime (fun x => { x with refusedFrom := some (x.refusedFrom.getD s.now), usableAt := s.now, nearFrom := none })
      ((s.timeStatus 0 true).event 0x7003 src (toSigned 64 (dep.tdiv 1000))).bump Reg.timeJumpsRefused
    else
      let near (x : TimeSt) : Option Nat := if isNear ps then
        (if s.timeState = tmHoldover ∨ s.estimatesStopped = true then some s.now else some (x.nearFrom.getD s.now)) else none
      let s := s.rebase (s.tm.psAt s.now) (s.tm.refPpb + clampTo (s.obj Reg.rateLimitPpb) a.trim)
      let s := s.modTime (fun x => { x with refusedFrom := none, usableAt := s.now, nearFrom := near x })
      let s := s.timeStatus 0 false
      if s.timeState = tmHoldover then s.toTime tmSettling else s

/-- The frequency follows the 10 MHz input, which departs from the module's oscillator by `ppb`: in REFERENCE mode, while
the input is enabled, present and within ±50 ppm (R369; DEDUCED, log entry 116). -/
def State.lockTenMhz (s : State) (ppb : Int) : State :=
  if s.timeMode = modeReference ∧ bit (s.obj Reg.refConfig) 1 = true ∧ bit (s.obj Reg.timeStatus) 4 = false ∧ ppb.natAbs ≤ 50000 then
    (s.rebase (s.tm.psAt s.now) (s.tm.ratePpb - s.tm.refPpb + ppb)).modTime (fun x => { x with refPpb := ppb })
  else s

/-- Which edge since the write of TOD_NEXT_PPS, or since the last edge, comes now, and how far it lies from the instant
predicted for it. TOD_NEXT_PPS goes on by one each second, edges seen or not (R369; DEDUCED, log entry 81). -/
def State.ppsCount (s : State) : Nat × Nat :=
  let sec := 1000000000
  match s.tm.ppsAt with
  | none => (max 1 (ceilDiv (s.now - s.tm.todAt) sec), 0)
  | some a =>
    let k := (s.now - a + sec / 2) / sec
    (k, (((s.now - a : Nat) : Int) - k * sec).natAbs)

/-- TOD_NEXT_PPS as it reads: the second of the next edge, which goes on by one each second, edges seen or not; 0 stays
0 (R369; DEDUCED, log entry 81). -/
def State.todNext (s : State) : Nat :=
  let tod := s.obj Reg.todNextPps
  if tod = 0 then 0 else (tod + (s.now - s.tm.ppsAt.getD s.tm.todAt) / 1000000000) % 2 ^ 64

/-- A 1PPS edge (R369): at the enabled input, of the kind that REF_CONFIG[4] chooses (Table 16.6), it gives an offset estimate
in REFERENCE mode. The 10 MHz lock does not
depend on it. -/
def execPpsEdge (t : Nat) (servo : PpsInput) (s0 : State) : Result :=
  let s := (s0.tick t).lockTenMhz servo.servo.tenMhz
  if !bit (s.obj Reg.refConfig) 0 || bit (s.obj Reg.refConfig) 4 != servo.falling then .next s
  else
    let s := s.timeStatus 3 false
    let tod := s.obj Reg.todNextPps
    let (k, off) := s.ppsCount
    if tod = 0 ∨ k = 0 ∨ 1000000 < off then .next s
    else
      let second := tod + (k - 1)
      let s := (s.modTime (fun x => { x with ppsAt := some s.now })).setObj Reg.todNextPps (second + 1)
      let ps := s.tm.psAt s.now - (second : Int) * 1000000000000 - ofSigned 32 (s.obj Reg.ppsInOffsetNs) * 1000
      .next (if s.timeMode = modeReference then s.estimate 0xFF ps servo.servo else s)

/-- A reference input goes absent, or comes back (TIME_STATUS, Table 16.6). -/
def execReferenceInputAbsent (t : Nat) (input : ReferenceInput) (absent : Bool) (s0 : State) : Result :=
  .next (State.timeStatus (s0.tick t) (match input with
    | .pps => 3
    | .tenMhz => 4) absent)

/-! ### Two-way transfer (R373, R374) -/

/-- Numbers in rising order. -/
def insertInt (x : Int) : List Int → List Int
  | [] => [x]
  | y :: r => if x ≤ y then x :: y :: r else y :: insertInt x r
def sortInts : List Int → List Int
  | [] => []
  | x :: r => insertInt x (sortInts r)

/-- The median; the mean of the two middle values, toward zero, of an even number (R373). -/
def median (xs : List Int) : Int :=
  let l := sortInts xs
  let n := l.length
  if n % 2 = 1 then l.getD (n / 2) 0 else (l.getD (n / 2 - 1) 0 + l.getD (n / 2) 0).tdiv 2

/-- What a route gathered toward a site since the last estimate: sums of m_in − m_out and m_in + m_out [2⁻¹⁶ ns] and
the number of frames. -/
def State.gathered (s : State) (f n : Nat) : Int × Int × Nat :=
  (routeChannels n).foldl (fun a c =>
    let x := s.chan c
    if s.role c = 1 ∧ s.chanSite c = f then (a.1 + x.ttDiff, a.2.1 + x.ttSum, a.2.2 + x.ttCount) else a) (0, 0, 0)

/-- θ_route and d_in of a route toward a site [ps], toward zero (R373; DESIGN CHOICE, log entry 83). -/
def State.routeEstimate (s : State) (f n : Nat) : Option (Int × Int) :=
  let g := s.gathered f n
  let asym := ofSigned 32 (s.obj (Reg.asymmetryPs f n))
  if g.2.2 = 0 then none
  else
    let u : Int := 65536 * g.2.2
    some ((g.1 * 1000 - asym * u).tdiv (2 * u), (g.2.1 * 1000 + asym * u).tdiv (2 * u))

/-- The routes of a site that have an estimate. -/
def State.routeEstimates (s : State) (f : Nat) : List (Nat × Int × Int) :=
  (List.range 4).filterMap (fun n => (s.routeEstimate f n).map (fun e => (n, e.1, e.2)))

/-- Links toward site f that use route n. -/
def State.linksOver (s : State) (f n : Nat) : List Nat :=
  (List.range 16).filter (fun l =>
    let e := (s.link l).entry
    (s.link l).inUse && lFarSite e == f && (linkRoutes e).contains n)

/-- The delay of a route is reported for every link that uses it (R373). -/
def State.reportDelay (s : State) (f n : Nat) (ns : Nat) : State :=
  (s.linksOver f n).foldl (fun u l =>
    u.setObj (Reg.routeDelayNs l) (setBits (u.obj (Reg.routeDelayNs l)) (32 * n + 31) (32 * n) ns)) s

/-- Whether a route departs from its site's estimate, since when (R374). -/
def State.watchRoute (s : State) (f n : Nat) (route site : Int) : State :=
  let i := 4 * f + n
  let off := decide (50000 < (route - site).natAbs)
  s.modTime (fun x =>
    { x with routeOff := tset none x.routeOff i (if off then some ((tget none x.routeOff i).getD s.now) else none),
             routeOn := tset none x.routeOn i (if off then none else some ((tget none x.routeOn i).getD s.now)) })

/-- The estimates toward one site are reported, and then its routes are judged by the delays of all of them (R293, R373,
R374). -/
def State.reportSite (s : State) (f : Nat) : State :=
  let es := s.routeEstimates f
  if es.isEmpty then s
  else
    let m := median (es.map (fun e => e.2.1))
    let s := s.setObj (Reg.siteOffsetPs f) (toSigned 64 m)
    let s := es.foldl (fun u e =>
      let u := u.setObj (Reg.routeOffsetPs f e.1) (toSigned 64 e.2.1)
      (u.reportDelay f e.1 (toSigned 32 (e.2.2.tdiv 1000))).watchRoute f e.1 e.2.1 m) s
    es.foldl (fun u e => (u.linksOver f e.1).foldl (fun v l => v.judgeRoute l e.1) u) s

/-- The source site a LINE-mode servo follows, among those with an estimate, and whether it is the alternate (R373). -/
def State.sourceSite (s : State) (sites : List Nat) : Option (Nat × Bool) :=
  let v := s.obj Reg.timeSourceSites
  if bit v 3 ∧ sites.contains (bits v 2 0) then some (bits v 2 0, false)
  else if bit v 7 ∧ sites.contains (bits v 6 4) then some (bits v 6 4, true) else none

/-- The estimates of one millisecond (R373, R378), at which the 10 MHz lock is renewed (R369). -/
def execTimeEstimate (t : Nat) (servo : ServoAnswer) (s0 : State) : Result :=
  let s := (s0.tick t).lockTenMhz servo.tenMhz
  let sites := (List.range 8).filter (fun f => !(s.routeEstimates f).isEmpty)
  let s := sites.foldl (fun u f => u.reportSite f) s
  let s := (List.range 32).foldl (fun u c => u.setChan c { u.chan c with ttDiff := 0, ttSum := 0, ttCount := 0 }) s
  if s.timeMode ≠ modeLine then .next s
  else match s.sourceSite sites with
    | none => .next ((s.timeStatus 2 true).timeStatus 1 false)
    | some (f, alt) =>
      .next (((s.timeStatus 2 false).timeStatus 1 alt).estimate f (ofSigned 64 (s.obj (Reg.siteOffsetPs f))) servo)

/-- A route has departed for 10 s, or has agreed again for 10 s (R374). -/
def execRouteTimeDisagree (t : Nat) (site : Fin 8) (n : Fin 4) (s0 : State) : Result :=
  let s := s0.tick t
  let f := site.val
  let i := 4 * f + n.val
  let flags := s.obj (Reg.routeDisagree f)
  let passed : Option Nat → Bool := fun a => match a with
    | some x => decide (x + 10000000000 ≤ s.now)
    | none => false
  if !bit flags n.val && passed (tget none s.tm.routeOff i) then
    let s := s.setObj (Reg.routeDisagree f) (setBit flags n.val true)
    let s := s.event 0x7004 (n.val + 256 * f) (s.obj (Reg.routeOffsetPs f n.val))
    .next ((s.bump Reg.routeDisagreements).points (element 3 (8 * n.val + f)) 200)
  else if bit flags n.val && passed (tget none s.tm.routeOn i) then
    .next (s.setObj (Reg.routeDisagree f) (setBit flags n.val false))
  else .next s

/-! ### Step, lock and holdover (R367, R377, R378, R380, R381) -/

/-- Frames after a step start afresh from the new time (Table 16.3). -/
def State.restartFrames (s : State) : State :=
  let s := { s with framer := { s.framer with txLfn := none } }
  (List.range 32).foldl (fun u c => u.setChan c { u.chan c with txLfn := none }) s

/-- In LINE mode no usable message has come for 100 ms (R380). -/
def State.lineSilent (s : State) : Bool := s.timeMode == modeLine && decide (s.tm.usableAt + 100000000 ≤ s.now)

/-- ACQUIRING has brought 1 s of estimates, and they still come: the one step, and the boundaries it passes (R377, R380,
R381, R262). Those of the time before it have passed by then. The latch comes after LAST_STEP is written, so the record
of the second that the step ends reads LOCAL_TIME 0 (DESIGN CHOICE, log entry 132). -/
def execTimeStepped (t : Nat) (s0 : State) : Result :=
  let s := s0.tick t
  if s.timeState ≠ tmAcquiring ∨ s.tm.acqSamples.isEmpty ∨ s.now < s.tm.acqFrom + 1000000000 ∨ s.estimatesStopped then .next s
  else
    let s := s.passBoundaries
    let th := median s.tm.acqSamples
    let s := (s.rebase (s.tm.psAt s.now - th) s.tm.ratePpb).modTime (fun x => { x with acqSamples := [], nearFrom := none, refusedFrom := none })
    let step := toSigned 64 ((-th).tdiv 1000)
    let s := (s.setObj Reg.lastStep (step + 2 ^ 64 * s.net)).event 0x7002 step 0
    let s := ((s.timeStatus 5 true).toTime tmSettling).latchRecords true
    .next s.restartFrames.passBoundaries

/-- The offset has stayed within ±20 ns for 10 s, and estimates still come (R367, R380). -/
def execTimeLocked (t : Nat) (s0 : State) : Result :=
  let s := s0.tick t
  match s.tm.nearFrom with
  | some a => if s.timeState = tmSettling ∧ a + 10000000000 ≤ s.now ∧ s.estimatesStopped = false then .next (s.toTime tmLocked) else .next s
  | none => .next s

/-- Estimates have stayed away too long: 100 ms in LOCKED by Table 16.1, whatever the mode (DEDUCED, log entry 80), and in
SETTLING in LINE mode by R380. -/
def State.starved (s : State) : Bool :=
  s.lineSilent || (s.timeState == tmLocked && decide (s.tm.usableAt + 100000000 ≤ s.now))

/-- No usable estimate has come, or every one has been refused, for long enough (R367, R378, R380). -/
def execHoldoverEntry (t : Nat) (s0 : State) : Result :=
  let s := s0.tick t
  let refused := match s.tm.refusedFrom with
    | some a => decide (a + 1000000000 * s.obj Reg.jumpHoldoverS ≤ s.now)
    | none => false
  if (s.timeState = tmSettling ∨ s.timeState = tmLocked) ∧ (refused = true ∨ s.starved) then
    .next ((s.modTime (fun x => { x with nearFrom := none })).toTime tmHoldover |>.bump Reg.holdoverEntries)
  else .next s

end Sys2Proof.Machine
end

