-- ==== Sys2Proof/Machine/Sleep.lean ====
section
/-! DEFINITION. Writes to units that stay awake in an Intermission: the time unit, the health scorer, the touch set and
the bus (16_network_time.md, R366-R382; 17_partition_and_health.md, R386, R400, R402; 18_management_protocol.md, R421;
20_startup_reset_low_power.md, R451). -/
namespace Sys2Proof.Machine

/-- A value between bounds is stored; another is refused with OUT_OF_RANGE. -/
def State.writeBetween (o lo hi : Nat) (s : State) (v : Nat) : Status × State :=
  if v < lo ∨ hi < v then (stOutOfRange, s) else (stOk, s.setObj o v)

/-- The same for a two's-complement value of 32 bits. -/
def State.writeWithin (s : State) (o lim v : Nat) : Status × State :=
  if lim < (ofSigned 32 v).natAbs then (stOutOfRange, s) else (stOk, s.setObj o v)

/-- A value whose bits `hi` to `lo` are reserved (R10). -/
def State.writeReserved (o hi lo : Nat) (s : State) (v : Nat) : Status × State :=
  if bits v hi lo ≠ 0 then (stReservedNonzero, s) else (stOk, s.setObj o v)

/-- A write that may alter quorum (R386). -/
def State.writeWeight (s : State) (o v : Nat) : Status × State := (stOk, State.quorumEvents (s.setObj o v) s.quorum)
def State.writeTieBreak (s : State) (v : Nat) : Status × State :=
  if bits v 6 3 ≠ 0 then (stReservedNonzero, s) else s.writeWeight Reg.tieBreakSite v

/-- Writes of WATCH_POINTS and REPLACE_POINTS (R402). -/
def State.writeWatch (s : State) (v : Nat) : Status × State := (stOk, State.healthEvents (s.setObj Reg.watchPoints v) s elements)
def State.writeReplace (s : State) (v : Nat) : Status × State :=
  if v ≤ s.obj Reg.watchPoints then (stInconsistent, s)
  else (stOk, State.healthEvents (s.setObj Reg.replacePoints v) s elements)

/-- The write of TOD_NEXT_PPS: the prediction starts again (R369, DEDUCED, log entry 81). -/
def State.writeTod (s : State) (v : Nat) : Status × State :=
  (stOk, (s.modTime (fun x => { x with ppsAt := none, todAt := s.now })).setObj Reg.todNextPps v)

/-- The write of REF_CONFIG; the 10 MHz output follows its bit (R370). -/
def State.writeRefConfig (s : State) (v : Nat) : Status × State :=
  let r := s.writeReserved Reg.refConfig 7 5 v
  (r.1, if bit (r.2.obj Reg.refConfig) 3 = bit (s.obj Reg.refConfig) 3 then r.2 else r.2.emit (.tenMhz (bit (r.2.obj Reg.refConfig) 3)))

/-- The own rules of a write to a unit that stays awake. -/
def State.actAwake (o : Nat) (s : State) (v : Nat) : Status × State :=
  if o = Reg.timeMode then s.writeTimeMode v
  else if o = Reg.servoRestart then s.writeServoRestart v
  else if o = Reg.jumpThresholdNs then State.writeBetween o 50 100000 s v
  else if o = Reg.jumpHoldoverS then State.writeBetween o 1 3600 s v
  else if o = Reg.servoBandwidthMhz then State.writeBetween o 10 1000 s v
  else if o = Reg.rateLimitPpb then State.writeBetween o 10 10000 s v
  else if o = Reg.todNextPps then s.writeTod v
  else if o = Reg.refConfig then s.writeRefConfig v
  else if o = Reg.ppsInOffsetNs then s.writeWithin o 100000 v
  else if o = Reg.tieBreakSite then s.writeTieBreak v
  else if o = Reg.healthDecay then State.writeBetween o 1 65535 s v
  else if o = Reg.busWriteEnable then State.writeBetween o 0 1 s v
  else if o = Reg.watchPoints then s.writeWatch v
  else if o = Reg.replacePoints then s.writeReplace v
  else s.writeWeight o v

/-- The writes that an Intermission stores take effect, in the order in which they came (R451). -/
def State.actStored (s : State) : State :=
  s.boot.atExit.foldl (fun u q => (State.actAwake q.1 u q.2).2) { s with boot := { s.boot with atExit := [] } }

/-- Where a read finds object o: a write that an Intermission stores is read back (R451). -/
def State.stored (s : State) (o : Nat) : State := if s.boot.atExit.any (fun q => q.1 == o) then s.actStored else s

/-- A write to a unit that stays awake. In an Intermission it is answered and stored, and takes effect at exit (R451). -/
def State.writeAwake (o : Nat) (s : State) (v : Nat) : Status × State :=
  if s.asleep then
    let r := State.actAwake o s.actStored v
    (r.1, if r.1 = stOk then { s with boot := { s.boot with atExit := s.boot.atExit ++ [(o, v)] } } else s)
  else State.actAwake o s v

def execTimeModeWrite (t : Nat) (value : Byte) (s0 : State) : Result :=
  .next ((s0.tick t).managed (fun s => State.writeAwake Reg.timeMode s value.toNat))
def execServoRestart (t : Nat) (value : Byte) (s0 : State) : Result :=
  .next ((s0.tick t).managed (fun s => State.writeAwake Reg.servoRestart s value.toNat))

end Sys2Proof.Machine
end

