-- ==== Sys2Proof/Machine/Power.lean ====
section
/-! DEFINITION. The power manager: pace, the core rail, the slew limit with ballast and throttle, the forecast; and the
temperatures and rails that its tick reads (02_clockless_core.md, R32-R49; 21_electrical_mechanical_thermal.md,
R458, R470, R475). -/
namespace Sys2Proof.Machine

/-! ### Sensors (Table 21.12) -/

/-- Nominal voltages of rails 2 to 14 [mV] (Table 21.1). -/
def railNominal : List Nat := [750, 1200, 750, 750, 1050, 750, 1800, 750, 1200, 3300, 800, 1800, 3300]

/-- VREQ code that requests OFF (R462). -/
abbrev vreqOff : Nat := 63

/-- Rail n (from 1) at a voltage lies outside its tolerance; the core rail's is about its request (Table 21.1). -/
def State.railOut (s : State) (n mv : Nat) : Bool :=
  if n = 1 then
    s.obj Reg.vreqCode != vreqOff && decide (10 < ((mv : Int) - s.obj Reg.coreRailSetpointMv).natAbs)
  else let nom := railNominal.getD (n - 2) 0; decide (100 * ((mv : Int) - nom).natAbs > 3 * nom)

/-- The readings of rail n are stored; leaving the tolerance is counted. -/
def State.readRail (s : State) (x : Sensors) (n : Nat) : State :=
  let mv := x.railMv.getD (n - 1) 0
  let out_ := s.railOut n mv
  let s := (s.setObj (Reg.railMv (n - 1)) mv).setObj (Reg.railCurrentDa (n - 1)) (x.railDa.getD (n - 1) 0)
  let s := if out_ && !bit s.power.railsOut (n - 1) then s.bump (Reg.railExcursions (n - 1)) else s
  { s with power := { s.power with railsOut := setBit s.power.railsOut (n - 1) out_ } }

/-- A list of temperatures goes into its objects. -/
def State.readTemps (s : State) (reg : Nat → Nat) (n : Nat) (xs : List Int) : State :=
  (List.range n).foldl (fun u i => u.setObj (reg i) (toSigned 16 (xs.getD i 0))) s

/-- Hottest HBM stack. -/
def hottestHbm (x : Sensors) : Int := (x.hbm.take 24).foldl max (-2732)

/-- Above the limits of R443. -/
def tooHot (x : Sensors) : Bool := decide (1150 < x.die) || decide (1000 < hottestHbm x)

/-- The limits of R443 are checked: in an Intermission only from 16 ms of its exit on (Table 20.10). -/
def State.checksHeat (s : State) : Bool := !s.asleep || (s.modState == modExiting && decide (s.boot.exitAt + 16000000 ≤ s.now))

/-- What the running rehearsal has found, as last told. -/
def State.foundSoFar (s : State) (x : Sensors) : Option RehearsalFindings :=
  if s.modState ≠ modRehearsal then none else if x.rehearsal.isSome then x.rehearsal else s.boot.found

def State.readSensors (s : State) (x : Sensors) : State :=
  let s := s.setObj Reg.dieTempDc (toSigned 16 x.die)
  let s := ((s.readTemps Reg.hubTempDc 4 x.hubs).readTemps Reg.hbmTempDc 24 x.hbm).readTemps Reg.engineTempDc 8 x.engines
  let s := (s.setObj Reg.coolantInDc (toSigned 16 x.coolantIn)).setObj Reg.coolantOutDc (toSigned 16 x.coolantOut)
  let s := (List.range 14).foldl (fun u i => u.readRail x (i + 1)) s
  { s with boot := { s.boot with found := s.foundSoFar x, hotFrom := if tooHot x && s.checksHeat then some (s.boot.hotFrom.getD s.now) else none },
           defects := { s.defects with laneSer := x.laneSer } }

/-- HEAT_TO_COOLANT_DW (Table 21.12). -/
def State.heatToCoolant (s : State) : Nat :=
  let d := ofSigned 16 (s.obj Reg.coolantOutDc) - ofSigned 16 (s.obj Reg.coolantInDc)
  min 65535 (d.toNat * s.obj Reg.coolantFlowClpm * 4114 / 6000)

/-- HBM_DERATE_DW (R470). -/
def State.hbmDerate (s : State) : Nat :=
  let f := s.obj Reg.coolantFlowClpm
  if f = 0 then 16500
  else min 16500 ((950 - ofSigned 16 (s.obj Reg.coolantInDc)).toNat * f * 1000 / (12 * f + 1800))

/-! ### Pace (R33, R35) -/

/-- Rows of Table 2.2 in 1/1,000: core rail [mV], minimum at 85, 100 and 110 °C. -/
def paceRows : List (Nat × Nat × Nat × Nat) :=
  [(600, 710, 680, 660), (650, 820, 790, 780), (700, 940, 920, 905), (750, 1000, 980, 965), (800, 1070, 1050, 1035)]

/-- Minimum of a row at a temperature [0.1 °C], times 300,000: linear between the columns, constant below 85 °C, and
above 110 °C, where R35 compares nothing, as the last two columns go on. -/
def rowAt (r : Nat × Nat × Nat × Nat) (t : Int) : Nat :=
  let a := r.2.1
  let b := r.2.2.1
  let c := r.2.2.2
  if t ≤ 850 then a * 300
  else if t ≤ 1000 then a * 300 - (a - b) * (t - 850).toNat * 2
  else b * 300 - (b - c) * (t - 1000).toNat * 3

/-- Guaranteed minimum pace at a rail voltage and a die temperature, in 1/4,096 rounded up (R33, R35; DEDUCED, log
entry 84). A rail outside 600 to 800 mV, for which Table 2.2 has no row, takes the nearest row (DESIGN CHOICE, log entry
127). -/
def paceFloor (mv : Nat) (t : Int) : Nat :=
  let v := max 600 (min 800 mv)
  let i := min 3 ((v - 600) / 50)
  let lo := rowAt (paceRows.getD i (0, 0, 0, 0)) t
  let hi := rowAt (paceRows.getD (i + 1) (0, 0, 0, 0)) t
  let w := v - (600 + 50 * i)
  ceilDiv ((lo * (50 - w) + hi * w) * 4096) (50 * 300 * 1000)

/-- The pace is reported, and its fall below the floor (R35). -/
def State.readPace (s : State) (pace mv : Nat) (t : Int) : State :=
  let floor_ := paceFloor mv t
  let below := decide (pace < floor_) && decide (t ≤ 1100)
  let s := s.setObj Reg.paceMeasured pace
  let was := s.power.belowFloor
  let s : State := { s with power := { s.power with belowFloor := below } }
  if below && !was then ((s.event 0x8001 pace floor_).bump Reg.paceFloorEvents).points (element 0 0) 2000 else s

/-! ### The core rail (R37-R41, R439, R444) -/

/-- Some channel is in service. -/
def State.anyInService (s : State) : Bool := (List.range 32).any s.inService

/-- The line floor [mV] (R38). -/
def State.lineFloor (s : State) : Nat := if s.anyInService then 700 else 600

/-- The highest pace demand of the active and the armed sheets (R37, R40). -/
def State.demand (s : State) : Nat := s.armedSlots.foldl (fun d n => max d (hPace (s.hdr n))) (s.obj Reg.paceDemand)

/-- A pace is at least 1.07 times a demand (R37). -/
def meetsDemand (pace demand : Nat) : Bool := decide (107 * demand ≤ 100 * pace)

/-- The voltage that ADAPTIVE mode makes for [mV]: one step up while the measured pace does not meet the demand, one
step down where the pace of the lower voltage would still meet it (R37, R40; DEDUCED, log entry 107). -/
def State.adaptiveMv (s : State) (r : PowerReading) : Nat :=
  let now := s.obj Reg.coreRailSetpointMv
  if !meetsDemand r.pace.toNat s.demand then now + 5 else if meetsDemand r.paceBelow.toNat s.demand then now - 5 else now

/-- The voltage that the power manager makes for [mV]. -/
def State.railTarget (s : State) (r : PowerReading) : Nat :=
  if s.modState = modSafe then s.lineFloor
  else if s.modState ≠ modReady then 750
  else if s.obj Reg.coreRailMode = 1 then s.obj Reg.coreRailFixedMv
  else min 800 (max s.lineFloor (s.adaptiveMv r))

/-- A code goes out on VREQ[5:0] (R462). -/
def State.driveVreq (s : State) (code : Nat) : State := (s.setObj Reg.vreqCode code).emit (.pin "VREQ" code)

/-- The request is set to a voltage, with its VREQ code (R462). -/
def State.requestMv (s : State) (mv : Nat) : State := (s.setObj Reg.coreRailSetpointMv mv).driveVreq ((mv - 600) / 5)

/-- OFF is requested: the setpoint reads 0 (R462; DEDUCED, log entry 86). -/
def State.requestOff (s : State) : State :=
  if s.obj Reg.vreqCode = vreqOff then s else (s.setObj Reg.coreRailSetpointMv 0).driveVreq vreqOff

/-! ### The slew limit (R43-R47) -/

def State.slewEnabled (s : State) : Bool := bit (s.obj Reg.powerControl) 0
def State.ballastEnabled (s : State) : Bool := bit (s.obj Reg.powerControl) 1
def State.throttleEnabled (s : State) : Bool := bit (s.obj Reg.powerControl) 2
def State.prerampEnabled (s : State) : Bool := bit (s.obj Reg.powerControl) 3

/-- The least and the greatest number of a list and a bound. -/
def leastOf (a : Int) (xs : List Int) : Int := xs.foldl min a
def greatestOf (a : Int) (xs : List Int) : Int := xs.foldl max a

/-- The means of the last ticks, each moved by what R43 allows from it to the instant `ahead` ms from now: k ticks ago,
slew × (k + ahead) and 10 W. -/
def allowedFrom (slew sign : Int) (ahead : Nat) (means : List Int) : List Int :=
  (List.range means.length).map (fun k => means.getD k 0 + sign * (slew * ((k + 1 + ahead : Nat) : Int) + 10000))

/-- A draw that goes up or down by `mw` now and stays is still within R43 when the mean has followed it, 100 ms from
now (R39; DEDUCED, log entry 107). -/
def State.stepHolds (s : State) (mw : Nat) (up : Bool) : Bool :=
  let w := s.power
  let slew : Int := w.slewInForce
  match s.slewEnabled, w.adjusted.head? with
  | true, some d =>
    if up then
      let top := match w.bounds with
        | some b => b.1 + 100 * slew
        | none => d + mw
      decide (d + mw ≤ leastOf top (allowedFrom slew 1 100 w.means))
    else
      let low := match w.bounds with
        | some b => b.2 - 100 * slew
        | none => d - mw
      decide (greatestOf low (allowedFrom slew (-1) 100 w.means) ≤ d - mw)
  | _, _ => true

/-- At most one step of 5 mV every 10 ms, and none that would break the slew limit (R39), which does not cover the descent
at entry into the Safe state (R46, R444); OFF from 10 ms of entry on (Table 20.6). A request below a line floor that a channel
newly in service sets climbs to it by these steps (R37; DESIGN CHOICE, log entry 157). -/
def State.stepRail (s : State) (r : PowerReading) : State :=
  let now := s.obj Reg.coreRailSetpointMv
  let target := s.railTarget r
  let rested := match s.power.lastStepAt with
    | some a => decide (a + 10000000 ≤ s.now)
    | none => true
  if s.modState = modEntering ∧ s.boot.enterAt + 10000000 ≤ s.now then s.requestOff
  else if !rested || !(s.power.safeEntry || s.stepHolds r.stepMw (decide (now < target))) || s.obj Reg.vreqCode == vreqOff then s
  else
    let go (mv : Nat) : State := State.requestMv { s with power := { s.power with lastStepAt := some s.now } } mv
    if now + 5 ≤ target then go (now + 5) else if target + 5 ≤ now then go (now - 5) else s

/-- Hottest HBM stack, as last read [0.1 °C]. -/
def State.hottestStack (s : State) : Int := (List.range 24).foldl (fun a i => max a (ofSigned 16 (s.obj (Reg.hbmTempDc i)))) (-2732)

/-- The ballast cap [mW]: none while ballast is disabled, the die above 105 °C or a stack above 92 °C (R45). -/
def State.ballastCap (s : State) : Nat :=
  if !s.ballastEnabled || decide (1050 < ofSigned 16 (s.obj Reg.dieTempDc)) || decide (920 < s.hottestStack) then 0
  else 4000 * bits (s.obj Reg.powerControl) 15 8

/-- How the draw may move from one tick to the next: slew and the largest ballast [mW], and whether work may be
throttled. -/
structure Envelope where
  slew : Nat
  cap : Nat
  throttle : Bool

/-- What one tick decides: draw, ballast [mW], throttled. -/
structure TickPlan where
  draw : Nat
  ballast : Nat
  throttled : Bool

/-- From a level, work rises no faster than the slew allows, as far as it can be paced, and ballast fills a fall or
follows a pre-ramp (R43-R45). -/
def Envelope.next (e : Envelope) (level work paced ramp : Nat) : TickPlan :=
  let hi := level + e.slew
  let w := if hi < work ∧ e.throttle = true then max hi (work - paced) else work
  let b := min (max (level - e.slew) (min ramp hi) - w) e.cap
  { draw := w + b, ballast := b, throttled := decide (w < work) }

/-- The envelope in force; the core die draws at most 600 W with ballast (R45). -/
def State.envelope (s : State) (room : Nat) : Envelope :=
  { slew := s.power.slewInForce, cap := min s.ballastCap room, throttle := s.throttleEnabled }

/-- The part of a change of draw that R46 exempts at this tick (DEDUCED, log entry 107): outside READY and the Safe state,
and in entry into that state until the rail has come down, all of it; else what the power manager finds exempt, after a
change of R46 has been reported. -/
def State.exemptNow (s : State) (r : PowerReading) : Int :=
  if s.modState = modReady ∨ s.modState = modSafe ∧ s.power.safeEntry = false then (if s.power.exemptDue then r.exemptMw else 0)
  else match s.power.draws.head? with
    | some d => (r.workMw : Int) - d
    | none => 0

/-- Rise is throttled to the envelope, fall filled with ballast, a pre-ramp followed (R43-R45). -/
def State.planTick (s : State) (r : PowerReading) : TickPlan :=
  match s.slewEnabled && s.modState == modReady, s.power.adjusted.head? with
  | true, some level =>
    let ramp := match s.power.preramp with
      | some t => if s.prerampEnabled then t else 0
      | none => 0
    (s.envelope (600000 - r.coreMw)).next (level + s.power.exempt).toNat r.workMw r.pacedMw ramp
  | _, _ => { draw := r.workMw, ballast := 0, throttled := false }

/-- The mean of a list of draws. -/
def meanOf (xs : List Nat) : Nat := xs.foldl (· + ·) 0 / xs.length
def meanOfInt (xs : List Int) : Int := xs.foldl (· + ·) 0 / xs.length

/-- Bounds of the mean at the next tick from the bounds at this one and from the mean of 99 ticks ago (R43). -/
def nextBounds (slew : Nat) (old : Option (Int × Int)) (mean : Option Int) : Option (Int × Int) :=
  let s : Int := slew
  let grown := old.map (fun b => (b.1 + s, b.2 - s))
  match mean with
  | none => grown
  | some m =>
    let n : Int × Int := (m + 100 * s + 10000, m - 100 * s - 10000)
    some (match grown with
      | some b => (min b.1 n.1, max b.2 n.2)
      | none => n)

/-- A tick's plan is carried out and reported: P̄ as it is, R43 without the exempt changes (R46). SLEW_NOT_HELD is
written at the first tick of those at which the limit is not held (DESIGN CHOICE, log entry 127). While SLEW_ENABLE is 0
the means of the last 100 ms are kept and older ones dropped, so that R43 compares with those when it is set again (DESIGN
CHOICE, log entry 140). A pre-ramp ends when the work alone reaches its level, and not before (R45; DESIGN CHOICE, log
entry 141). -/
def State.applyTick (s : State) (p : TickPlan) : State :=
  let w := s.power
  let draws := (p.draw :: w.draws).take 500
  let adjusted := (((p.draw : Int) - w.exempt) :: w.adjusted).take 100
  let mean := meanOfInt adjusted
  let broken := s.slewEnabled && (match w.bounds with
    | some b => decide (b.1 < mean) || decide (mean < b.2)
    | none => false)
  let means := (mean :: w.means).take 100
  let energy := w.energyRest + p.ballast
  let ramped := match w.preramp with
    | some t => if t ≤ p.draw - p.ballast then none else some t
    | none => none
  let s : State := { s with power := { w with ballast := p.ballast, throttled := p.throttled, draws := draws, adjusted := adjusted,
                                              means := means, preramp := ramped, exemptDue := false, notHeld := broken,
                                              bounds := if s.slewEnabled then nextBounds w.slewInForce w.bounds (means[99]?) else none,
                                              energyRest := energy % 1000000 } }
  let s := (s.setObj Reg.drawNowDw (min 65535 (meanOf (draws.take 100) / 100))).setObj Reg.ballastNowDw (min 65535 (p.ballast / 100))
  let s := s.bumpBy Reg.ballastEnergyJ (energy / 1000000)
  let s := if p.throttled then s.bumpBy Reg.throttleTimeNs 1000000 else s
  if broken && !w.notHeld then (s.event 0x8002 (s.obj Reg.drawNowDw) 0).bump Reg.slewNotHeldCount else s

/-- The control tick of every millisecond. -/
def execControlTick (t : Nat) (r : PowerReading) (x : Sensors) (s0 : State) : Result :=
  let s := (s0.tick t).readSensors x
  let s := s.readPace r.pace.toNat (x.railMv.getD 0 0) x.die
  let s := if r.leakage then s.slewExempt 7 else s
  let falls := s.power.safeEntry && s.modState == modSafe && decide (s.lineFloor < s.obj Reg.coreRailSetpointMv)
  let s := { s with power := { s.power with slewInForce := s.obj Reg.slewLimit, exempt := s.power.exempt + s.exemptNow r, safeEntry := falls } }
  let s := s.stepRail r
  .next (s.applyTick (s.planTick r))

/-! ### The plan ahead: pre-ramp and forecast (R45, R48, R49, R107) -/

/-- The draw of a power plan entry above a measured idle draw [mW]; the idle draw alone where there is none (R107). -/
def State.plannedMw (s : State) (idle : Nat) (k : Option Nat) : Nat := match s.active, k with
  | some n, some k => if k < s.powerCount n then idle + planAboveMw (s.powerEntry n k) else idle
  | _, _ => idle

/-- The network time of a planned dispatch [ns]; none when it rests on a hint that is not given. -/
def State.stepInstant (s : State) (p : PlanStep) : Option Int :=
  if p.byHint then
    (if s.obj Reg.outerBoundaryHint = 0 then none else some ((s.obj Reg.outerBoundaryHint : Int) + p.ms * 1000000))
  else some ((s.obj Reg.forecastBaseTime : Int) + p.ms * 1000000)

/-- Ballast is to grow to the level of a planned rise ΔP from ΔP / S before it (R45). -/
def execPrerampStart (t : Nat) (rise : PlannedRise) (s0 : State) : Result :=
  let s := s0.tick t
  let target := s.plannedMw rise.idleMw (some rise.step.entry)
  let level := s.power.draws.head?.getD rise.idleMw
  match s.stepInstant rise.step with
  | none => .next s
  | some b =>
    if s.slewEnabled && s.prerampEnabled && s.ballastEnabled && s.modState == modReady && decide (level < target)
        && decide ((b - s.net) * s.power.slewInForce ≤ ((target - level : Nat) : Int) * 1000000) then
      .next { s with power := { s.power with preramp := some target } }
    else .next s

/-- Planned work [mW]: of the module, and of it the core die's. -/
structure PlanDraw where
  all : Nat
  core : Nat
  deriving DecidableEq, Repr

/-- Planned dispatches as (milliseconds after the base, planned work from then on), at most 400 s ahead. -/
def State.planSteps (s : State) (idle base : Nat) (steps : List PlanStep) : List (Int × PlanDraw) :=
  (steps.filterMap (fun p => (s.stepInstant p).map (fun b => ((b - (base : Int)) / 1000000,
    { all := s.plannedMw idle (some p.entry), core := p.coreMw : PlanDraw })))).filter (fun x => decide (x.1 ≤ 400000))

/-- Planned work at a millisecond: that of the latest planned dispatch, else what is in force now. -/
def workAt (now : PlanDraw) (steps : List (Int × PlanDraw)) (m : Int) : PlanDraw :=
  ((steps.filter (fun x => decide (x.1 ≤ m))).foldl (fun (b : Option (Int × PlanDraw)) x => match b with
    | some y => if y.1 ≤ x.1 then some x else b
    | none => some x) none).elim now Prod.snd

/-- The level that the pre-ramps toward the planned dispatches ahead ask for at a millisecond. -/
def rampAt (slew : Nat) (steps : List (Int × PlanDraw)) (m : Int) : Nat :=
  (steps.filter (fun x => decide (m < x.1))).foldl (fun a x => max a (x.2.all - slew * (x.1 - m).toNat)) 0

/-- A forecast in the making: the level at the last millisecond, and of the interval so far the draws' sum, and whether
a throttle or ballast is planned. -/
structure Forecast where
  level : Nat
  sum : Nat := 0
  throttle : Bool := false
  ballast : Bool := false

/-- One millisecond of the plan, in the envelope that a control tick would use then (R43-R45). -/
def State.forecastMs (s : State) (now : PlanDraw) (steps : List (Int × PlanDraw)) (f : Forecast) (m : Nat) : Forecast :=
  let work := workAt now steps m
  let p : TickPlan :=
    if s.slewEnabled then
      (s.envelope (600000 - work.core)).next f.level work.all work.all (if s.prerampEnabled then rampAt s.power.slewInForce steps m else 0)
    else { draw := work.all, ballast := 0, throttled := false }
  { level := p.draw, sum := f.sum + p.draw, throttle := f.throttle || p.throttled, ballast := f.ballast || decide (0 < p.ballast) }

/-- The draw at a millisecond of the plan's window that has passed, `m0` being the present one: as it was at the control
tick then, or at the oldest one known. -/
def State.pastDraw (s : State) (now m0 m : Nat) : Nat :=
  (s.power.draws[m0 - 1 - m]?).getD (s.power.draws.getLast?.getD now)

/-- The first 20 half seconds of a plan: average draw [0.1 W], THROTTLE_PLANNED and BALLAST_PLANNED. The window has begun
`m0` ms ago; the plan goes on from the present draw now (R49). -/
def State.forecastOf (s : State) (now : PlanDraw) (m0 : Nat) (steps : List (Int × PlanDraw)) : List (Nat × Bool × Bool) :=
  ((List.range 20).foldl (fun (a : Nat × List (Nat × Bool × Bool)) k =>
    let f := (List.range 500).foldl (fun (f : Forecast) i =>
      let m := 500 * k + i
      if m < m0 then { f with sum := f.sum + s.pastDraw now.all m0 m } else s.forecastMs now steps f m) { level := a.1 }
    (f.level, a.2 ++ [(min 65535 ((f.sum + 25000) / 50000), f.throttle, f.ballast)])) (s.power.draws.head?.getD now.all, [])).2

/-- The forecast is computed from the plan and replaced as one snapshot (R48, R49, Table 2.5). Between two half-second
boundaries of network time the window starts at the one that has passed last (DESIGN CHOICE, log entry 142). An entry
depends on the hint when it would read otherwise without the dispatches that the hint places (DEDUCED, log entry 107). -/
def execForecastRecompute (t : Nat) (plan : PlanAhead) (s0 : State) : Result :=
  let s := s0.tick t
  let base := s.net / 500000000 * 500000000
  let s := s.setObj Reg.forecastBaseTime base
  let now : PlanDraw := { all := s.plannedMw plan.idleMw s.power.planAt, core := plan.coreMw }
  let m0 := (s.net - base) / 1000000
  let all := s.forecastOf now m0 (s.planSteps plan.idleMw base plan.steps)
  let bare := s.forecastOf now m0 (s.planSteps plan.idleMw base (plan.steps.filter (fun p => !p.byHint)))
  .next ((List.range 20).foldl (fun u k =>
    let e := all.getD k (0, false, false)
    u.setObj (Reg.drawForecast k) (e.1 + 2 ^ 16 * b2n (e != bare.getD k (0, false, false)) + 2 ^ 17 * b2n e.2.1 + 2 ^ 18 * b2n e.2.2)) s)

/-! ### Writes (R41, R44, R47) -/

def State.writeRailMode (s : State) (v : Nat) : Status × State :=
  if 1 < v then (stOutOfRange, s)
  else if v = 1 ∧ s.obj Reg.coreRailFixedMv < 700 ∧ s.anyInService = true then (stOutOfRange, s)
  else (stOk, s.setObj Reg.coreRailMode v)

def State.writeRailFixed (s : State) (v : Nat) : Status × State :=
  if v < 600 ∨ 800 < v then (stOutOfRange, s)
  else if v < 700 ∧ s.anyInService = true then (stOutOfRange, s)
  else (stOk, s.setObj Reg.coreRailFixedMv v)

def State.writeSlewLimit (s : State) (v : Nat) : Status × State :=
  if v < 5 ∨ 200 < v then (stOutOfRange, s) else (stOk, s.setObj Reg.slewLimit v)

def State.writePowerControl (s : State) (v : Nat) : Status × State :=
  if bits v 7 4 ≠ 0 ∨ bits v 31 16 ≠ 0 then (stReservedNonzero, s)
  else if bit v 0 && !bit v 1 && !bit v 2 then (stInconsistent, s)
  else (stOk, s.setObj Reg.powerControl v)

def State.writeBoundaryHint (s : State) (v : Nat) : Status × State := (stOk, s.setObj Reg.outerBoundaryHint v)

def execCoreRailModeWrite (t : Nat) (value : Byte) (s0 : State) : Result := .next ((s0.tick t).managed (fun s => s.writeRailMode value.toNat))
def execCoreRailFixedWrite (t : Nat) (value : BitVec 16) (s0 : State) : Result := .next ((s0.tick t).managed (fun s => s.writeRailFixed value.toNat))
def execSlewLimitWrite (t : Nat) (value : BitVec 16) (s0 : State) : Result := .next ((s0.tick t).managed (fun s => s.writeSlewLimit value.toNat))
def execPowerControlWrite (t : Nat) (value : Word32) (s0 : State) : Result := .next ((s0.tick t).managed (fun s => s.writePowerControl value.toNat))
def execOuterBoundaryHintWrite (t : Nat) (value : Word64) (s0 : State) : Result := .next ((s0.tick t).managed (fun s => s.writeBoundaryHint value.toNat))

end Sys2Proof.Machine
end

