-- ==== Sys2Proof/Machine/Startup.lean ====
section
/-! DEFINITION. Reset, power-up, rehearsal, the Safe state, Intermission and wake, power failure and boundary scan
(20_startup_reset_low_power.md, R437-R456; 21_electrical_mechanical_thermal.md, R459-R461, R465). -/
namespace Sys2Proof.Machine

/-! ### Reset (R446-R448, R460, R461) -/

/-- Every object at its reset value, no key, no session, no event; optics dark and host lanes idle, and no 10 MHz output
(R370). Straps hold what was sampled last. -/
def State.clean (s : State) (cause : Nat) (pins : Pins) (boot : BootSt) : State :=
  let u : State := { pending := s.pending, now := s.now, free := s.free, answer := s.answer,
                     out := s.out ++ [.pin "TX_DARK" 1, .pin "HOST_IDLE" 1] ++ (if bit (s.obj Reg.refConfig) 3 then [.tenMhz false] else []),
                     tm := { anchorAt := s.now }, pins := pins, boot := boot }
  (((u.setObj Reg.lastResetCause cause).setObj Reg.straps (s.obj Reg.straps)).setObj Reg.busAddress (s.obj Reg.busAddress)).setObj
    Reg.mgmtLinkState (setBit (s.obj Reg.mgmtLinkState) 0 false)

abbrev resetPowerOn : Nat := 1
abbrev resetPin : Nat := 2
abbrev resetSoft : Nat := 3
abbrev resetWatchdog : Nat := 4

/-- A reset during which VREQ is high-impedance: RESET_N or PWR_GOOD is low, or the module acts as if it were (R461, R462). -/
def State.cleanUndriven (s : State) (cause : Nat) (pins : Pins) (boot : BootSt) : State :=
  (s.clean cause { pins with vreqDriven := false } boot).emit (.pin "VREQ_DRIVEN" 0)

/-- A reset of kind POWER_ON or PIN holds until RESET_N is released; the management link drops (Table 20.5). -/
def State.resetByPins (s : State) (kind : Nat) (pins : Pins) : State := s.cleanUndriven kind { pins with resetN := false } {}

/-- A reset of kind SOFT or WATCHDOG starts power-up at once; the management link stays up (Table 20.5), and VREQ goes to
its code at reset (Table 21.12). -/
def State.resetInside (s : State) (kind : Nat) : State :=
  ((s.clean kind s.pins { released := s.now }).setObj Reg.mgmtLinkState (s.obj Reg.mgmtLinkState)).driveVreq 30

/-- The module holds itself in reset (R461). -/
def State.powerDown (s : State) (pwrGood : Bool) : State :=
  s.cleanUndriven (s.obj Reg.lastResetCause) { s.pins with pwrGood := pwrGood } { held := true }

def execPowerOnReset (t : Nat) (s0 : State) : Result :=
  .next (State.resetByPins (s0.tick t) resetPowerOn { pwrGood := true })

/-- RESET_N has been low for `lowNs` (Table 20.5, R460, Table 21.11). -/
def execPinReset (t : Nat) (lowNs : Nat) (s0 : State) : Result :=
  let s := s0.tick t
  if s.inReset || decide (lowNs < 1000) then .next s
  else if 10000 ≤ lowNs then .next (s.resetByPins resetPin s.pins)
  else
    let hits := Config.pinPulseResets s.free
    let s := { s with free := s.free + 1 }
    .next (if hits then s.resetByPins resetPin s.pins else s)

/-- The straps are sampled, and power-up and network time start (R460, R364, Table 21.12). -/
def execResetNReleased (t : Nat) (straps : BitVec 3) (s0 : State) : Result :=
  let s := s0.tick t
  if s.pins.resetN || !s.pins.pwrGood || s.boot.held then .next s
  else
    let v := straps.toNat
    let s : State := { s with pins := { s.pins with resetN := true }, boot := { s.boot with released := s.now },
                              tm := { anchorAt := s.now } }
    .next (((s.setObj Reg.straps v).setObj Reg.busAddress (v / 2)).setObj Reg.mgmtLinkState
      (setBit (s.obj Reg.mgmtLinkState) 1 (bit v 0)))

/-- The write of RESET_REQUEST (R446). -/
def State.writeResetRequest (s : State) (v : Nat) : Status × State :=
  if v ≠ 0xA5 then (stOutOfRange, s) else (stOk, { s with boot := { s.boot with resetDue := true } })

/-- The SOFT reset that follows the response to the request (R446). -/
def State.resetIfDue (s : State) : State := if s.boot.resetDue then s.resetInside resetSoft else s

def execSoftReset (t : Nat) (value : Word32) (s0 : State) : Result :=
  .next ((s0.tick t).managed (fun s =>
    let w := s.writeResetRequest value.toNat
    (w.1, if w.1 = stOk then w.2.resetIfDue else w.2)))

def execWatchdogReset (t : Nat) (s0 : State) : Result :=
  let s := s0.tick t
  .next (if s.inReset then s else s.resetInside resetWatchdog)

/-- PWR_GOOD falls (R461). -/
def execPwrGoodFall (t : Nat) (s0 : State) : Result :=
  let s := s0.tick t
  .next (if s.pins.pwrGood then s.powerDown false else s)

/-- Rails by what their loss does (R461, Table 21.2). -/
def railResets (n : Nat) : Bool := [1, 2, 4, 5, 6, 7, 8].contains n
def railEngines (n : Nat) : Bool := [3, 9, 10, 11].contains n

/-- A rail stays outside its alarm band for 2 µs while PWR_GOOD is high (R46, R461): the module is held in reset until PWR_GOOD
falls and rises, if RESET_N is low too. The core rail is OFF in an Intermission. -/
def execRailLoss (t : Nat) (rail : Fin 14) (s0 : State) : Result :=
  let s := s0.tick t
  let n := rail.val + 1
  if !s.pins.pwrGood || s.boot.held || (n == 1 && s.asleep) then .next s
  else if railResets n then .next (s.powerDown true)
  else if s.inReset then .next s
  else
    let s := s.slewExempt 6
    .next (if railEngines n then (List.range 8).foldl (fun u e => u.engineFail e 2) s else s)

/-! ### Power-up (R439) -/

/-- BOOT_ID is drawn from the entropy source (R418): a free value; the always-on domain drives VREQ from now on, at the
code of 0.750 V (R462). -/
def execBootIdDrawn (t : Nat) (s0 : State) : Result :=
  let s := s0.tick t
  if s.inReset || s.boot.bootDrawn then .next s
  else
    let (v, s) := s.takeFree
    let s : State := { s with boot := { s.boot with bootDrawn := true }, pins := { s.pins with vreqDriven := true } }
    .next (((s.setObj Reg.bootId v).emit (.pin "VREQ_DRIVEN" 1)).driveVreq 30)

/-- RESET_DONE is event 0, the first after any reset (R447); the change of draw is reported (R439). -/
def execManagementBootDone (t : Nat) (s0 : State) : Result :=
  let s := s0.tick t
  if s.inReset || !s.boot.bootDrawn || s.boot.mgmtUp then .next s
  else
    let s : State := { s with boot := { s.boot with mgmtUp := true } }
    .next ((s.firstEvent 0x1801 (s.obj Reg.lastResetCause) (s.obj Reg.bootId)).slewExempt 1)

/-- The module powers up, and the core has left reset. -/
def State.training (s : State) : Bool := !s.inReset && s.modState == modPowerUp && s.boot.coreUp

/-- The links are retrained after an Intermission, and have not all come back (Table 20.7). -/
def State.retraining (s : State) : Bool := (s.modState == modExiting || s.modState == modReady) && s.boot.woken && !s.boot.linksUp

def execCoreOutOfReset (t : Nat) (s0 : State) : Result :=
  let s := s0.tick t
  if !s.inReset && s.modState == modPowerUp && s.boot.bootDrawn then .next { s with boot := { s.boot with coreUp := true } }
  else .next s

def execLinksTrained (t : Nat) (s0 : State) : Result :=
  let s := s0.tick t
  if s.training || s.retraining then .next { s with boot := { s.boot with linksUp := true } } else .next s

/-- Replacing bits of REHEARSAL_RESULT (Table 20.4). -/
def State.setResult (s : State) (hi lo v : Nat) : State :=
  s.setObj Reg.rehearsalResult (setBits (s.obj Reg.rehearsalResult) hi lo v)

def State.outcome (s : State) : Nat := bits (s.obj Reg.rehearsalResult) 87 80
def State.firstFatal (s : State) : Nat := bits (s.obj Reg.rehearsalResult) 95 88
def State.failedItems (s : State) : Nat := bits (s.obj Reg.rehearsalResult) 12 0

/-- HBM is trained or taken as failed: rehearsal begins. -/
def State.beginRehearsal (s : State) : State :=
  let s : State := { s with boot := { s.boot with rehearsalFrom := s.now } }
  (s.setObj Reg.moduleState modRehearsal).setResult 87 80 1

def execHbmTrained (t : Nat) (s0 : State) : Result :=
  let s := s0.tick t
  if s.training && s.boot.linksUp then .next s.beginRehearsal else .next s

/-- An element fails an item of rehearsal (R440). -/
def State.failPart (s : State) (item el : Nat) : State :=
  (State.setResult { s with boot := { s.boot with failedItems := s.boot.failedItems ++ [(item, el)] } } item item 1).failElement el

/-- The numbers of the bits set among the lowest n. -/
def setBitsOf (n v : Nat) : List Nat := (List.range n).filter (fun i => bit v i)

def State.failHubs (s : State) (m : Nat) : State := (setBitsOf 4 m).foldl (fun u h => u.failPart 3 (element 4 h)) s
def State.failStacks (s : State) (m : Nat) : State := (setBitsOf 24 m).foldl (fun u k => u.failPart 4 (element 5 k)) s

/-- Engines fail item 10 (R332, R440). -/
def State.failEngines (s : State) (m cause : Nat) : State :=
  (setBitsOf 8 m).foldl (fun u e => ((u.failPart 10 (element 8 e)).setResult (52 + e) (52 + e) 1).engineFail e cause) s

/-- Links that fail to retrain within twice their time of Table 20.7: the hubs' within 32 ms of the wake, the engines'
within 44 ms. They are treated as in READY (R450, R198, R332). -/
def State.failRetraining (s : State) (hubs engines : Nat) : State :=
  let s := if s.boot.exitAt + 32000000 ≤ s.now then (setBitsOf 4 hubs).foldl
    (fun u h => if bit u.memSt.failedHubs h then u else u.hubFail h) s else s
  if s.boot.exitAt + 44000000 ≤ s.now then (setBitsOf 8 engines).foldl (fun u e => u.engineFail e 1) s else s

/-- A training step has not finished by twice its instant (R439): 90 ms for the links, 120 ms for HBM. -/
def execTrainingTimeout (t : Nat) (unfinished : TrainingStep) (s0 : State) : Result :=
  let s := s0.tick t
  match unfinished with
  | .links hubs engines =>
    if s.training && !s.boot.linksUp && (hubs != 0#4 || engines != 0#8) && decide (s.boot.released + 90000000 ≤ s.now) then
      let s := (s.failHubs hubs.toNat).failEngines engines.toNat 1
      let s := s.setObj Reg.hubLinkState (s.obj Reg.hubLinkState - (s.obj Reg.hubLinkState &&& hubs.toNat))
      .next { s with boot := { s.boot with linksUp := true }, memSt := { s.memSt with failedHubs := s.memSt.failedHubs ||| hubs.toNat } }
    else .next (if s.retraining then s.failRetraining hubs.toNat engines.toNat else s)
  | .hbm sts =>
    if s.training && s.boot.linksUp && sts != 0#24 && decide (s.boot.released + 120000000 ≤ s.now) then
      .next (s.failStacks sts.toNat).beginRehearsal
    else .next s

/-! ### Rehearsal (R440-R442) -/

/-- Items that test no element of Table 17.5 but the core die (DEDUCED, log entry 87). -/
def coreItems : List Nat := [0, 1, 2, 5, 8, 9, 12]

/-- Tensor cells and cipher lanes leave service (R95, R308, R440). -/
def State.failCells (s : State) (m : Nat) : State :=
  (setBitsOf 16 m).foldl (fun u n => ((u.failPart 6 (element 6 n)).setResult (16 + n) (16 + n) 1).setObj Reg.tcInService
    (setBit (u.obj Reg.tcInService) n false)) s

/-- Lane l of a direction: 0 to 9 transmit, 10 to 19 receive, as in Table 20.4 from bit 32. -/
def State.failLanes (s : State) (from_ m : Nat) : State :=
  (setBitsOf 10 m).foldl (fun u i =>
    let l := from_ + i
    ((u.failPart 7 (element 7 l)).setResult (32 + l) (32 + l) 1).setObj Reg.lanesInService
      (setBit (u.obj Reg.lanesInService) (laneBit l) false)) s

/-- A host lane reads FAILED (R441). The part recorded is the lane. -/
def State.failHostLane (s : State) (l : Nat) : State :=
  let s : State := { s with boot := { s.boot with failedItems := s.boot.failedItems ++ [(11, l)] } }
  let s := ((s.setResult 11 11 1).setResult (64 + l / 9) (64 + l / 9) 1).failElement (element 1 l)
  s.setLane l 3 (if l % 9 < 8 then l % 9 else 0)

/-- Lines that the HBM test corrected (Table 20.3, item 4). -/
def State.countTested (s : State) (xs : List Nat) : State :=
  (List.range 24).foldl (fun u k =>
    let n := xs.getD k 0
    if n = 0 then u else ((u.bumpBy Reg.hbmCorrected n).bumpBy (Reg.stackCorrected k) n).points (element 5 k) n) s

/-- What failed is taken out of service (Table 20.3). -/
def State.takeFindings (s : State) (f : RehearsalFindings) : State :=
  let s := (coreItems.filter (fun i => bit f.items.toNat i)).foldl (fun u i => u.failPart i (element 0 0)) s
  let s := ((s.failHubs f.hubs.toNat).failStacks f.hbmStacks.toNat).countTested f.corrected
  let s := ((s.failCells f.cells.toNat).failLanes 0 f.cipherTx.toNat).failLanes 10 f.cipherRx.toNat
  let s := (s.failEngines f.engineLinks.toNat 1).failEngines f.engineDsps.toNat 3
  (setBitsOf 144 f.lanes.toNat).foldl (fun u l => u.failHostLane l) s

/-- Failed items that take the module to SAFE, rising (Table 20.3). -/
def State.fatalItems (s : State) : List Nat :=
  (List.range 13).filter (fun i => s.itemFailed i &&
    (if i = 6 then decide (3 ≤ (setBitsOf 16 (bits (s.obj Reg.rehearsalResult) 31 16)).length)
     else if i = 7 then decide (2 ≤ (setBitsOf 10 (bits (s.obj Reg.rehearsalResult) 41 32)).length)
       || decide (2 ≤ (setBitsOf 10 (bits (s.obj Reg.rehearsalResult) 51 42)).length)
     else i != 10 && i != 11))

/-- HBM holds zeros (Table 20.3, item 4). -/
def State.zeroHbm (s : State) : State :=
  { s with mem := s.mem.filter (fun c => inStaging c.1), poison := s.poison.filter inStaging,
           boot := { s.boot with memTested := true } }

/-! ### The Safe state (R438, R443, R444) -/

/-- Every host lane goes to electrical idle, and every port DOWN (R438). -/
def State.idlePorts (s : State) : State :=
  (List.range 16).foldl (fun u p => (u.portDown p false false).idleLane p) (s.emit (.pin "HOST_IDLE" 1))

/-- Optics dark and host lanes idle, as outside READY. -/
def State.quiet (s : State) : State := ((s.emit (.pin "TX_DARK" 1)).darkenAll).idlePorts

/-- Ballast, throttle and pre-ramp end. -/
def State.withdrawBallast (s : State) : State :=
  State.setObj { s with power := { s.power with ballast := 0, throttled := false, preramp := none } } Reg.ballastNowDw 0

/-- Items 3 and 4 have run once the sequence of Table 20.3 has passed them (R440). -/
def State.itemsRun (s : State) : Bool := decide (s.boot.rehearsalFrom + 154000000 ≤ s.now)

/-- The lowest failed fatal item goes into REHEARSAL_RESULT (Table 20.4). -/
def State.noteFatal (s : State) : State := s.setResult 95 88 (s.fatalItems.head?.getD 0xFF)

/-- The outcome of a rehearsal that began, with its first fatal item and its length (R442, Table 20.4). -/
def State.closeResult (s : State) (outcome : Nat) : State :=
  (s.noteFatal.setResult 87 80 outcome).setResult 111 96 ((s.now - s.boot.rehearsalFrom) / 1000000)

/-- Training or rehearsal stopped before its end: the failures found so far are kept (R443; DEDUCED, log entry 144). -/
def State.stopRehearsal (s : State) : State :=
  if s.modState = modPowerUp then s.noteFatal
  else if s.modState = modRehearsal ∧ s.outcome = 1 then
    let s := if s.itemsRun then s.zeroHbm else s
    let s := match s.boot.found with
      | some f => s.takeFindings f
      | none => s
    s.closeResult 5
  else s

/-- What leaves READY does first (R444). -/
def State.leaveReady (s : State) : State :=
  if s.modState = modReady then
    let s := s.quiet
    let s := match s.active with
      | some n => s.abortSheet n
      | none => s
    s.armedSlots.foldl (fun u n => u.disarm n) s
  else s

/-- Entry into SAFE (R443, R444): every channel is DARK from then on (Table 14.5), and the descent of the rail is exempt from
the slew limit. -/
def State.enterSafe (s : State) (cause : Nat) : State :=
  let s := s.stopRehearsal.leaveReady.darkenAll
  let s := { s with power := { s.power with safeEntry := true } }
  let s := (s.setObj Reg.moduleState modSafe).setObj Reg.safeCause cause
  (s.withdrawBallast.slewExempt 2).event 0x1803 cause s.firstFatal

/-- The write of SAFE_REQUEST (R443). -/
def State.writeSafeRequest (s : State) (v : Nat) : Status × State :=
  if v ≠ 1 then (stOutOfRange, s)
  else if s.asleep then (stWrongState, s)
  else if s.modState = modSafe then (stOk, s)
  else (stOk, s.enterSafe 2)

def execSafeRequest (t : Nat) (value : Byte) (s0 : State) : Result :=
  .next ((s0.tick t).managed (fun s => s.writeSafeRequest value.toNat))

/-- The temperatures of R443 have been exceeded for 1 ms. -/
def execOvertemperatureSafe (t : Nat) (s0 : State) : Result :=
  let s := s0.tick t
  let hot := match s.boot.hotFrom with
    | some a => decide (a + 1000000 ≤ s.now)
    | none => false
  .next (if hot && !s.inReset && !s.asleep && s.modState != modSafe then s.enterSafe 3 else s)

/-! ### The end of rehearsal (R440, R442) -/

/-- READY: enabled channels lock, and the lanes of ports come into use (R438). -/
def State.toReady (s : State) : State :=
  (List.range 16).foldl (fun u p => u.startPort p) (s.setObj Reg.moduleState modReady).lightAll

/-- Rehearsal ends (R440, R442). -/
def State.endRehearsal (s : State) (f : RehearsalFindings) : State :=
  let s := s.zeroHbm.takeFindings f
  let fatal := s.fatalItems
  let outcome := if !fatal.isEmpty then 4 else if s.failedItems ≠ 0 then 3 else 2
  let s := (s.closeResult outcome).event 0x1802 outcome s.failedItems
  if fatal.isEmpty then s.toReady else s.enterSafe 1

def execRehearsalDone (t : Nat) (f : RehearsalFindings) (s0 : State) : Result :=
  let s := s0.tick t
  .next (if !s.inReset && s.modState == modRehearsal then s.endRehearsal f else s)

/-! ### Intermission (R449-R455) -/

/-- Bits of the numbers below n that satisfy p. -/
def bitmapOf (n : Nat) (p : Nat → Bool) : Nat := (List.range n).foldl (fun a i => setBit a i (p i)) 0

/-- The settings an Intermission runs under: writes during it take effect at its exit (R451). -/
def State.wakeSettings (s : State) : WakeCfg :=
  { period := s.obj Reg.wakePeriodMs, enable := s.obj Reg.wakeEnable, threshold := ofSigned 8 (s.obj Reg.wakeLineThreshold),
    patterns := s.obj Reg.wakePatternPorts,
    channels := bitmapOf 32 (fun c => bit (s.obj (Reg.channelConfig c)) 24),
    ports := bitmapOf 16 (fun p => s.portMode p != 0) }

/-- Something stands in the way of an Intermission (R449). -/
def State.noIntermission (s : State) : Bool :=
  s.anySlot [slotArmed, slotActive] || s.obj Reg.pageSwitchState != pageIdle || (List.range 8).any (fun u => (s.cv u).scanning)

/-- ENTER is accepted (R450). -/
def State.enterIntermission (s : State) : State :=
  let b := { s.boot with enterAt := s.now, wake := s.wakeSettings, woken := false, baseTaken := false,
                         blockedCh := 0, blockedPorts := 0, lastCh := 0, lastPorts := 0 }
  let s := ((State.quiet { s with boot := b }).setObj Reg.moduleState modEntering).withdrawBallast
  s.slewExempt 3

/-- Exit starts: the core rail is requested again, and the links retrain (Table 20.7). -/
def State.startExit (s : State) : State :=
  let s : State := { s with boot := { s.boot with exitAt := s.now, linksUp := false }, power := { s.power with lastStepAt := some s.now } }
  ((s.setObj Reg.moduleState modExiting).requestMv 750).slewExempt 4

/-- A wake (R454, Table 20.9, Table 20.10): the first of an Intermission counts. -/
def State.wakeBy (s : State) (source index : Nat) : State :=
  let during := s.modState == modEntering
  if s.boot.woken || !(during || s.modState == modIntermission) then s
  else
    let s := s.setObj Reg.lastWake (s.net + 2 ^ 64 * source + 2 ^ 68 * index + 2 ^ 76 * b2n during + 2 ^ 77)
    let s : State := { s with boot := { s.boot with woken := true } }
    if during then s else s.startExit

/-- The write of INTERMISSION_CONTROL by session k (R449). -/
def State.writeIntermission (s : State) (k v : Nat) : Status × State :=
  if v = 1 then
    (if s.modState ≠ modReady then (stWrongState, s)
     else if s.noIntermission then (stSlotBusy, s)
     else (stOk, s.enterIntermission))
  else if v = 2 then
    (if s.modState = modIntermission ∨ s.modState = modEntering then (stOk, s.wakeBy 4 k) else (stWrongState, s))
  else (stOutOfRange, s)

def execIntermissionEnter (t : Nat) (s0 : State) : Result := .next ((s0.tick t).managed (fun s => s.writeIntermission 0 1))

def execIntermissionExit (t : Nat) (session : Fin 2) (s0 : State) : Result :=
  .next ((s0.tick t).managed (fun s => s.writeIntermission session.val 2))

/-- The address lies in the sheet area of the staging store (Table 9.1). -/
def inSheetArea (a : Nat) : Bool := decide (0x800000000000 ≤ a) && decide (a < 0x80000F000000)

/-- What an Intermission loses (R451; DEDUCED, log entry 88). -/
def State.loseCore (s : State) : State :=
  let u := { s with mem := s.mem.filter (fun c => !inSheetArea c.1), poison := s.poison.filter (fun l => !inSheetArea l),
                    eng := { s.eng with sync := [] }, streams := [] }
  u.fitStores (s.streams.flatMap (fun x => [(rxStore x.1, 0, 0), (armedStore x.1, 0, 0)]))

/-- 14 ms after ENTER (R450, Table 20.6). -/
def execIntermissionEntered (t : Nat) (s0 : State) : Result :=
  let s := s0.tick t
  if s.modState = modEntering ∧ s.boot.enterAt + 14000000 ≤ s.now then
    let s := (s.loseCore.requestOff.setObj Reg.moduleState modIntermission).bump Reg.intermissions
    let s := State.event { s with boot := { s.boot with windowAt := s.now } } 0x1804 0 (b2n s.boot.woken)
    .next (if s.boot.woken then s.startExit else s)
  else .next s

/-- Channels and ports of a sample that are active now, among those sampled (R452). -/
def activeCh (w : WakeCfg) (x : WakeSample) : Nat :=
  bitmapOf 32 (fun c => bit w.channels c && decide (50 * w.threshold < x.rxCdbm.getD c (-100000)))
def activePorts (w : WakeCfg) (x : WakeSample) : Nat :=
  bitmapOf 16 (fun p => bit w.ports p && (List.range 8).all (fun i => bit x.lanes.toNat (9 * p + i)))

/-- The baseline: what is active now wakes nothing until it has been inactive (R452). -/
def State.takeBaseline (s : State) (x : WakeSample) : State :=
  { s with boot := { s.boot with baseTaken := true, blockedCh := activeCh s.boot.wake x, blockedPorts := activePorts s.boot.wake x } }

/-- The lowest source found active in this sample and the last (R452, R454): code and index. -/
def BootSt.wakeFound (b : BootSt) (ch ports : Nat) : Option (Nat × Nat) :=
  let low (n m last : Nat) : Option Nat := (List.range n).find? (fun i => bit m i && bit last i)
  let line := if bit b.wake.enable 0 then low 32 ch b.lastCh else none
  let host := if bit b.wake.enable 1 then low 16 ports b.lastPorts else none
  match line, host with
  | some c, _ => some (1, c)
  | none, some p => some (2, p)
  | none, none => none

/-- A sample window (R452). -/
def State.sampleWindow (s : State) (x : WakeSample) : State :=
  let b := s.boot
  let ch := activeCh b.wake x
  let ports := activePorts b.wake x
  let free := fun (m blocked : Nat) => m - (m &&& blocked)
  let found := b.wakeFound (free ch b.blockedCh) (free ports b.blockedPorts)
  let s : State := { s with boot := { b with windowAt := b.windowAt + 1000000 * b.wake.period,
                                             lastCh := free ch b.blockedCh, lastPorts := free ports b.blockedPorts,
                                             blockedCh := b.blockedCh &&& ch, blockedPorts := b.blockedPorts &&& ports } }
  let s := s.bump Reg.wakeSamples
  match found with
  | some (src, i) => s.wakeBy src i
  | none => s

/-- The baseline of Table 20.6 in ENTERING; a window every WAKE_PERIOD_MS in INTERMISSION. -/
def execWakeSampleWindow (t : Nat) (x : WakeSample) (s0 : State) : Result :=
  let s := s0.tick t
  if s.modState = modEntering ∧ s.boot.baseTaken = false ∧ s.boot.enterAt + 500000 ≤ s.now then .next (s.takeBaseline x)
  else if s.modState = modIntermission ∧ s.boot.windowAt + 1000000 * s.boot.wake.period ≤ s.now then .next (s.sampleWindow x)
  else .next s

/-- All 64 symbols of the wake pattern have matched on port p (R453). -/
def execWakePatternMatch (t : Nat) (p : Fin 16) (s0 : State) : Result :=
  let s := s0.tick t
  .next (if bit s.boot.wake.patterns p.val && bit s.boot.wake.enable 2 then s.wakeBy 3 p.val else s)

/-- 26 ms after the wake (R450, Table 20.7): exit is over, and what was stored takes effect (R451). -/
def execIntermissionWoken (t : Nat) (s0 : State) : Result :=
  let s := s0.tick t
  if s.modState = modExiting ∧ s.boot.exitAt + 26000000 ≤ s.now then
    let w := s.obj Reg.lastWake
    .next ((s.event 0x1805 (bits w 67 64) (bits w 75 68)).toReady.actStored)
  else .next s

/-! ### Writes of Table 20.12 (R456) -/

def State.writeWakePeriod (s : State) (v : Nat) : Status × State :=
  if v < 10 ∨ 10000 < v then (stOutOfRange, s) else (stOk, s.setObj Reg.wakePeriodMs v)

def State.writeWakeEnable (s : State) (v : Nat) : Status × State :=
  if bits v 7 3 ≠ 0 then (stReservedNonzero, s) else (stOk, s.setObj Reg.wakeEnable v)

def State.writeWakeThreshold (s : State) (v : Nat) : Status × State :=
  let x := ofSigned 8 v
  if x < -60 ∨ -30 < x then (stOutOfRange, s) else (stOk, s.setObj Reg.wakeLineThreshold v)

/-! ### Boundary scan (R465) -/

abbrev tapBypass : Nat := 0xFF

/-- What IDCODE reads. -/
abbrev tapIdcode : Nat := 0xB3F3004D

/-- The cells with which a pin or a pair is driven stand from here in the boundary register, counted from TDO: three cells
for each of the 22 digital low-speed pins (input, output, enable), two for each of the 145 transmit pairs (data, enable),
one for each of the 145 receive pairs (R465). -/
abbrev pinCells (i : Nat) : Nat := 3 * i
abbrev pairCells (j : Nat) : Nat := 66 + 2 * j
abbrev receiveCell (j : Nat) : Nat := 356 + j

/-- What the boundary register drives: each output whose enable cell is 1, with its output or data cell. -/
def boundaryOuts (cells : BitVec 501) : List Output :=
  (List.range 22).filterMap (fun i => if cells.getLsbD (pinCells i + 2) then some (.boundary i (cells.getLsbD (pinCells i + 1))) else none)
    ++ (List.range 145).filterMap (fun j =>
      if cells.getLsbD (pairCells j + 1) then some (.boundary (22 + j) (cells.getLsbD (pairCells j))) else none)

/-- The instruction in force puts the boundary register between TDI and TDO. -/
def tapSelectsBoundary (code : Nat) : Bool := tapDrives code || code == 0x02

/-- The cells of the boundary register from TDO, and back. -/
def cellList (b : BitVec 501) : List Bool := (List.range 501).map b.getLsbD
def ofCellList (l : List Bool) : BitVec 501 := BitVec.ofNat 501 (l.foldr (fun c a => 2 * a + b2n c) 0)

/-- An EXTEST in force drives the outputs from the boundary register. -/
def State.driveCells (s : State) : State :=
  if tapDrives s.pins.tap then { s with out := s.out ++ boundaryOuts s.pins.boundary } else s

/-- What the selected data register captures, from TDO: the cells see the pins, the receive pairs and what the module drives;
IDCODE has 32 bits, and BYPASS one, which is 0 (R465, IEEE 1149.1). -/
def captured (tap : Nat) (x : DrScan) : List Bool :=
  if tapSelectsBoundary tap then cellList x.levels
  else if tap = 0x01 then (List.range 32).map (fun i => bit tapIdcode i)
  else [false]

/-- One scan: capture, then a shift in which TDO shows the register bit by bit as TDI fills it, then the update, after which
an EXTEST drives the new cells (R465, IEEE 1149.1; DESIGN CHOICE, log entry 145). -/
def State.drScan (s : State) (x : DrScan) : State :=
  let n := x.tdi.length
  let r := captured s.pins.tap x ++ x.tdi
  let s := s.emit (.tdo (r.take n))
  if tapSelectsBoundary s.pins.tap then State.driveCells { s with pins := { s.pins with boundary := ofCellList (r.drop n) } } else s

/-- An instruction is loaded; every code without one is BYPASS, and so is an EXTEST outside SAFE. An EXTEST drives what the
boundary register holds; the scans under the instruction follow (R465). -/
def execTapInstructionLoad (t : Nat) (load : TapLoad) (s0 : State) : Result :=
  let s := s0.tick t
  let c := load.code.toNat
  let tap := if tapDrives c then (if s.modState = modSafe then c else tapBypass)
    else if c = 0x01 ∨ c = 0x02 then c else tapBypass
  let s : State := { s with pins := { s.pins with tap := tap } }
  .next (load.scans.foldl State.drScan s.driveCells)

end Sys2Proof.Machine
end

