-- ==== Sys2Proof/Machine/Registers.lean ====
section
/-! DEFINITION. The dictionary as a whole: what each object reads as, and what a write of each does or is refused with
(R8-R10, R409-R411, R426 and the object tables of chapters 02 to 21). -/
namespace Sys2Proof.Machine

/-! ### What objects read as -/

/-- An object whose value is made from other state. Its row gives `nIdx` indices from `idx`, each with `nSub`
subindices from `sub`; `val s k j` is its value at index `idx + k`, subindex `sub + j`. None: the read is refused with
OUT_OF_RANGE. -/
structure View where
  idx : Nat
  nIdx : Nat
  sub : Nat
  nSub : Nat
  val : State → Nat → Nat → Option Nat

/-- A row that is one object, or one of a family by subindex. -/
def View.one (o : Nat) (val : State → Nat) : View := ⟨o / 256, 1, o % 256, 1, fun s _ _ => some (val s)⟩
def View.subs (o n : Nat) (val : State → Nat → Nat) : View := ⟨o / 256, 1, o % 256, n, fun s _ j => some (val s j)⟩
def View.idxs (o n : Nat) (val : State → Nat → Nat) : View := ⟨o / 256, n, o % 256, 1, fun s k _ => some (val s k)⟩

/-- The stream that STREAM_SELECT names. -/
def State.selStream (s : State) : StreamCtx := s.stream (s.obj Reg.streamSelect)

/-- The group that GROUP_SELECT names. -/
def State.selGroup (s : State) : Nat := s.obj Reg.groupSelect

/-- Prefetchers that run a cue (Table 9.11). -/
def State.prefetchBusy (s : State) : Nat := match s.active with
  | none => 0
  | some n => s.eng.running.foldl (fun a r => match s.posCue n r.pos with
    | some (c, _) => if cUnit c = uMove then setBit a (moveUnit c) true else a
    | none => a) 0

/-- CHANNEL_FRAMER_STATE (Table 10.13). -/
def State.framerWord (s : State) (c : Nat) : Nat :=
  let x := s.chan c
  let r := s.route (c / 8)
  let sends := match tget none s.foreign c with
    | some y => y.started
    | none => false
  b2n x.inFrame + 2 * b2n x.mfAligned + 4 * b2n x.lfnValid + 8 * s.chRate c + 2 ^ 5 * b2n sends + 2 ^ 6 * b2n x.foreignRx
    + 2 ^ 7 * b2n (s.diverted c) + 2 ^ 8 * b2n x.traceAccepted + 2 ^ 9 * b2n x.traceMismatch + 2 ^ 10 * b2n x.excessSkew
    + 2 ^ 11 * b2n (bit r.txMembers (c % 8)) + 2 ^ 12 * b2n (bit r.rxMembers (c % 8))

/-- ROUTE_MEMBERS and ROUTE_SUBST (Table 10.10). -/
def State.routeMembersWord (s : State) (n : Nat) : Nat := (s.route n).txMembers % 256 + 256 * ((s.route n).rxMembers % 256)
def State.routeSubstWord (s : State) (n : Nat) : Nat :=
  let r := s.route n
  r.txSubst0 % 256 + 2 ^ 8 * (r.txSubst1 % 256) + 2 ^ 16 * (r.rxSubst0 % 256) + 2 ^ 24 * (r.rxSubst1 % 256)

/-- CHANNEL_DEFECTS (Table 11.6). -/
def State.defectsWord (s : State) (c : Nat) : Nat :=
  let x := s.chan c
  x.defects % 256 + 2 ^ 8 * b2n x.rxFail + 2 ^ 9 * b2n x.txFail + 2 ^ 10 * b2n x.oosNow

/-- PM_RECORD of channel c at the latch that PM_SELECT names (R264). -/
def State.pmRecord (s : State) (c : Nat) : Option Nat :=
  (s.defects.records.find? (fun r => r.1 == s.obj Reg.pmSelect)).map (fun r => r.2.getD c 0)

/-- PEER_STATE (Table 11.6). -/
def State.peerStateWord (s : State) : Nat :=
  s.site.lost % 256 + 256 * (match s.active with
    | some n => s.farSites n % 256
    | none => 0)

/-- The entry of link l in the active sheet. -/
def State.activeLink (s : State) (l : Nat) : Option Nat := match s.active with
  | some n => if l < s.linkCount n then some (s.linkEntry n l) else none
  | none => none

/-- LINK_TIMERS_US and LINK_TIMER_MIN_US; 0 for a link that the active sheet does not have. -/
def State.timersWord (s : State) (l : Nat) : Nat := match s.activeLink l with
  | some e => let t := linkTimers e; t.hole + 2 ^ 32 * t.retry + 2 ^ 64 * t.fail + 2 ^ 96 * lRetain e
  | none => 0
def State.timersMinWord (s : State) (l : Nat) : Nat := match s.activeLink l with
  | some e => let t := linkTimers e; t.holeMin + 2 ^ 32 * t.retryMin + 2 ^ 64 * t.failMin
  | none => 0

/-- RING_STATE and DIVERTED_CHANNELS (Table 15.11). -/
def State.ringStateWord (s : State) : Nat :=
  let via (p : Nat) : Nat := (s.ringSt.divs.filter (fun d => d.owner && d.started && d.port == p)).length % 4
  b2n (s.ringUp 14) + 2 * b2n (s.ringUp 15) + 4 * via 14 + 16 * via 15
def State.divertedWord (s : State) : Nat := bitmapOf 32 s.diverted

/-- HEALTH_RECORD (Table 17.6). -/
def State.healthRecord (s : State) : Nat :=
  let e := s.obj Reg.healthSelect
  if elementExists e then tget 0 s.scores e + 2 ^ 32 * s.healthOf e + 2 ^ 63 else 0

/-- Element a is worse than b: FAILED first, then the higher score, then the lower number (DEDUCED, log entry 89). -/
def State.worse (s : State) (a b : Nat) : Bool :=
  let fa := decide (s.healthOf a = 3)
  let fb := decide (s.healthOf b = 3)
  if fa != fb then fa
  else decide (tget 0 s.scores b < tget 0 s.scores a) || (tget 0 s.scores a == tget 0 s.scores b && decide (a < b))

/-- HEALTH_WORST (Table 17.5). -/
def State.healthWorst (s : State) : Nat :=
  let e := elements.foldl (fun m e => if s.worse e m then e else m) 0
  e + 2 ^ 16 * tget 0 s.scores e + 2 ^ 48 * s.healthOf e

/-- An event record as it reads (Table 18.6). -/
def EventRec.word (r : EventRec) : Nat :=
  r.seq + 2 ^ 32 * r.code + 2 ^ 64 * r.time + 2 ^ 128 * r.subject + 2 ^ 192 * r.value

/-- The record with sequence q, or a zero record (R423). -/
def State.eventAt (s : State) (q : Nat) : Nat :=
  let d := (s.obj Reg.eventWriteSeq + 2 ^ 32 - q % 2 ^ 32) % 2 ^ 32
  if 1 ≤ d ∧ d ≤ 4096 ∧ d ≤ s.events then ((s.ring[d - 1]?).map EventRec.word).getD 0 else 0

/-- EVENT_RECORDS from EVENT_SELECT on; refused when the selected record has been overwritten (R423). -/
def State.eventRecords (s : State) : Option Nat :=
  let q := s.obj Reg.eventSelect
  let d := (s.obj Reg.eventWriteSeq + 2 ^ 32 - q) % 2 ^ 32
  if 4096 < d ∧ d ≤ s.events then none
  else some ((List.range 32).foldl (fun a i => a + 2 ^ (256 * i) * s.eventAt (q + i)) 0)

/-- RESPONSE_SUMMARY j of session k (R416); an empty cache entry reads as Table 18.5 resets. -/
def State.summary (s : State) (k j : Nat) : Nat :=
  let h := (s.obj (Reg.acceptedHsn k) + 2 ^ 32 - j) % 2 ^ 32
  match (s.session k).cache.find? (fun e => e.hsn == h) with
  | some e => e.summary
  | none => 0xFF * 2 ^ 88

/-- Pair objects of the own site are refused (R312). -/
def State.ownPair (s : State) (f v : Nat) : Option Nat := if s.isOwnSite f then none else some v

/-- The objects that are made from other state. -/
def views : List View := [
  .one Reg.oldestOpenIteration (fun s => s.oldestOpen.2),
  .one Reg.oldestOpenCue (fun s => s.oldestOpen.1),
  ⟨0x5010, 1, 3, 1, fun s _ _ => s.completionRecord⟩,
  .one Reg.syncCount (fun s => s.sync (s.obj Reg.syncSelect)),
  .one Reg.streamCredit (fun s => if s.selStream.draining then 0 else s.selStream.credit),
  .one Reg.streamKind (fun s => eKind s.selStream.entry),
  .one Reg.streamParcelsOut (fun s => s.selStream.parcelsOut),
  .one Reg.streamParcelsIn (fun s => s.selStream.parcelsIn),
  .one Reg.streamTokensOut (fun s => s.selStream.tokensOut),
  .one Reg.streamTokensIn (fun s => s.selStream.tokensIn),
  .one Reg.groupState (fun s => s.groupStateWord s.selGroup),
  .one Reg.groupInstance (fun s => (tget {} s.groupInfo s.selGroup).num),
  .one Reg.groupMembers (fun s => s.groupMembersWord s.selGroup),
  .one Reg.groupHeadersAccepted (fun s => s.groupAccepted s.selGroup),
  .one Reg.groupFirstMissing (fun s => s.groupFirstMissing s.selGroup),
  .one Reg.groupResultCount (fun s => (tget {} s.groupInfo s.selGroup).count),
  .one Reg.groupWaitNs (fun s => s.groupWaitNs s.selGroup),
  .one Reg.groupInstancesCompleted (fun s => (tget {} s.groupInfo s.selGroup).completed),
  .one Reg.groupMissingMap (fun s => s.groupMissing s.selGroup),
  .idxs (Reg.slotNamed 0) 4 State.slotNamedWord,
  .one Reg.poolFree State.poolFree,
  .one Reg.poolReservedUnused State.reservedUnused,
  .one Reg.bitmapWord (fun s => s.bitmapWord (s.obj Reg.bitmapSelect)),
  .subs (Reg.ownerUsage 0) 64 State.usage,
  .one Reg.prefetchBusy State.prefetchBusy,
  .one Reg.lfnNow State.lfn,
  .subs (Reg.channelFramerState 0) 32 State.framerWord,
  .subs (Reg.routeMembers 0) 4 State.routeMembersWord,
  .subs (Reg.routeSubst 0) 4 State.routeSubstWord,
  .subs (Reg.channelDefects 0) 32 State.defectsWord,
  ⟨0x3220, 1, 1, 32, fun s _ j => s.pmRecord j⟩,
  .subs (Reg.bundleState 0) 4 State.bundleStateWord,
  .one Reg.peerState State.peerStateWord,
  .subs (Reg.linkState 0) 16 State.linkStateWord,
  .subs (Reg.channelState 0) 32 State.channelStateWord,
  .subs (Reg.engineState 0) 8 State.engineStateWord,
  .subs (Reg.linkTimersUs 0) 16 State.timersWord,
  .subs (Reg.linkTimerMinUs 0) 16 State.timersMinWord,
  ⟨0x4100, 8, 2, 1, fun s k _ => s.ownPair k (s.pairEpochs k)⟩,
  ⟨0x4100, 8, 4, 1, fun s k _ => s.ownPair k ((s.pair k).ivCount % 2 ^ 48)⟩,
  ⟨0x4100, 8, 6, 1, fun s k _ => s.ownPair k (s.eraseTime k)⟩,
  ⟨0x4100, 8, 1, 9, fun s k j => s.ownPair k (s.obj (0x410001 + 0x100 * k + j))⟩,
  .one Reg.ringState State.ringStateWord,
  .one Reg.divertedChannels State.divertedWord,
  .one Reg.networkTimeNs State.net,
  .one Reg.currentEpoch State.epoch,
  .one Reg.todNextPps State.todNext,
  .one Reg.quorumState State.quorumWord,
  .one Reg.appliedWord (fun s => tget 0 s.site.applied (s.obj Reg.appliedSelect)),
  .one Reg.healthRecord State.healthRecord,
  .one Reg.healthWorst State.healthWorst,
  .idxs (Reg.cvState 0) 8 State.cvStateWord,
  .idxs (Reg.cvRunning 0) 8 State.cvReg,
  ⟨0x1100, 2, 7, 8, fun s k j => some (s.summary k j)⟩,
  ⟨0x1200, 1, 3, 1, fun s _ _ => s.eventRecords⟩,
  .one Reg.heatToCoolantDw State.heatToCoolant,
  .one Reg.hbmDerateDw State.hbmDerate]

/-- Object o lies in a row of indices and subindices. -/
def rowHolds (idx nIdx sub nSub o : Nat) : Bool :=
  decide (idx ≤ o / 256) && decide (o / 256 < idx + nIdx) && decide (sub ≤ o % 256) && decide (o % 256 < sub + nSub)

/-- What an object reads as now; none where the read is refused OUT_OF_RANGE. -/
def State.view (s : State) (o : Nat) : Option Nat :=
  match views.find? (fun v => rowHolds v.idx v.nIdx v.sub v.nSub o) with
  | some v => v.val s (o / 256 - v.idx) (o % 256 - v.sub)
  | none => some (s.obj o)

/-! ### What writes do -/

/-- What a write does: the session that writes (0 management port, 1 bus), then the state, index and subindex as in
`View`, and the value. -/
abbrev WriteAct := Nat → State → Nat → Nat → Nat → Status × State

structure Writer where
  idx : Nat
  nIdx : Nat
  sub : Nat
  nSub : Nat
  act : WriteAct

def Writer.one (o : Nat) (act : State → Nat → Status × State) : Writer := ⟨o / 256, 1, o % 256, 1, fun _ s _ _ v => act s v⟩
def Writer.subs (o n : Nat) (act : State → Nat → Nat → Status × State) : Writer :=
  ⟨o / 256, 1, o % 256, n, fun _ s _ j v => act s j v⟩
def Writer.idxs (o n : Nat) (act : State → Nat → Nat → Status × State) : Writer :=
  ⟨o / 256, n, o % 256, 1, fun _ s k _ v => act s k v⟩

/-- The write of TOUCH_HOLDOFF_MS (R385). -/
def State.writeTouchHoldoff (s : State) (v : Nat) : Status × State :=
  let short := match s.active with
    | some n => v != 0 && (List.range 8).any (fun f => bit (s.farSites n) f && decide (v < s.touchMin n f))
    | none => false
  if 60000 < v ∨ short = true then (stOutOfRange, s) else (stOk, s.setObj Reg.touchHoldoffMs v)

/-- The write of a management address: the old one stays in force until MGMT_ADDRESS_CHANGE (R421), in an
Intermission too (R451; DEDUCED, log entry 163). -/
def State.changeAddress (s : State) (o v : Nat) : State :=
  let s : State := if tget 0 s.mgmtChange o = 0 then { s with mgmtChange := tset 0 s.mgmtChange o (s.obj o + 1) } else s
  s.setObj o v
def State.writeMac (s : State) (v : Nat) : Status × State :=
  if bits v 63 48 ≠ 0 then (stReservedNonzero, s) else (stOk, s.changeAddress Reg.mgmtMac v)
def State.writeUdpPort (s : State) (v : Nat) : Status × State :=
  if v < 1024 then (stOutOfRange, s) else (stOk, s.changeAddress Reg.jdpUdpPort v)

/-- BUS_WRITE_ENABLE is written over the management port alone (R421). -/
def State.writeBusEnable (s : State) (ses v : Nat) : Status × State :=
  if ses = 1 then (stAccessDenied, s) else State.writeAwake Reg.busWriteEnable s v

/-- The write of COOLANT_FLOW_CLPM (Table 21.12). -/
def State.writeFlow (s : State) (v : Nat) : Status × State :=
  if v ≠ 0 ∧ (v < 100 ∨ 300 < v) then (stOutOfRange, s) else (stOk, s.setObj Reg.coolantFlowClpm v)

/-- The write of SCAN_COMMAND; how far a scan that STOP ends has come is a free value. -/
def State.writeScan (s : State) (u v : Nat) : Status × State :=
  let r := s.writeScanCommand u v s.takeFree.1
  (r.1, if r.1 = stOk then r.2.takeFree.2 else r.2)

/-- A write refused where the pair is the own site's (R312), before its own rules (DESIGN CHOICE, log entry 146). -/
def State.unlessOwn (s : State) (f : Nat) (r : Status × State) : Status × State :=
  if s.isOwnSite f then (stOutOfRange, s) else r

/-- Writes with rules of their own; every other object that may be written just takes the value. -/
def writers : List Writer := [
  .one Reg.coreRailMode State.writeRailMode,
  .one Reg.coreRailFixedMv State.writeRailFixed,
  .one Reg.slewLimit State.writeSlewLimit,
  .one Reg.powerControl State.writePowerControl,
  .one Reg.outerBoundaryHint State.writeBoundaryHint,
  .one Reg.residueInject State.writeResidueRegister,
  .one Reg.flagsAccumulated State.writeFlagsAccumulated,
  .idxs (Reg.slotCommand 0) 2 State.writeSlotCommand,
  .idxs (Reg.sheetOffset 0) 2 (fun s k v => s.writeSheetReg k (Reg.sheetOffset k) v),
  .idxs (Reg.sheetLength 0) 2 (fun s k v => s.writeSheetReg k (Reg.sheetLength k) v),
  .idxs (Reg.sheetCrc 0) 2 (fun s k v => s.writeSheetReg k (Reg.sheetCrc k) v),
  .one Reg.syncSelect (State.writeBetween Reg.syncSelect 0 8191),
  .one Reg.streamSelect (State.writeBetween Reg.streamSelect 0 16383),
  .one Reg.abortRequest State.writeAbortRequest,
  .one Reg.groupSelect (State.writeBetween Reg.groupSelect 0 511),
  .one Reg.outerStepStart State.writeOuterStepStart,
  .idxs (Reg.programRecord 0) 16 State.writeProgram,
  .idxs (Reg.slotTable 0) 4 State.writeSlotTable,
  .idxs (Reg.slotInFlightClear 0) 4 State.writeInFlightClear,
  .one Reg.scrubPeriodH State.writeScrubPeriod,
  .one Reg.poolBase State.writePoolBase,
  .one Reg.poolBuffers State.writePoolBuffers,
  .subs (Reg.ownerLimits 0) 64 State.writeOwnerLimits,
  .subs (Reg.prefetchDescriptor 0) 64 State.writePrefetch,
  .one Reg.pageSwitchRequest State.writePageSwitch,
  .one Reg.restoreHoldoffMs (State.writeBetween Reg.restoreHoldoffMs 1000 600000),
  .subs (Reg.cmPage 0) 4 State.writeCmPage,
  .subs (Reg.lgTable 0) 4 State.writeLgTable,
  .one Reg.degThreshold (State.writeBetween Reg.degThreshold 1 1562500),
  .one Reg.degSeconds (State.writeBetween Reg.degSeconds 2 10),
  .one Reg.degAction (State.writeBetween Reg.degAction 0 1),
  .one Reg.timAction (State.writeBetween Reg.timAction 0 1),
  .one Reg.peerLossHoldoffMs (State.writeBetween Reg.peerLossHoldoffMs 0 10000),
  .one Reg.klkLoad (fun s v => s.writeKlkLoad v []),
  .one Reg.sakLoad (fun s v => s.writeSakLoad v []),
  .idxs (Reg.pairKeyLoad 0) 8 (fun s f v => s.writePairKeyLoad f v []),
  .idxs (Reg.pairSwitchRequest 0) 8 (fun s f v => s.unlessOwn f (s.writePairSwitch f v)),
  .idxs (Reg.keyErase 0) 8 (fun s f v => s.unlessOwn f (s.writeKeyErase f v)),
  .subs (Reg.channelConfig 0) 32 State.writeChannelConfig,
  .subs (Reg.relockRequest 0) 32 State.writeRelock,
  .one Reg.calEnable (State.writeBetween Reg.calEnable 0 1),
  .one Reg.calPeriodS (State.writeBetween Reg.calPeriodS 600 86400),
  .one Reg.calRequest State.writeCalRequest,
  .one Reg.relockHoldMs (State.writeBetween Reg.relockHoldMs 10 10000),
  .one Reg.calWaitMs (State.writeBetween Reg.calWaitMs 1000 60000),
  .one Reg.monitorSelect State.writeMonitor,
  .subs (Reg.portConfig 0) 16 State.writePortConfig,
  .subs (Reg.portMac 0) 16 (fun s p v => State.writeReserved (Reg.portMac p) 63 48 s v),
  .subs (Reg.peerMac 0) 16 (fun s p v => State.writeReserved (Reg.peerMac p) 63 48 s v),
  .one Reg.ptUdpPort (State.writeBetween Reg.ptUdpPort 1024 65535),
  .one Reg.hostRetryUs (State.writeBetween Reg.hostRetryUs 5 1000),
  .one Reg.hostRetryBudget (State.writeBetween Reg.hostRetryBudget 1 7),
  .one Reg.portFailoverMs (State.writeBetween Reg.portFailoverMs 0 10000),
  .one Reg.laneDegradeSer (State.writeBetween Reg.laneDegradeSer 1000 1000000),
  .subs (Reg.shaperProfile 0) 64 State.writeShaper,
  .subs (Reg.meterProfile 0) 64 State.writeMeter,
  .one Reg.ringConfig State.writeRingConfig,
  .one Reg.timeMode (State.writeAwake Reg.timeMode),
  .one Reg.servoRestart (State.writeAwake Reg.servoRestart),
  .one Reg.jumpThresholdNs (State.writeAwake Reg.jumpThresholdNs),
  .one Reg.jumpHoldoverS (State.writeAwake Reg.jumpHoldoverS),
  .one Reg.servoBandwidthMhz (State.writeAwake Reg.servoBandwidthMhz),
  .one Reg.rateLimitPpb (State.writeAwake Reg.rateLimitPpb),
  .one Reg.todNextPps (State.writeAwake Reg.todNextPps),
  .one Reg.refConfig (State.writeAwake Reg.refConfig),
  .one Reg.ppsInOffsetNs (State.writeAwake Reg.ppsInOffsetNs),
  ⟨0x7030, 8, 1, 4, fun _ s k j v => s.writeWithin (Reg.asymmetryPs k j) 2000000 v⟩,
  .subs (Reg.siteWeight 0) 8 (fun s f v => State.writeAwake (Reg.siteWeight f) s v),
  .one Reg.tieBreakSite (State.writeAwake Reg.tieBreakSite),
  .one Reg.touchHoldoffMs State.writeTouchHoldoff,
  .one Reg.stateStepSet State.writeStateStep,
  .one Reg.appliedSelect (State.writeBetween Reg.appliedSelect 0 183105),
  .one Reg.healthDecay (State.writeAwake Reg.healthDecay),
  .one Reg.watchPoints (State.writeAwake Reg.watchPoints),
  .one Reg.replacePoints (State.writeAwake Reg.replacePoints),
  .one Reg.mgmtMac State.writeMac,
  .one Reg.mgmtIpv6 (fun s v => (stOk, s.changeAddress Reg.mgmtIpv6 v)),
  .one Reg.jdpUdpPort State.writeUdpPort,
  ⟨0x1120, 1, 2, 1, fun ses s _ _ v => s.writeBusEnable ses v⟩,
  .idxs (Reg.cvConfig 0) 8 State.writeCvConfig,
  .idxs (Reg.cvRunning 0) 8 State.writeCvRunning,
  .idxs (Reg.scanStart 0) 8 State.writeScanStart,
  .idxs (Reg.scanLength 0) 8 State.writeScanLength,
  .idxs (Reg.scanCommand 0) 8 State.writeScan,
  .idxs (Reg.cvRunningLength 0) 8 State.writeCvRunningLength,
  .one Reg.resetRequest State.writeResetRequest,
  .one Reg.safeRequest State.writeSafeRequest,
  ⟨0x1810, 1, 1, 1, fun ses s _ _ v => s.writeIntermission ses v⟩,
  .one Reg.wakePeriodMs State.writeWakePeriod,
  .one Reg.wakeEnable State.writeWakeEnable,
  .one Reg.wakeLineThreshold State.writeWakeThreshold,
  .one Reg.coolantFlowClpm State.writeFlow]

/-- A write of a whole value that its access code lets through. -/
def State.writeValue (s : State) (ses o v : Nat) : Status × State :=
  match writers.find? (fun w => rowHolds w.idx w.nIdx w.sub w.nSub o) with
  | some w => w.act ses s (o / 256 - w.idx) (o % 256 - w.sub) v
  | none => (stOk, s.setObj o v)

/-! ### Resolution of an operation (R409, R410) -/

/-- What resolution finds: the row of an object that the range fits, or a subindex 0x00, or a status. -/
inductive Resolved
  | object (r : ObjRow)
  | highest
  | refused (st : Status)

/-- The range fits the object: 1 to 1,408 bytes (Table 18.2), whole for a numeric one, within its size for a domain one.
SHEET_DATA takes any length (R410). -/
def rangeFits (r : ObjRow) (write : Bool) (off len : Nat) : Bool :=
  if len = 0 ∨ 1408 < len then false
  else if !r.dom then off == 0 && len == r.size
  else if r.size = 0 then off == 0
  else if write && r.acc == .wo then off == 0 && len == r.size
  else decide (off + len ≤ r.size)

/-- Stages 1 and 2 (R410). -/
def resolve (o : Nat) (write : Bool) (off len : Nat) : Resolved :=
  if o % 256 = 0 then
    (if !dictIndexExists (o / 256) then .refused stNoObject
     else if off = 0 ∧ len = 1 then .highest else .refused stTypeMismatch)
  else match dictFind o with
    | none => .refused stNoObject
    | some r => if rangeFits r write off len then .object r else .refused stTypeMismatch

/-- A value as it travels: a number in network order, a byte string byte 0 first (R409). -/
def valueBytes (r : ObjRow) (v : Nat) : List Byte := if r.dom then bytesLE r.size v else bytesBE r.size v

/-- The objects that choose what others read (R136, R413). -/
def selects : List Nat := [Reg.completionSelect, Reg.syncSelect, Reg.streamSelect, Reg.groupSelect, Reg.bitmapSelect, Reg.pmSelect,
  Reg.appliedSelect, Reg.healthSelect, Reg.eventSelect]

/-- The state as a request began, with the SELECT objects as they are now (R413). -/
def State.latched (start now : State) : State := selects.foldl (fun u o => u.setObj o (now.obj o)) start

/-- A READ: its status and data. RO and RL objects read from the snapshot of the request's start, others as they are
now; a WO object reads zeros (R410, R413). -/
def State.readObject (start s : State) (o off len : Nat) : Status × List Byte :=
  match resolve o false off len with
  | .refused st => (st, [])
  | .highest => (stOk, bytesBE 1 (dictHighest (o / 256)))
  | .object r =>
    let from_ := if r.acc == .ro || r.acc == .rl then start.latched s else s.stored o
    match from_.view o with
    | none => (stOutOfRange, [])
    | some v => (stOk, if r.acc == .wo then List.replicate len 0#8 else slice (valueBytes r v) off len)

/-- The value that a write of part of an object makes (R410). -/
def State.merged (s : State) (r : ObjRow) (o off : Nat) (data : List Byte) : Nat :=
  if !r.dom then ofBytesBE data
  else
    let cur := bytesLE r.size (s.obj o)
    ofBytesLE (cur.take off ++ data ++ cur.drop (off + data.length))

/-- A WRITE: its status, the data it answers with, and the state after (R410, R411, R421). -/
def State.writeObject (s : State) (ses o off : Nat) (data : List Byte) : Status × List Byte × State :=
  match resolve o true off data.length with
  | .refused st => (st, [], s)
  | .highest => (stReadOnly, [], s)
  | .object r =>
    if r.acc == .ro || r.acc == .rl then (stReadOnly, [], s)
    else if ses = 1 ∧ s.obj Reg.busWriteEnable = 0 then (stAccessDenied, [], s)
    else
      let w := if r.size = 0 then s.writeSheetData (o / 256 - 0x5100) data else s.writeValue ses o (s.merged r o off data)
      (w.1, if o = Reg.abortRequest ∧ w.1 = stOk then bytesBE 2 (w.2.obj Reg.abortResult) else [], w.2)

/-- A write of any object, as one operation of a session. -/
def execRegisterWrite (t : Nat) (session : Fin 2) (index : BitVec 16) (subindex : Byte) (offset : Word32) (data : List Byte)
    (s0 : State) : Result :=
  let o := index.toNat * 256 + subindex.toNat
  .next ((s0.tick t).managed (fun s =>
    let w := s.writeObject session.val o offset.toNat data
    (w.1, if o = Reg.resetRequest ∧ w.1 = stOk then w.2.2.resetIfDue else w.2.2)))

end Sys2Proof.Machine
end

