-- ==== Sys2Proof/Machine/Jdp.lean ====
section
/-! DEFINITION. The Jenuir Dictionary Protocol: frames of its two transports, PDUs, execution of requests, sessions and
the response cache (18_management_protocol.md, R404-R421). -/
namespace Sys2Proof.Machine

/-! ### PDUs (R407, R408, R419) -/

/-- One operation of a request (Table 18.2). -/
structure JdpOp where
  op : Nat
  sub : Nat
  idx : Nat
  off : Nat
  len : Nat
  data : List Byte
  deriving DecidableEq, Repr

abbrev opRead : Nat := 1
abbrev opWrite : Nat := 2

/-- The object that an operation names. -/
def JdpOp.obj (o : JdpOp) : Nat := o.idx * 256 + o.sub

/-- A request as it is handled. -/
structure JdpReq where
  flags : Nat
  hsn : Nat
  crc : Nat
  ops : List JdpOp
  deriving DecidableEq, Repr

def JdpReq.atomic (r : JdpReq) : Bool := bit r.flags 0
def JdpReq.sync (r : JdpReq) : Bool := bit r.flags 1

/-- Zero bytes after n data bytes. -/
def padLen (n : Nat) : Nat := (4 - n % 4) % 4

/-- `n` operations that fill the bytes exactly; none if they do not. -/
def parseOps : Nat → List Byte → Option (List JdpOp)
  | 0, b => if b.isEmpty then some [] else none
  | n + 1, b =>
    let op := ofBytesBE (slice b 0 1)
    let len := ofBytesBE (slice b 8 2)
    let take := if op = opWrite then len + padLen len else 0
    if b.length < 12 + take || ofBytesBE (slice b 10 2) != 0 then none
    else (parseOps n (b.drop (12 + take))).map (fun r =>
      { op := op, sub := ofBytesBE (slice b 1 1), idx := ofBytesBE (slice b 2 2), off := ofBytesBE (slice b 4 4), len := len,
        data := if op = opWrite then slice b 12 len else [] } :: r)

/-- A PDU's own check: CRC-32 over what precedes it, in network order (R407). -/
def pduCrc (b : List Byte) : List Byte := bytesBE 4 (crcOf crc32 b)

/-- A request PDU, if it is one that R419 does not discard. -/
def parsePdu (b : List Byte) : Option JdpReq :=
  let count := ofBytesBE (slice b 3 1)
  let flags := ofBytesBE (slice b 2 1)
  let body := b.take (b.length - 4)
  if b.length < 28 || decide (1452 < b.length) || pduCrc body != b.drop (b.length - 4) then none
  else if ofBytesBE (slice b 0 1) ≠ 1 ∨ ofBytesBE (slice b 1 1) ≠ 1 ∨ 3 < flags then none
  else if ofBytesBE (slice b 8 4) ≠ 0 ∨ ofBytesBE (slice b 14 10) ≠ 0 ∨ ofBytesBE (slice b 12 2) ≠ b.length then none
  else if count = 0 ∨ 32 < count then none
  else (parseOps count (body.drop 24)).map (fun ops =>
    { flags := flags, hsn := ofBytesBE (slice b 4 4), crc := ofBytesBE (b.drop (b.length - 4)), ops := ops })

/-! ### Execution (R410-R414) -/

/-- What came of one operation. -/
structure OpResult where
  op : JdpOp
  status : Status
  data : List Byte
  deriving DecidableEq, Repr

/-- A status that refuses. -/
def refuses (st : Status) : Bool := st != stOk && st != stStarted

/-- One operation; `start` is the state in which the request began (R413). -/
def State.runOp (s start : State) (ses : Nat) (o : JdpOp) : OpResult × State :=
  if o.op = opRead then
    let r := State.readObject start s o.obj o.off o.len
    (⟨o, r.1, r.2⟩, s)
  else if o.op = opWrite then
    let w := s.writeObject ses o.obj o.off o.data
    (⟨o, w.1, w.2.1⟩, w.2.2)
  else (⟨o, stTypeMismatch, []⟩, s)

/-- Operations one after the other. -/
def State.runOps (start : State) (ses : Nat) : State → List JdpOp → List OpResult × State
  | s, [] => ([], s)
  | s, o :: r =>
    let x := s.runOp start ses o
    let y := State.runOps start ses x.2 r
    (x.1 :: y.1, y.2)

/-- The first write that is refused, with its number and the state it leaves. -/
def State.firstRefused (start : State) (ses : Nat) : Nat → State → List JdpOp → Option (Nat × Status)
  | _, _, [] => none
  | i, s, o :: r =>
    let x := s.runOp start ses o
    if o.op = opWrite ∧ refuses x.1.status = true then some (i, x.1.status)
    else State.firstRefused start ses (i + 1) x.2 r

/-- An ATOMIC request none of whose writes is applied: reads see the state as it was, the refused write carries its
status and leaves what a refusal leaves (R414; DEDUCED, log entry 90). -/
def State.noneApplied (s : State) (ses : Nat) (ops : List JdpOp) (i : Nat) (st : Status) : List OpResult × State :=
  let rs := ops.mapIdx (fun j o =>
    if o.op = opWrite then ⟨o, if j = i then st else stNotApplied, []⟩ else (s.runOp s ses o).1)
  let left := match ops[i]? with
    | some o =>
      let w := s.writeObject ses o.obj o.off o.data
      if refuses w.1 then w.2.2 else s
    | none => s
  (rs, left)

/-- The operations of a request (R412-R414). -/
def State.execute (s : State) (ses : Nat) (r : JdpReq) : List OpResult × State :=
  if r.atomic then
    match State.firstRefused s ses 0 s r.ops with
    | some (i, st) => s.noneApplied ses r.ops i st
    | none => State.runOps s ses s r.ops
  else State.runOps s ses s r.ops

/-- Bytes of an operation in a response. -/
def OpResult.bytes (x : OpResult) : List Byte :=
  bytesBE 1 x.op.op ++ bytesBE 1 x.op.sub ++ bytesBE 2 x.op.idx ++ bytesBE 4 x.op.off ++ bytesBE 2 x.data.length ++ bytesBE 2 x.status
    ++ x.data ++ List.replicate (padLen x.data.length) 0#8

/-- Bytes of a response with these results. -/
def responseLen (rs : List OpResult) : Nat := 28 + (rs.flatMap OpResult.bytes).length

/-- A request as a whole: its status, its results and the state after (R408, R414, R417). -/
def State.answerRequest (s : State) (ses : Nat) (r : JdpReq) : Status × List OpResult × State :=
  if r.sync && r.ops.any (fun o => o.op == opWrite) then (stSyncReadOnly, [], s)
  else
    let x := s.execute ses r
    if 1452 < responseLen x.1 then (stTooLarge, [], s)
    else if r.atomic && x.1.any (fun y => y.op.op == opWrite && y.status == stStarted) then (stInconsistent, [], s)
    else (stOk, x.1, x.2)

/-! ### Sessions (R415-R417) -/

/-- A response PDU of session `ses` (Table 18.1). -/
def State.response (s : State) (ses : Nat) (r : JdpReq) (st : Status) (rs : List OpResult) : List Byte :=
  let rs := if st = stOk then rs else []
  let ops := rs.flatMap OpResult.bytes
  let b := [1#8, 2#8] ++ bytesBE 1 r.flags ++ bytesBE 1 rs.length ++ bytesBE 4 r.hsn ++ bytesBE 4 (s.obj (Reg.dsn ses))
    ++ bytesBE 2 (28 + ops.length) ++ bytesBE 2 st ++ bytesBE 4 (s.obj (Reg.acceptedHsn ses)) ++ bytesBE 4 (s.obj Reg.bootId) ++ ops
  b ++ pduCrc b

/-- The first operation that failed, as a number and its status (Table 18.5). -/
def firstFailed : Nat → List OpResult → Nat × Status
  | _, [] => (0xFF, 0)
  | i, x :: r => if refuses x.status then (i, x.status) else firstFailed (i + 1) r

/-- RESPONSE_SUMMARY of an accepted request (Table 18.5). -/
def summaryWord (r : JdpReq) (dsn st : Nat) (rs : List OpResult) : Nat :=
  let f := firstFailed 0 rs
  r.hsn + 2 ^ 32 * dsn + 2 ^ 64 * st + 2 ^ 80 * r.ops.length + 2 ^ 88 * f.1 + 2 ^ 96 * f.2 + 2 ^ 112 * b2n r.atomic + 2 ^ 127

/-- A request with SYNC (R417). -/
def State.syncRequest (s : State) (ses : Nat) (r : JdpReq) : List Byte × State :=
  let x := s.answerRequest ses r
  let s := x.2.2.bump (Reg.requestsExecuted ses)
  (s.response ses r x.1 x.2.1, s)

/-- The next request of the session (Table 18.3, first row). -/
def State.nextRequest (s : State) (ses : Nat) (r : JdpReq) : List Byte × State :=
  let x := s.answerRequest ses r
  let s := (x.2.2.bump (Reg.requestsExecuted ses)).setObj (Reg.acceptedHsn ses) r.hsn
  let s := s.bump (Reg.dsn ses)
  let pdu := s.response ses r x.1 x.2.1
  let e : CacheEntry := { hsn := r.hsn, reqCrc := r.crc, pdu := pdu, summary := summaryWord r (s.obj (Reg.dsn ses)) x.1 x.2.1 }
  (pdu, s.setSession ses { cache := (e :: (s.session ses).cache).take 8 })

/-- A request that is refused for its HSN (Table 18.3). -/
def State.refuseHsn (s : State) (ses : Nat) (r : JdpReq) (st : Status) : List Byte × State :=
  (s.response ses r st [], s.bump (Reg.sequenceRefusals ses))

/-- Treatment by HSN (Table 18.3). -/
def State.handleRequest (s : State) (ses : Nat) (r : JdpReq) : List Byte × State :=
  let acc := s.obj (Reg.acceptedHsn ses)
  if r.sync then s.syncRequest ses r
  else if r.hsn = (acc + 1) % 2 ^ 32 then s.nextRequest ses r
  else if (acc + 2 ^ 32 - r.hsn) % 2 ^ 32 < 8 then
    match (s.session ses).cache.find? (fun e => e.hsn == r.hsn) with
    | some e => if e.reqCrc = r.crc then (e.pdu, s.bump (Reg.requestsRepeated ses)) else s.refuseHsn ses r stSequenceReused
    | none => s.refuseHsn ses r stSequenceGap
  else s.refuseHsn ses r stSequenceGap

/-! ### Transports (R404-R406) -/

/-- A management address in force (R421). -/
def State.inForce (s : State) (o : Nat) : Nat := match tget 0 s.mgmtChange o with
  | 0 => s.obj o
  | v + 1 => v

def State.macBytes (s : State) : List Byte := bytesBE 6 (s.inForce Reg.mgmtMac)
def State.ipBytes (s : State) : List Byte := bytesLE 16 (s.inForce Reg.mgmtIpv6)

/-- An IPv6 packet in an Ethernet frame: source MAC, source and destination addresses, next header, hop limit, payload. -/
structure Packet where
  dstMac : List Byte
  srcMac : List Byte
  src : List Byte
  dst : List Byte
  next : Nat
  hops : Nat
  payload : List Byte
  deriving DecidableEq, Repr

/-- An untagged Ethernet frame that carries IPv6. -/
def parsePacket (b : List Byte) : Option Packet :=
  let len := ofBytesBE (slice b 18 2)
  if b.length < 54 + len || slice b 12 2 != [0x86#8, 0xDD#8] || ofBytesBE (slice b 14 1) / 16 != 6 then none
  else some { dstMac := slice b 0 6, srcMac := slice b 6 6, src := slice b 22 16, dst := slice b 38 16,
              next := ofBytesBE (slice b 20 1), hops := ofBytesBE (slice b 21 1), payload := slice b 54 len }

/-- The frame of a packet that this port sends; traffic class, flow label and, where none is given, hop limit are free
values. -/
def State.sendPacket (s : State) (dstMac dst : List Byte) (next : Nat) (hops : Option Nat) (payload : List Byte) : List Byte × State :=
  let (v, s) := s.takeFree
  let (h, s) := match hops with
    | some h => (h, s)
    | none => s.takeFree
  (dstMac ++ s.macBytes ++ [0x86#8, 0xDD#8] ++ bytesBE 4 (6 * 2 ^ 28 + v % 2 ^ 28) ++ bytesBE 2 payload.length ++ bytesBE 1 next
    ++ bytesBE 1 h ++ s.ipBytes ++ dst ++ payload, s)

/-- The PDU of a datagram for this port, and the port it came from (R405). -/
def State.pduOf (s : State) (p : Packet) : Option (Nat × List Byte) :=
  let u := p.payload
  if p.dstMac != s.macBytes || p.dst != s.ipBytes || p.next != 17 || decide (u.length < 8) then none
  else if ofBytesBE (slice u 2 2) ≠ s.inForce Reg.jdpUdpPort ∨ ofBytesBE (slice u 4 2) ≠ u.length then none
  else if udpOk p.src p.dst u then some (ofBytesBE (slice u 0 2), u.drop 8) else none

/-- The response datagram goes to where its request came from (R405). -/
def State.sendResponse (s : State) (p : Packet) (port : Nat) (pdu : List Byte) : State :=
  let head := bytesBE 2 (s.inForce Reg.jdpUdpPort) ++ bytesBE 2 port ++ bytesBE 2 (8 + pdu.length)
  let sum := udpChecksum s.ipBytes p.src (head ++ [0#8, 0#8] ++ pdu)
  let (f, s) := s.sendPacket p.srcMac p.src 17 none (head ++ bytesBE 2 sum ++ pdu)
  s.emit (.jdp 0 f)

/-- Bytes between the flags of a bus frame (R406). -/
def escapeBus : List Byte → List Byte
  | [] => []
  | b :: r => if b = 0x7E#8 ∨ b = 0x7D#8 then 0x7D#8 :: (b ^^^ 0x20#8) :: escapeBus r else b :: escapeBus r

/-- The bytes meant; none where a flag or half an escape stands among them. -/
def unescapeBus : List Byte → Option (List Byte)
  | [] => some []
  | [b] => if b = 0x7E#8 ∨ b = 0x7D#8 then none else some [b]
  | b :: c :: r =>
    if b = 0x7E#8 then none
    else if b = 0x7D#8 then (unescapeBus r).map (fun x => (c ^^^ 0x20#8) :: x)
    else (unescapeBus (c :: r)).map (fun x => b :: x)

/-- A bus frame for this module (R406): its PDU, or that it carries none that can be read. -/
def State.busPdu (s : State) (b : List Byte) : Option (Option (List Byte)) :=
  let inner := (b.drop 1).take (b.length - 2)
  if b.length < 3 || b.head? != some 0x7E#8 || b.getLast? != some 0x7E#8 || ofBytesBE (inner.take 1) != s.obj Reg.busAddress % 4 then none
  else some (unescapeBus (inner.drop 1))

/-- A response on the bus. -/
def State.sendBus (s : State) (pdu : List Byte) : State :=
  s.emit (.jdp 1 ([0x7E#8] ++ escapeBus (bytesBE 1 (s.obj Reg.busAddress % 4 + 0x80) ++ pdu) ++ [0x7E#8]))

/-- A PDU is discarded without a response (R419). -/
def State.discard (s : State) (ses : Nat) : State := s.bump (Reg.pdusDiscarded ses)

/-- A PDU that has arrived complete: its response, if any, and the state after. Before the management controller has
booted it is discarded (R439). -/
def State.takePdu (s : State) (ses : Nat) (b : List Byte) : Option (List Byte) × State :=
  if !s.boot.mgmtUp then (none, s.discard ses)
  else match parsePdu b with
    | none => (none, s.discard ses)
    | some r => let x := s.handleRequest ses r; (some x.1, x.2)

/-- A frame on a transport. JDP is silent in reset and while the boundary register drives its pins (R461, R465). -/
def State.jdpFrame (s : State) (f : JdpFrame) : State :=
  if s.inReset || s.extest then s
  else match f with
    | .ethernet b =>
      match (parsePacket b).bind (fun p => (s.pduOf p).map (fun q => (p, q))) with
      | none => s
      | some (p, port, pdu) =>
        match s.takePdu 0 pdu with
        | (some resp, s) => (s.sendResponse p port resp).resetIfDue
        | (none, s) => s
    | .bus b =>
      match s.busPdu b with
      | none => s
      | some none => s.discard 1
      | some (some pdu) =>
        match s.takePdu 1 pdu with
        | (some resp, s) => (s.sendBus resp).resetIfDue
        | (none, s) => s

/-- A request has arrived complete. -/
def execJdpRequest (t : Nat) (frame : JdpFrame) (s0 : State) : Result := .next (State.jdpFrame (s0.tick t) frame)

/-- A request whose FLAGS have SYNC; the flag decides how it is handled. -/
def execSyncRequest (t : Nat) (frame : JdpFrame) (s0 : State) : Result := .next (State.jdpFrame (s0.tick t) frame)

/-- The response has been sent: new addresses come into force (R421). -/
def execMgmtAddressChange (t : Nat) (s0 : State) : Result := .next { s0.tick t with mgmtChange := [] }

/-! ### Neighbour discovery and echo (R405; PRESUMED, log entry 91) -/

/-- The checksum of an ICMPv6 message, over its pseudo-header. -/
def icmpSum (src dst msg : List Byte) : Nat := fold16 (sum16 (src ++ dst ++ bytesBE 4 msg.length ++ bytesBE 4 58) + sum16 msg)

/-- A message with its checksum put in. -/
def icmpMessage (src dst head body : List Byte) : List Byte :=
  head ++ bytesBE 2 (0xFFFF - icmpSum src dst (head ++ [0#8, 0#8] ++ body)) ++ body

/-- The solicited-node multicast address of an address, and its Ethernet address. -/
def solicitedNode (ip : List Byte) : List Byte := [0xFF#8, 0x02#8] ++ List.replicate 9 0#8 ++ [0x01#8, 0xFF#8] ++ ip.drop 13
def solicitedMac (ip : List Byte) : List Byte := [0x33#8, 0x33#8, 0xFF#8] ++ ip.drop 13

/-- The answer to a solicitation for this port's address. -/
def State.advertise (s : State) (p : Packet) : State :=
  let any := p.src == List.replicate 16 0#8
  let dst := if any then [0xFF#8, 0x02#8] ++ List.replicate 13 0#8 ++ [0x01#8] else p.src
  let mac := if any then [0x33#8, 0x33#8, 0#8, 0#8, 0#8, 0x01#8] else p.srcMac
  let body := [if any then 0x20#8 else 0x60#8, 0#8, 0#8, 0#8] ++ s.ipBytes ++ [2#8, 1#8] ++ s.macBytes
  let (f, s) := s.sendPacket mac dst 58 (some 255) (icmpMessage s.ipBytes dst [136#8, 0#8] body)
  s.emit (.mgmt f)

/-- The answer to an echo request. -/
def State.echoReply (s : State) (p : Packet) : State :=
  let (f, s) := s.sendPacket p.srcMac p.src 58 none (icmpMessage s.ipBytes p.src [129#8, 0#8] (p.payload.drop 4))
  s.emit (.mgmt f)

/-- A neighbour solicitation or an echo request on the management port; any other frame is discarded (R405). -/
def State.neighbour (s : State) (b : List Byte) : State :=
  match parsePacket b with
  | none => s
  | some p =>
    let m := p.payload
    let here := p.dstMac == s.macBytes && p.dst == s.ipBytes
    let multi := p.dstMac == solicitedMac s.ipBytes && p.dst == solicitedNode s.ipBytes
    if p.next ≠ 58 ∨ m.length < 8 ∨ icmpSum p.src p.dst m ≠ 0xFFFF then s
    else if slice m 0 2 == [135#8, 0#8] && p.hops == 255 && slice m 8 16 == s.ipBytes && (here || multi) then s.advertise p
    else if slice m 0 2 == [128#8, 0#8] && here then s.echoReply p
    else s

def execNeighbourSolicitation (t : Nat) (frame : List Byte) (s0 : State) : Result :=
  let s := s0.tick t
  .next (if s.inReset || s.extest || !s.boot.mgmtUp then s else s.neighbour frame)

/-- The link of the management port comes up or goes down (R405, Table 18.9). -/
def execMgmtLinkStateChange (t : Nat) (up : Bool) (s0 : State) : Result :=
  let s := s0.tick t
  .next (s.setObj Reg.mgmtLinkState (setBit (s.obj Reg.mgmtLinkState) 0 up))

end Sys2Proof.Machine
end

