-- ==== Sys2Proof/Machine/Dispatch.lean ====
section
/-! DEFINITION. Every command to its meaning, one arm each. -/
namespace Sys2Proof.Machine

/-- The effect of one command on everything but the queue. -/
def exec (i : Instr) (s : State) : Host.Outcome State Fault Refusal :=
  match i with
  | .powerOnReset t => Sys2Proof.Machine.execPowerOnReset t s
  | .pinReset t lowNs => Sys2Proof.Machine.execPinReset t lowNs s
  | .softReset t value => Sys2Proof.Machine.execSoftReset t value s
  | .watchdogReset t => Sys2Proof.Machine.execWatchdogReset t s
  | .bootIdDrawn t => Sys2Proof.Machine.execBootIdDrawn t s
  | .managementBootDone t => Sys2Proof.Machine.execManagementBootDone t s
  | .coreOutOfReset t => Sys2Proof.Machine.execCoreOutOfReset t s
  | .linksTrained t => Sys2Proof.Machine.execLinksTrained t s
  | .hbmTrained t => Sys2Proof.Machine.execHbmTrained t s
  | .trainingTimeout t unfinished => Sys2Proof.Machine.execTrainingTimeout t unfinished s
  | .rehearsalDone t f => Sys2Proof.Machine.execRehearsalDone t f s
  | .safeRequest t value => Sys2Proof.Machine.execSafeRequest t value s
  | .overtemperatureSafe t => Sys2Proof.Machine.execOvertemperatureSafe t s
  | .intermissionEnter t => Sys2Proof.Machine.execIntermissionEnter t s
  | .intermissionEntered t => Sys2Proof.Machine.execIntermissionEntered t s
  | .intermissionExit t session => Sys2Proof.Machine.execIntermissionExit t session s
  | .wakeSampleWindow t x => Sys2Proof.Machine.execWakeSampleWindow t x s
  | .wakePatternMatch t p => Sys2Proof.Machine.execWakePatternMatch t p s
  | .intermissionWoken t => Sys2Proof.Machine.execIntermissionWoken t s
  | .pwrGoodFall t => Sys2Proof.Machine.execPwrGoodFall t s
  | .railLoss t rail => Sys2Proof.Machine.execRailLoss t rail s
  | .tapInstructionLoad t load => Sys2Proof.Machine.execTapInstructionLoad t load s
  | .controlTick t r x => Sys2Proof.Machine.execControlTick t r x s
  | .prerampStart t rise => Sys2Proof.Machine.execPrerampStart t rise s
  | .forecastRecompute t plan => Sys2Proof.Machine.execForecastRecompute t plan s
  | .coreRailModeWrite t value => Sys2Proof.Machine.execCoreRailModeWrite t value s
  | .coreRailFixedWrite t value => Sys2Proof.Machine.execCoreRailFixedWrite t value s
  | .slewLimitWrite t value => Sys2Proof.Machine.execSlewLimitWrite t value s
  | .powerControlWrite t value => Sys2Proof.Machine.execPowerControlWrite t value s
  | .outerBoundaryHintWrite t value => Sys2Proof.Machine.execOuterBoundaryHintWrite t value s
  | .registerWrite t session index subindex offset data => Sys2Proof.Machine.execRegisterWrite t session index subindex offset data s
  | .openSlot t slot => Sys2Proof.Machine.execOpenSlot t slot s
  | .sheetDataWrite t slot data => Sys2Proof.Machine.execSheetDataWrite t slot data s
  | .sealSlot t slot => Sys2Proof.Machine.execSealSlot t slot s
  | .sealDone t slot => Sys2Proof.Machine.execSealDone t slot s
  | .armSlot t slot => Sys2Proof.Machine.execArmSlot t slot s
  | .disarmSlot t slot => Sys2Proof.Machine.execDisarmSlot t slot s
  | .clearSlot t slot => Sys2Proof.Machine.execClearSlot t slot s
  | .retireSlot t slot => Sys2Proof.Machine.execRetireSlot t slot s
  | .epochBoundary t => Sys2Proof.Machine.execEpochBoundary t s
  | .drainedStreamLoad t ix => Sys2Proof.Machine.execDrainedStreamLoad t ix s
  | .cuePageFetch t bad => Sys2Proof.Machine.execCuePageFetch t bad s
  | .cueRefetch t pos bad => Sys2Proof.Machine.execCueRefetch t pos bad s
  | .cueDispatch t q shares faults => Sys2Proof.Machine.execCueDispatch t q shares faults s
  | .cueEnd t pos => Sys2Proof.Machine.execCueEnd t pos s
  | .remoteTokenArrival t ix obj n jobTag revision => Sys2Proof.Machine.execRemoteTokenArrival t ix obj n jobTag revision s
  | .cueAbort t value => Sys2Proof.Machine.execCueAbort t value s
  | .sheetAbort t value => Sys2Proof.Machine.execSheetAbort t value s
  | .flagsAccumulatedClear t value => Sys2Proof.Machine.execFlagsAccumulatedClear t value s
  | .cueRetryDispatch t pos faults => Sys2Proof.Machine.execCueRetryDispatch t pos faults s
  | .residueInjectWrite t value falls => Sys2Proof.Machine.execResidueInjectWrite t value falls s
  | .memberHeaderArrival t ix => Sys2Proof.Machine.execMemberHeaderArrival t ix s
  | .collectiveTileReduce t g b cell faults => Sys2Proof.Machine.execCollectiveTileReduce t g b cell faults s
  | .programRecordWrite t p value => Sys2Proof.Machine.execProgramRecordWrite t p value s
  | .updatePiece t pos tile cell faults => Sys2Proof.Machine.execUpdatePiece t pos tile cell faults s
  | .slotTableWrite t k value => Sys2Proof.Machine.execSlotTableWrite t k value s
  | .slotInFlightClear t k value => Sys2Proof.Machine.execSlotInFlightClear t k value s
  | .blockDecode t pos seen => Sys2Proof.Machine.execBlockDecode t pos seen s
  | .damageRefetch t pos seen => Sys2Proof.Machine.execDamageRefetch t pos seen s
  | .damageRerequestDone t pos => Sys2Proof.Machine.execDamageRerequestDone t pos s
  | .memoryReadError t addr error reader => Sys2Proof.Machine.execMemoryReadError t addr error reader s
  | .scrubLine t addr found last => Sys2Proof.Machine.execScrubLine t addr found last s
  | .stagingScrub t found => Sys2Proof.Machine.execStagingScrub t found s
  | .flitReplay t h => Sys2Proof.Machine.execFlitReplay t h s
  | .hubLinkTrainingLoss t h => Sys2Proof.Machine.execHubLinkTrainingLoss t h s
  | .hubLinkRetrained t h => Sys2Proof.Machine.execHubLinkRetrained t h s
  | .allocate t o => Sys2Proof.Machine.execAllocate t o s
  | .allocateRetry t o => Sys2Proof.Machine.execAllocateRetry t o s
  | .share t o b claimants last => Sys2Proof.Machine.execShare t o b claimants last s
  | .release t o b => Sys2Proof.Machine.execRelease t o b s
  | .freeBuffer t o b => Sys2Proof.Machine.execFreeBuffer t o b s
  | .poolConfigWrite t target value => Sys2Proof.Machine.execPoolConfigWrite t target value s
  | .ownerLimitsWrite t o value => Sys2Proof.Machine.execOwnerLimitsWrite t o value s
  | .prefetchDescriptorWrite t d value => Sys2Proof.Machine.execPrefetchDescriptorWrite t d value s
  | .lineFrameTx t c mismatch => Sys2Proof.Machine.execLineFrameTx t c mismatch s
  | .lineFrameRx t c f found => Sys2Proof.Machine.execLineFrameRx t c f found s
  | .substitutionDecision t c => Sys2Proof.Machine.execSubstitutionDecision t c s
  | .restoreHoldoffExpiry t c => Sys2Proof.Machine.execRestoreHoldoffExpiry t c s
  | .pageWrite t target j value => Sys2Proof.Machine.execPageWrite t target j value s
  | .pageSwitchRequest t epoch => Sys2Proof.Machine.execPageSwitchRequest t epoch s
  | .pageSwitchCancel t epoch => Sys2Proof.Machine.execPageSwitchCancel t epoch s
  | .pageSwitched t => Sys2Proof.Machine.execPageSwitched t s
  | .pageDrainEnd t => Sys2Proof.Machine.execPageDrainEnd t s
  | .defectSample t samples => Sys2Proof.Machine.execDefectSample t samples s
  | .peerLost t site => Sys2Proof.Machine.execPeerLost t site s
  | .peerRestored t site => Sys2Proof.Machine.execPeerRestored t site s
  | .pmLatch t => Sys2Proof.Machine.execPmLatch t s
  | .stripeComplete t l slotsDue => Sys2Proof.Machine.execStripeComplete t l slotsDue s
  | .lineParcelRx t lg slot => Sys2Proof.Machine.execLineParcelRx t lg slot s
  | .tHoleExpiry t l ssn => Sys2Proof.Machine.execTHoleExpiry t l ssn s
  | .ack t l cum first last => Sys2Proof.Machine.execAck t l cum first last s
  | .nak t l ssn needed num poison => Sys2Proof.Machine.execNak t l ssn needed num poison s
  | .abandon t l ssn reason streams => Sys2Proof.Machine.execAbandon t l ssn reason streams s
  | .rereq t l ix psn poison => Sys2Proof.Machine.execRereq t l ix psn poison s
  | .credit t ix limit => Sys2Proof.Machine.execCredit t ix limit s
  | .drained t l epoch => Sys2Proof.Machine.execDrained t l epoch s
  | .reply t l ix psn => Sys2Proof.Machine.execReply t l ix psn s
  | .tRetryExpiry t l stripe => Sys2Proof.Machine.execTRetryExpiry t l stripe s
  | .rereqRetryExpiry t l num => Sys2Proof.Machine.execRereqRetryExpiry t l num s
  | .tFailExpiry t l ssn => Sys2Proof.Machine.execTFailExpiry t l ssn s
  | .retainExpiry t l => Sys2Proof.Machine.execRetainExpiry t l s
  | .excessDelayClear t l n => Sys2Proof.Machine.execExcessDelayClear t l n s
  | .parcelEncrypt t ix mismatch => Sys2Proof.Machine.execParcelEncrypt t ix mismatch s
  | .parcelDecrypt t l n body mismatch => Sys2Proof.Machine.execParcelDecrypt t l n body mismatch s
  | .urgentSuspension t lane mismatch => Sys2Proof.Machine.execUrgentSuspension t lane mismatch s
  | .klkLoad t blob mismatch => Sys2Proof.Machine.execKlkLoad t blob mismatch s
  | .sakLoad t blob mismatch => Sys2Proof.Machine.execSakLoad t blob mismatch s
  | .pairKeyLoad t f blob mismatch => Sys2Proof.Machine.execPairKeyLoad t f blob mismatch s
  | .pairSwitchRequest t f value => Sys2Proof.Machine.execPairSwitchRequest t f value s
  | .keyErase t f value => Sys2Proof.Machine.execKeyErase t f value s
  | .keyErased t f => Sys2Proof.Machine.execKeyErased t f s
  | .alarm t cause => Sys2Proof.Machine.execAlarm t cause s
  | .lockReading t c r => Sys2Proof.Machine.execLockReading t c r s
  | .relockSweepDone t c attempts => Sys2Proof.Machine.execRelockSweepDone t c attempts s
  | .relockHoldExpiry t c => Sys2Proof.Machine.execRelockHoldExpiry t c s
  | .relockRequest t c value => Sys2Proof.Machine.execRelockRequest t c value s
  | .pilotDetection t c tone word => Sys2Proof.Machine.execPilotDetection t c tone word s
  | .calibrationStart t e => Sys2Proof.Machine.execCalibrationStart t e s
  | .calWaitExpiry t c => Sys2Proof.Machine.execCalWaitExpiry t c s
  | .calibrationEnd t c attempts => Sys2Proof.Machine.execCalibrationEnd t c attempts s
  | .calRequest t value => Sys2Proof.Machine.execCalRequest t value s
  | .channelEnable t c config => Sys2Proof.Machine.execChannelEnable t c config s
  | .channelDisable t c config => Sys2Proof.Machine.execChannelDisable t c config s
  | .channelForceDisable t c config => Sys2Proof.Machine.execChannelForceDisable t c config s
  | .rateChangeLocked t c => Sys2Proof.Machine.execRateChangeLocked t c s
  | .engineFailed t e cause => Sys2Proof.Machine.execEngineFailed t e cause s
  | .monitorSelect t value => Sys2Proof.Machine.execMonitorSelect t value s
  | .monitorDone t code => Sys2Proof.Machine.execMonitorDone t code s
  | .portUp t p => Sys2Proof.Machine.execPortUp t p s
  | .portDown t p localFault remoteFault => Sys2Proof.Machine.execPortDown t p localFault remoteFault s
  | .laneFailed t l cause => Sys2Proof.Machine.execLaneFailed t l cause s
  | .laneMessageRx t p state lane => Sys2Proof.Machine.execLaneMessageRx t p state lane s
  | .laneRolled t p => Sys2Proof.Machine.execLaneRolled t p s
  | .hostParcelRx t p frame => Sys2Proof.Machine.execHostParcelRx t p frame s
  | .foreignFrame t p frame => Sys2Proof.Machine.execForeignFrame t p frame s
  | .feedbackSend t p => Sys2Proof.Machine.execFeedbackSend t p s
  | .gapResendExpiry t ix => Sys2Proof.Machine.execGapResendExpiry t ix s
  | .hostRetryExpiry t ix => Sys2Proof.Machine.execHostRetryExpiry t ix s
  | .portFailover t ix => Sys2Proof.Machine.execPortFailover t ix s
  | .hostFrameSend t p => Sys2Proof.Machine.execHostFrameSend t p s
  | .shaperProfileWrite t k value => Sys2Proof.Machine.execShaperProfileWrite t k value s
  | .meterProfileWrite t k value => Sys2Proof.Machine.execMeterProfileWrite t k value s
  | .portConfigWrite t p value => Sys2Proof.Machine.execPortConfigWrite t p value s
  | .ringConfigWrite t value => Sys2Proof.Machine.execRingConfigWrite t value s
  | .ringHelloTx t => Sys2Proof.Machine.execRingHelloTx t s
  | .ringHelloRx t p sizePos => Sys2Proof.Machine.execRingHelloRx t p sizePos s
  | .ringLinkDown t p => Sys2Proof.Machine.execRingLinkDown t p s
  | .divertRequest t p owner wc rate farSite => Sys2Proof.Machine.execDivertRequest t p owner wc rate farSite s
  | .divertGrant t p wc under => Sys2Proof.Machine.execDivertGrant t p wc under s
  | .divertRefuse t p wc => Sys2Proof.Machine.execDivertRefuse t p wc s
  | .divertNotice t p wc => Sys2Proof.Machine.execDivertNotice t p wc s
  | .divertStop t p owner wc => Sys2Proof.Machine.execDivertStop t p owner wc s
  | .ringBlocksRx t p h payload => Sys2Proof.Machine.execRingBlocksRx t p h payload s
  | .timeModeWrite t value => Sys2Proof.Machine.execTimeModeWrite t value s
  | .servoRestart t value => Sys2Proof.Machine.execServoRestart t value s
  | .ppsEdge t servo => Sys2Proof.Machine.execPpsEdge t servo s
  | .timeEstimate t servo => Sys2Proof.Machine.execTimeEstimate t servo s
  | .timeStepped t => Sys2Proof.Machine.execTimeStepped t s
  | .timeLocked t => Sys2Proof.Machine.execTimeLocked t s
  | .holdoverEntry t => Sys2Proof.Machine.execHoldoverEntry t s
  | .routeTimeDisagree t site n => Sys2Proof.Machine.execRouteTimeDisagree t site n s
  | .touchHoldoffExpiry t site => Sys2Proof.Machine.execTouchHoldoffExpiry t site s
  | .stateStepSet t value => Sys2Proof.Machine.execStateStepSet t value s
  | .healthDecayTick t => Sys2Proof.Machine.execHealthDecayTick t s
  | .jdpRequest t frame => Sys2Proof.Machine.execJdpRequest t frame s
  | .syncRequest t frame => Sys2Proof.Machine.execSyncRequest t frame s
  | .mgmtAddressChange t => Sys2Proof.Machine.execMgmtAddressChange t s
  | .neighbourSolicitation t frame => Sys2Proof.Machine.execNeighbourSolicitation t frame s
  | .cvConfigWrite t u value => Sys2Proof.Machine.execCvConfigWrite t u value s
  | .cvRunningWrite t u target value => Sys2Proof.Machine.execCvRunningWrite t u target value s
  | .scanStart t u => Sys2Proof.Machine.execScanStart t u s
  | .scanStartContinue t u => Sys2Proof.Machine.execScanStartContinue t u s
  | .scanStop t u lines => Sys2Proof.Machine.execScanStop t u lines s
  | .scanDone t u => Sys2Proof.Machine.execScanDone t u s
  | .resetNReleased t straps => Sys2Proof.Machine.execResetNReleased t straps s
  | .engineLinkTrainingLoss t e => Sys2Proof.Machine.execEngineLinkTrainingLoss t e s
  | .alarmConditionEnd t cause => Sys2Proof.Machine.execAlarmConditionEnd t cause s
  | .referenceInputAbsent t input absent => Sys2Proof.Machine.execReferenceInputAbsent t input absent s
  | .mgmtLinkStateChange t up => Sys2Proof.Machine.execMgmtLinkStateChange t up s

end Sys2Proof.Machine
end

