-- ==== Sys2Proof/Machine/Step.lean ====
section
/-! DEFINITION. One step of the block: the command that has waited longest has its effect. -/
namespace Sys2Proof.Machine

/-- The command at the front of the queue leaves it and has its effect; an empty queue leaves the block as
it is (DESIGN CHOICE, log entry 1).
Whoever sends a command, it is taken as it comes (DESIGN CHOICE, log entry 106). -/
def step (s : State) : Host.Outcome State Fault Refusal :=
  match s.pending with
  | [] => .next s
  | c :: rest => exec c { s with pending := rest }

/-- The state with the command that a word of the table spells at the front of its queue; unchanged where
the word spells none. DEDUCED, log entry 8. -/
def State.withFetchWord (s : State) (nbits w : Nat) : State :=
  match Sys2Proof.decodeTableWord nbits w with
  | none => s
  | some c => { s with pending := c :: s.pending }

end Sys2Proof.Machine
end

