-- ==== Sys2Proof/Safety.lean ====
section
/-! DEFINITION. What counts as a safe run of the block, and the words the statements use: what a state keeps of an
earlier one, and what it has reported. -/
namespace Sys2Proof.Machine

/-- Device memory is in its canonical form. -/
def State.MemOk (s : State) : Prop := Memory.wf s.mem

/-- A step keeps a property of states. -/
def Preserved (inv : State → Prop) : Prop := ∀ s s', inv s → step s = .next s' → inv s'

/-- Every object but those listed reads in `s'` as in `s`. -/
def State.KeepsObjects (s s' : State) (except : List Nat) : Prop := ∀ o, o ∉ except → s'.obj o = s.obj o

/-- Every byte of device memory reads in `s'` as in `s`. -/
def State.KeepsMemory (s s' : State) : Prop := ∀ a, readByte s'.mem a = readByte s.mem a

/-- Every byte of device memory outside the `n` bytes at `a` reads in `s'` as in `s`. -/
def State.KeepsMemoryBut (s s' : State) (a n : Nat) : Prop :=
  ∀ x, x < a ∨ a + n ≤ x → readByte s'.mem x = readByte s.mem x

/-- The first event that the step from `s` to `s'` wrote: its code, subject and value. -/
def State.FirstEvent (s s' : State) (code subject value : Nat) : Prop :=
  ⟨s.obj Reg.eventWriteSeq, code, s'.net, subject % 2 ^ 64, value % 2 ^ 64⟩ ∈ s'.ring

/-- A refused command changes nothing: only the clock has moved and the status has gone back to the writer. -/
def State.RefusedWith (s s' : State) (st : Status) : Prop :=
  s' = { s with now := s'.now, answer := st }

/-- The instant of a command that is a write request to the management controller; none of any other command. -/
def requestAt : Instr → Option Nat
  | .softReset t _ | .safeRequest t _ | .intermissionEnter t | .intermissionExit t _ | .coreRailModeWrite t _
  | .coreRailFixedWrite t _ | .slewLimitWrite t _ | .powerControlWrite t _ | .outerBoundaryHintWrite t _
  | .registerWrite t _ _ _ _ _ | .openSlot t _ | .sheetDataWrite t _ _ | .sealSlot t _ | .armSlot t _ | .disarmSlot t _
  | .clearSlot t _ | .retireSlot t _ | .cueAbort t _ | .sheetAbort t _ | .flagsAccumulatedClear t _
  | .residueInjectWrite t _ _ | .programRecordWrite t _ _ | .slotTableWrite t _ _ | .slotInFlightClear t _ _
  | .poolConfigWrite t _ _ | .ownerLimitsWrite t _ _ | .prefetchDescriptorWrite t _ _ | .pageWrite t _ _ _
  | .pageSwitchRequest t _ | .pageSwitchCancel t _ | .klkLoad t _ _ | .sakLoad t _ _ | .pairKeyLoad t _ _ _
  | .pairSwitchRequest t _ _ | .keyErase t _ _ | .relockRequest t _ _ | .calRequest t _ | .channelEnable t _ _
  | .channelDisable t _ _ | .channelForceDisable t _ _ | .monitorSelect t _ | .shaperProfileWrite t _ _
  | .meterProfileWrite t _ _ | .portConfigWrite t _ _ | .ringConfigWrite t _ | .timeModeWrite t _ | .servoRestart t _
  | .stateStepSet t _ | .cvConfigWrite t _ _ | .cvRunningWrite t _ _ _ | .scanStart t _ | .scanStartContinue t _
  | .scanStop t _ _ => some t
  | _ => none

end Sys2Proof.Machine
end

