-- ==== Sys2Proof/Certificates/Slice0/Obligations.lean ====
section
/-! DEFINITION. The statements for the provers. `s'` is the state after the command; `s.tick t` is the state with its
clock moved to the command's instant `t`. A clause of the form `s' = { s with f := s'.f, … }` says that every field of the
state but those named is unchanged. -/
open Sys2Proof Sys2Proof.Machine

/-- A step takes the command at the front of the queue and runs it on the state with the queue's rest; on an empty
queue the block idles (the model's own choice, log entry 1). -/
def Obligations.AStepRunsTheFrontCommand : Prop :=
  (∀ (s : State) (c : Instr) (rest : List Instr),
    step { s with pending := c :: rest } = exec c { s with pending := rest })
  ∧ (∀ s : State, s.pending = [] → step s = .next s)

/-- R9, R112, R178, R216, R228, R364, R400, R415, R437: after reset the module is in POWER_UP, both slots are EMPTY,
no sheet is active and the engine is IDLE, page A is active with every entry zero, each SLOT_TABLE is the default
table with generation 0, the pool is empty and unconfigured, every channel is DISABLED, the time unit is FREE at
network time 0, every score is 0, ACCEPTED_HSN is 0xFFFF_FFFF, and no key, stream, event or waiting command is there;
memory is in its canonical form, lists nothing, and every object fits its width. That memory lists nothing and so
reads 0 everywhere is log entry 5, the model's choice: the spec zeroes HBM in rehearsal alone and says nothing of the
staging store. -/
def Obligations.ResetLeavesTheStatedState : Prop :=
  let s := State.reset
  s.modState = modPowerUp ∧ s.slotStateOf 0 = slotEmpty ∧ s.slotStateOf 1 = slotEmpty ∧ s.active = none ∧ s.engState = engIdle
    ∧ s.obj Reg.pageActive = 0 ∧ s.obj Reg.pageSwitchState = pageIdle
    ∧ (∀ j : Fin 4, s.obj (Reg.cmPage j) = 0 ∧ s.obj (Reg.lgTable j) = 0)
    ∧ (∀ k : Fin 4, s.obj (Reg.slotTable k) = 0x8006050403020100 ∧ s.obj (Reg.slotGeneration k) = 0)
    ∧ s.obj Reg.poolBase = 0 ∧ s.obj Reg.poolBuffers = 0 ∧ (∀ o, s.usage o = 0) ∧ (∀ o : Fin 64, s.obj (Reg.ownerLimits o) = 0)
    ∧ (∀ c : Fin 32, s.chState c = chDisabled) ∧ s.timeState = tmFree ∧ s.net = 0
    ∧ s.obj (Reg.acceptedHsn 0) = 0xFFFFFFFF ∧ s.obj (Reg.acceptedHsn 1) = 0xFFFFFFFF
    ∧ s.scores = [] ∧ s.failedEls = [] ∧ s.cipher = {} ∧ s.streams = [] ∧ s.ring = [] ∧ s.events = 0 ∧ s.pending = []
    ∧ s.MemOk ∧ (∀ a, readByte s.mem a = 0) ∧ (∀ o, s.obj o < 2 ^ objBits o)

/-- Whatever its operands and whatever the state, a command leads to a next state: none ends a run. It leaves the
commands that wait as they are (log entry 1). -/
def Obligations.NoCommandEndsARun : Prop :=
  ∀ (c : Instr) (s : State), ∃ s', exec c s = .next s' ∧ s'.pending = s.pending

/-- Every step keeps device memory in its canonical form (addresses rising, no byte listed that reads as an unlisted
one), every object within its width, and the event ring within its 4,096 records. -/
def Obligations.EveryStepKeepsMemoryObjectsAndRing : Prop :=
  Preserved (fun s => s.MemOk ∧ (∀ o, s.obj o < 2 ^ objBits o) ∧ s.ring.length ≤ 4096)

/-- Of requests that management takes, R41: CORE_RAIL_FIXED_MV outside 600 to 800, or below 700 while a channel is in
service, and CORE_RAIL_MODE FIXED while that object holds less than 700 and a channel is in service, are refused with
OUT_OF_RANGE; POWER_CONTROL with a reserved bit is refused with RESERVED_NONZERO. OUTER_BOUNDARY_HINT takes every
value. A refused write changes nothing; an accepted one stores its value and nothing else. -/
def Obligations.PowerWritesAreChecked : Prop :=
  let stored := fun (s : State) (c : Instr) (o v : Nat) => s.answersRequests = true → ∃ s', exec c s = .next s' ∧ s'.answer = stOk
    ∧ s'.obj o = v ∧ s.KeepsObjects s' [o] ∧ s' = { s with now := s'.now, objs := s'.objs, answer := s'.answer }
  let refused := fun (s : State) (c : Instr) (st : Status) => s.answersRequests = true → ∃ s', exec c s = .next s' ∧ s.RefusedWith s' st
  let lit := fun (s : State) => ∃ c : Fin 32, s.inService c = true
  (∀ (s : State) (t : Nat) (v : BitVec 16),
    (v.toNat < 600 ∨ 800 < v.toNat ∨ v.toNat < 700 ∧ lit s → refused s (.coreRailFixedWrite t v) stOutOfRange)
    ∧ (600 ≤ v.toNat → v.toNat ≤ 800 → (700 ≤ v.toNat ∨ ¬ lit s) → stored s (.coreRailFixedWrite t v) Reg.coreRailFixedMv v.toNat))
  ∧ (∀ (s : State) (t : Nat),
    (s.obj Reg.coreRailFixedMv < 700 → lit s → refused s (.coreRailModeWrite t 1#8) stOutOfRange)
    ∧ ((700 ≤ s.obj Reg.coreRailFixedMv ∨ ¬ lit s) → stored s (.coreRailModeWrite t 1#8) Reg.coreRailMode 1)
    ∧ stored s (.coreRailModeWrite t 0#8) Reg.coreRailMode 0
    ∧ (∀ v : Byte, 1 < v.toNat → refused s (.coreRailModeWrite t v) stOutOfRange))
  ∧ (∀ (s : State) (t : Nat) (v : Word32),
    (v.extractLsb 7 4 ≠ 0 ∨ v.extractLsb 31 16 ≠ 0 → refused s (.powerControlWrite t v) stReservedNonzero)
    ∧ (v.extractLsb 7 4 = 0 → v.extractLsb 31 16 = 0 → (v.getLsbD 0 = false ∨ v.getLsbD 1 = true ∨ v.getLsbD 2 = true) →
      stored s (.powerControlWrite t v) Reg.powerControl v.toNat))
  ∧ (∀ (s : State) (t : Nat) (v : Word64), stored s (.outerBoundaryHintWrite t v) Reg.outerBoundaryHint v.toNat)

/-- R37, R39: outside entry into Intermission a control tick leaves the voltage request as it is or moves it by one
step of 5 mV; a tick within 10 ms of the last step makes none, nor, but for the descent at entry into SAFE, one in
which neither a step up nor one down would keep the slew limit; and a tick that makes one takes its instant as the
last step's. In ADAPTIVE mode in READY, rested and with no slew limit to keep, it goes up when the pace does not meet
1.07 times the demand, down when the pace of the lower voltage would still meet it, and else stays. R45: a pre-ramp to
the level of a planned rise begins in READY while slew holding, ballast and pre-ramp are enabled, once what is left of
the time is no more than the rise takes, and not otherwise. R48, R49: a recomputed forecast replaces all twenty
entries and the base time; that the base time, between boundaries too, is the half-second boundary that network time
passed last is the model's choice (log entry 142). No entry depends on the hint when no dispatch does; with no
dispatch ahead and no slew limit every entry of a half second yet to come is the planned draw in force. What the
monitors find and when dispatches are due are operands (log entry 7); log entries 107 and 142 have the model's
choices. -/
def Obligations.VoltageMovesAndForecastsAct : Prop :=
  let mv := fun (s : State) => s.obj Reg.coreRailSetpointMv
  (∀ (s : State) (t : Nat) (r : PowerReading) (x : Sensors), s.modState ≠ modEntering →
    ∃ s', exec (.controlTick t r x) s = .next s'
      ∧ (mv s' = mv s ∨ (mv s' = mv s + 5 ∨ mv s' + 5 = mv s) ∧ s'.power.lastStepAt = some (s.tick t).now)
      ∧ (s.power.safeEntry = false → (∀ up, ({ s with power := { s.power with slewInForce := s.obj Reg.slewLimit } } : State).stepHolds r.stepMw up = false) →
        mv s' = mv s)
      ∧ (∀ a, s.power.lastStepAt = some a → (s.tick t).now < a + 10000000 → mv s' = mv s))
  ∧ (∀ (s : State) (t : Nat) (r : PowerReading) (x : Sensors), s.modState = modReady → s.slewEnabled = false →
    s.obj Reg.coreRailMode = 0 → s.obj Reg.vreqCode ≠ vreqOff → (∀ a, s.power.lastStepAt = some a → a + 10000000 ≤ (s.tick t).now) →
    s.lineFloor ≤ mv s → mv s ≤ 800 →
    ∃ s', exec (.controlTick t r x) s = .next s'
      ∧ (100 * r.pace.toNat < 107 * s.demand → mv s + 5 ≤ 800 → mv s' = mv s + 5 ∧ s'.obj Reg.vreqCode = (mv s + 5 - 600) / 5)
      ∧ (107 * s.demand ≤ 100 * r.pace.toNat → 107 * s.demand ≤ 100 * r.paceBelow.toNat → s.lineFloor + 5 ≤ mv s →
        mv s' = mv s - 5 ∧ s'.obj Reg.vreqCode = (mv s - 5 - 600) / 5)
      ∧ (107 * s.demand ≤ 100 * r.pace.toNat → 100 * r.paceBelow.toNat < 107 * s.demand → mv s' = mv s))
  ∧ (∀ (s : State) (t idle : Nat) (step : PlanStep),
    let u := s.tick t
    let target := u.plannedMw idle (some step.entry)
    let level := u.power.draws.head?.getD idle
    ((s.modState = modReady ∧ s.slewEnabled = true ∧ s.ballastEnabled = true ∧ s.prerampEnabled = true ∧ level < target
        ∧ ∃ b, u.stepInstant step = some b ∧ (b - u.net) * u.power.slewInForce ≤ ((target : Int) - level) * 1000000) →
      exec (.prerampStart t ⟨idle, step⟩) s = .next { u with power := { u.power with preramp := some target } })
    ∧ ((s.modState ≠ modReady ∨ s.slewEnabled = false ∨ s.ballastEnabled = false ∨ s.prerampEnabled = false ∨ target ≤ level
        ∨ u.stepInstant step = none
        ∨ ∃ b, u.stepInstant step = some b ∧ ((target : Int) - level) * 1000000 < (b - u.net) * u.power.slewInForce) →
      exec (.prerampStart t ⟨idle, step⟩) s = .next u))
  ∧ (∀ (s : State) (t idle core : Nat) (steps : List PlanStep),
    ∃ s', exec (.forecastRecompute t ⟨idle, core, steps⟩) s = .next s'
      ∧ s'.obj Reg.forecastBaseTime % 500000000 = 0 ∧ s'.obj Reg.forecastBaseTime ≤ s'.net
      ∧ s'.net < s'.obj Reg.forecastBaseTime + 500000000
      ∧ (∀ k : Fin 20, s'.obj (Reg.drawForecast k) < 2 ^ 19
        ∧ ((∀ p ∈ steps, p.byHint = false) → bit (s'.obj (Reg.drawForecast k)) 16 = false)
        ∧ (steps = [] → s.slewEnabled = false → 0 < k.val ∨ s'.net < s'.obj Reg.forecastBaseTime + 1000000 →
          s'.obj (Reg.drawForecast k) = min 65535 (((s.tick t).plannedMw idle s.power.planAt + 50) / 100)))
      ∧ (∀ o, o ≠ Reg.forecastBaseTime → (∀ k : Fin 20, o ≠ Reg.drawForecast k) → s'.obj o = s.obj o)
      ∧ s' = { s with now := s'.now, objs := s'.objs })

/-- R44, R47, of requests that management takes: SLEW_LIMIT outside 5 to 200 is refused with OUT_OF_RANGE, and
POWER_CONTROL with SLEW_ENABLE 1, BALLAST_ENABLE 0 and THROTTLE_ENABLE 0 with INCONSISTENT; a refused write changes
nothing, and an accepted one stores its value alone. The control tick takes SLEW_LIMIT as the limit in force and
stores what the sensors and the pace monitor read; R35: it counts a fall of the pace below the guaranteed minimum at
the rail's voltage and the die's temperature, up to 110 °C, once for each fall. In READY with the limit enabled and no
exempt change due, work that would rise above the level reached plus the limit is throttled to it, as far as the work
can be paced, and a fall below that level minus the limit is filled with ballast up to the room there is. At the tick
with SLEW_ENABLE 0 there is neither ballast nor throttle. Readings are operands and the tick is taken as a whole: log
entries 7, 100 and 107. -/
def Obligations.SlewLimitIsHeldByBallastAndThrottle : Prop :=
  let stored := fun (s : State) (c : Instr) (o v : Nat) => s.answersRequests = true → ∃ s', exec c s = .next s' ∧ s'.answer = stOk
    ∧ s'.obj o = v ∧ s.KeepsObjects s' [o] ∧ s' = { s with now := s'.now, objs := s'.objs, answer := s'.answer }
  let refused := fun (s : State) (c : Instr) (st : Status) => s.answersRequests = true → ∃ s', exec c s = .next s' ∧ s.RefusedWith s' st
  (∀ (s : State) (t : Nat) (v : BitVec 16),
    (v.toNat < 5 ∨ 200 < v.toNat → refused s (.slewLimitWrite t v) stOutOfRange)
    ∧ (5 ≤ v.toNat → v.toNat ≤ 200 → stored s (.slewLimitWrite t v) Reg.slewLimit v.toNat))
  ∧ (∀ (s : State) (t : Nat) (v : Word32), v.extractLsb 7 4 = 0 → v.extractLsb 31 16 = 0 →
    (v.getLsbD 0 = true → v.getLsbD 1 = false → v.getLsbD 2 = false → refused s (.powerControlWrite t v) stInconsistent)
    ∧ (v.getLsbD 0 = false → stored s (.powerControlWrite t v) Reg.powerControl v.toNat))
  ∧ (∀ (s : State) (t : Nat) (r : PowerReading) (x : Sensors),
    ∃ s', exec (.controlTick t r x) s = .next s' ∧ s'.obj Reg.dieTempDc = toSigned 16 x.die
      ∧ s'.obj Reg.coolantInDc = toSigned 16 x.coolantIn ∧ s'.obj Reg.paceMeasured = r.pace.toNat
      ∧ s'.power.belowFloor = (decide (r.pace.toNat < paceFloor (x.railMv.getD 0 0) x.die) && decide (x.die ≤ 1100))
      ∧ s'.obj Reg.paceFloorEvents = (s.obj Reg.paceFloorEvents + b2n (s'.power.belowFloor && !s.power.belowFloor)) % 2 ^ 64
      ∧ s'.power.slewInForce = s.obj Reg.slewLimit ∧ s'.modState = s.modState ∧ s'.mem = s.mem)
  ∧ (∀ (s : State) (t : Nat) (adj : Int) (r : PowerReading) (x : Sensors), r.leakage = false → s.modState = modReady →
    s.slewEnabled = true → s.throttleEnabled = true → s.power.exemptDue = false → s.power.adjusted.head? = some adj →
    let level := (adj + s.power.exempt).toNat
    level + s.obj Reg.slewLimit < r.workMw → 0 < r.pacedMw →
    ∃ s', exec (.controlTick t r x) s = .next s' ∧ s'.power.throttled = true ∧ s'.power.ballast = 0
      ∧ s'.power.draws.head? = some (max (level + s.obj Reg.slewLimit) (r.workMw - r.pacedMw)))
  ∧ (∀ (s : State) (t : Nat) (adj : Int) (r : PowerReading) (x : Sensors), r.leakage = false → s.modState = modReady →
    s.slewEnabled = true → s.power.exemptDue = false → s.power.adjusted.head? = some adj → s.power.preramp = none →
    let level := (adj + s.power.exempt).toNat
    r.workMw + s.obj Reg.slewLimit < level →
    ∃ s', exec (.controlTick t r x) s = .next s' ∧ s'.power.throttled = false
      ∧ s'.power.ballast = min (level - s.obj Reg.slewLimit - r.workMw) (min s'.ballastCap (600000 - r.coreMw))
      ∧ s'.power.draws.head? = some (r.workMw + s'.power.ballast))
  ∧ (∀ (s : State) (t : Nat) (r : PowerReading) (x : Sensors), s.slewEnabled = false →
    ∃ s', exec (.controlTick t r x) s = .next s' ∧ s'.power.throttled = false ∧ s'.power.ballast = 0
      ∧ s'.obj Reg.ballastNowDw = 0)

/-- R112, R113, Table 5.6, of requests that management takes: SLOT_COMMAND moves a slot between its states and is
refused with SLOT_BUSY from every other one; outside Intermission OPEN (when the memory tests have not failed) takes
EMPTY or SEALED to LOADING with SHEET_OFFSET 0, SEAL starts the checks of a LOADING slot and answers STARTED, DISARM
takes ARMED to SEALED and CLEAR takes LOADING or SEALED to EMPTY; a refused command changes nothing. R113: SHEET_DATA
to a LOADING slot with no SEAL in progress stores its bytes at SHEET_OFFSET in the slot's cue storage and advances
SHEET_OFFSET by their number; every other byte of memory reads as before. It is refused with WRONG_STATE in an
Intermission (R451), with SLOT_BUSY in every other state of the slot, and with OUT_OF_RANGE beyond the slot's end.
That DISARM keeps what is held is log entry 75. -/
def Obligations.SlotsOpenLoadAndClear : Prop :=
  (∀ (s : State) (t : Nat) (n : Fin 2), s.answersRequests = true → s.asleep = false → s.modState ≠ modSafe →
    ((s.slotStateOf n = slotEmpty ∨ s.slotStateOf n = slotSealed) →
      ∃ s', exec (.openSlot t n) s = .next s' ∧ s'.answer = stOk ∧ s'.slotStateOf n = slotLoading
        ∧ s'.obj (Reg.sheetOffset n) = 0 ∧ s'.obj (Reg.sheetJobId n) = 0 ∧ s'.mem = s.mem
        ∧ s.KeepsObjects s' [Reg.slotState n, Reg.sheetOffset n, Reg.sheetJobId n, Reg.sheetRevision n])
    ∧ (s.slotStateOf n ≠ slotEmpty → s.slotStateOf n ≠ slotSealed →
      ∃ s', exec (.openSlot t n) s = .next s' ∧ s.RefusedWith s' stSlotBusy)
    ∧ (s.slotStateOf n = slotLoading → (s.slotSt n).sealing = false →
      ∃ s', exec (.sealSlot t n) s = .next s' ∧ s'.answer = stStarted ∧ (s'.slotSt n).sealing = true
        ∧ s'.slotStateOf n = slotLoading ∧ s'.mem = s.mem ∧ s.KeepsObjects s' [Reg.planCheckDetail])
    ∧ (s.slotStateOf n ≠ slotLoading ∨ (s.slotSt n).sealing = true →
      ∃ s', exec (.sealSlot t n) s = .next s' ∧ s.RefusedWith s' stSlotBusy)
    ∧ (s.slotStateOf n = slotArmed →
      ∃ s', exec (.disarmSlot t n) s = .next s' ∧ s'.answer = stOk ∧ s'.slotStateOf n = slotSealed
        ∧ s.KeepsObjects s' [Reg.slotState n] ∧ s' = { s with now := s'.now, objs := s'.objs, answer := s'.answer })
    ∧ (s.slotStateOf n ≠ slotArmed →
      ∃ s', exec (.disarmSlot t n) s = .next s' ∧ s.RefusedWith s' stSlotBusy)
    ∧ (s.slotStateOf n = slotSealed ∨ s.slotStateOf n = slotLoading ∧ (s.slotSt n).sealing = false →
      ∃ s', exec (.clearSlot t n) s = .next s' ∧ s'.answer = stOk ∧ s'.slotStateOf n = slotEmpty
        ∧ s'.obj (Reg.sheetJobId n) = 0 ∧ s'.mem = s.mem)
    ∧ (s.slotStateOf n ≠ slotSealed → s.slotStateOf n ≠ slotLoading →
      ∃ s', exec (.clearSlot t n) s = .next s' ∧ s.RefusedWith s' stSlotBusy))
  ∧ (∀ (s : State) (t : Nat) (n : Fin 2) (bs : List Byte), s.answersRequests = true →
    (s.asleep = true → ∃ s', exec (.sheetDataWrite t n bs) s = .next s' ∧ s.RefusedWith s' stWrongState))
  ∧ (∀ (s : State) (t : Nat) (n : Fin 2) (bs : List Byte), s.answersRequests = true → s.asleep = false →
    let off := s.obj (Reg.sheetOffset n)
    (s.slotStateOf n = slotLoading → (s.slotSt n).sealing = false → off + bs.length ≤ slotSize →
      ∃ s', exec (.sheetDataWrite t n bs) s = .next s' ∧ s'.answer = stOk
        ∧ s'.obj (Reg.sheetOffset n) = off + bs.length
        ∧ (∀ i (h : i < bs.length), readByte s'.mem (slotBase n + off + i) = bs[i])
        ∧ s.KeepsMemoryBut s' (slotBase n + off) bs.length
        ∧ s.KeepsObjects s' [Reg.sheetOffset n]
        ∧ s' = { s with now := s'.now, objs := s'.objs, mem := s'.mem, poison := s'.poison, answer := s'.answer })
    ∧ (s.slotStateOf n ≠ slotLoading ∨ (s.slotSt n).sealing = true →
      ∃ s', exec (.sheetDataWrite t n bs) s = .next s' ∧ s.RefusedWith s' stSlotBusy)
    ∧ (s.slotStateOf n = slotLoading → (s.slotSt n).sealing = false → slotSize < off + bs.length →
      ∃ s', exec (.sheetDataWrite t n bs) s = .next s' ∧ s.RefusedWith s' stOutOfRange))

/-- R114, Table 5.7: when a SEAL's checks end, which waits while a hub that the image lies behind is away, their first
failure's status, or OK, stands in SEAL_RESULT and in the event; the slot goes to SEALED with the sheet's job and
revision, or stays LOADING. An image whose length is not SHEET_LENGTH, or whose CRC is not SHEET_CRC, fails with
SHEET_CHECK_FAILED before anything else; one with the right CRC but another MAGIC, with SHEET_VERSION. The checks are
made when SEAL_DONE comes (log entry 99). -/
def Obligations.SealEndsWithItsFirstFailure : Prop :=
  (∀ (s : State) (t : Nat) (n : Fin 2), (s.slotSt n).sealing = true →
    s.held [(slotBase n, min slotSize (s.obj (Reg.sheetLength n)))] = false →
    ∃ s', exec (.sealDone t n) s = .next s' ∧ (s'.slotSt n).sealing = false
      ∧ s'.obj (Reg.sealResult n) = ((s.tick t).sealChecks n).1 % 2 ^ 16
      ∧ s.FirstEvent s' 0x5003 n ((s.tick t).sealChecks n).1
      ∧ (((s.tick t).sealChecks n).1 = stOk → s'.slotStateOf n = slotSealed
        ∧ s'.obj (Reg.sheetJobId n) = hJobId (s.hdr n) ∧ s'.obj (Reg.sheetRevision n) = hRevision (s.hdr n))
      ∧ (((s.tick t).sealChecks n).1 ≠ stOk → s'.slotStateOf n = s.slotStateOf n)
      ∧ s'.mem = s.mem)
  ∧ (∀ (s : State) (n : Fin 2),
    (hImageLength (s.hdr n) ≠ s.obj (Reg.sheetLength n)
      ∨ crcOf crc32 (s.read (slotBase n) (s.obj (Reg.sheetLength n))) ≠ s.obj (Reg.sheetCrc n)) →
    (s.sealChecks n).1 = stSheetCheckFailed)
  ∧ (∀ (s : State) (n : Fin 2), s.obj (Reg.sheetLength n) ≤ slotSize →
    hImageLength (s.hdr n) = s.obj (Reg.sheetLength n) →
    crcOf crc32 (s.read (slotBase n) (s.obj (Reg.sheetLength n))) = s.obj (Reg.sheetCrc n) →
    s.isPoisoned (slotBase n) (s.obj (Reg.sheetLength n)) = false → hMagic (s.hdr n) ≠ 0x33455543 →
    (s.sealChecks n).1 = stSheetVersion)
  ∧ (∀ (s : State) (t : Nat) (n : Fin 2), (s.slotSt n).sealing = false
      ∨ s.held [(slotBase n, min slotSize (s.obj (Reg.sheetLength n)))] = true → exec (.sealDone t n) s = .next (s.tick t))

/-- R115, R438: ARM of a SEALED slot, a request that management takes, is refused with SAFE_STATE in SAFE, with
WRONG_STATE in every other state than READY, with EPOCH_PASSED when ARM_EPOCH is not after the current epoch, and with
JOB_MISMATCH when the active sheet, not stopped, is another job's; every refusal stands in SEAL_RESULT and leaves the
slot SEALED. ARM that finds nothing wrong takes the slot to ARMED for ARM_EPOCH. ARM_EPOCH is taken as it stands at
ARM (log entry 99); the order of the refusals is log entry 9. -/
def Obligations.ArmChecksAndArms : Prop :=
  ∀ (s : State) (t : Nat) (n : Fin 2), s.answersRequests = true → s.slotStateOf n = slotSealed →
    let refused := fun (st : Status) => ∃ s', exec (.armSlot t n) s = .next s' ∧ s'.answer = st
      ∧ s'.obj (Reg.sealResult n) = st ∧ s'.slotStateOf n = slotSealed ∧ s.KeepsObjects s' [Reg.sealResult n]
      ∧ s' = { s with now := s'.now, objs := s'.objs, answer := s'.answer }
    (s.modState = modSafe → refused stSafeState)
    ∧ (s.modState ≠ modSafe → s.modState ≠ modReady → refused stWrongState)
    ∧ (s.modState = modReady → s.obj (Reg.armEpoch n) ≤ (s.tick t).epoch → refused stEpochPassed)
    ∧ (∀ a, s.modState = modReady → (s.tick t).epoch < s.obj (Reg.armEpoch n) → s.active = some a →
      s.engState ≠ engStopped → hJobId (s.hdr a) ≠ hJobId (s.hdr n) → refused stJobMismatch)
    ∧ ((s.tick t).armCheck n = stOk →
      ∃ s', exec (.armSlot t n) s = .next s' ∧ s'.answer = stOk ∧ s'.slotStateOf n = slotArmed
        ∧ (s'.slotSt n).epoch = s.obj (Reg.armEpoch n) ∧ (s'.slotSt n).deferred = false
        ∧ s.KeepsObjects s' [Reg.sealResult n, Reg.slotState n])

/-- R116, R117, R365: network time passing an epoch boundary is recorded; an armed slot whose epoch has come activates
while the engine is not running: it is ACTIVE, the engine runs, ACTIVE_SLOT, ACTIVE_JOB_ID and ACTIVATION_EPOCH are
the sheet's; while the engine runs its activation is deferred with its event, and a later boundary at which it still
runs writes no second one. A boundary not yet reached does nothing. -/
def Obligations.SheetsActivateAtEpochBoundaries : Prop :=
  (∀ (s : State) (t : Nat), (s.tick t).net / 1000000 ≤ s.tm.lastBoundary → exec (.epochBoundary t) s = .next (s.tick t))
  ∧ (∀ (s : State) (t : Nat) (n : Fin 2), s.tm.lastBoundary < (s.tick t).net / 1000000 →
    s.slotStateOf n = slotArmed → s.slotStateOf (1 - n.val) ≠ slotArmed → s.engState = engRunning →
    (s.slotSt n).deferred = false → (s.slotSt n).epoch ≤ (s.tick t).net / 1000000 → (∀ f, s.pair f = {}) →
    ∃ s', exec (.epochBoundary t) s = .next s' ∧ s'.tm.lastBoundary = (s.tick t).net / 1000000
      ∧ s'.slotStateOf n = slotArmed ∧ (s'.slotSt n).deferred = true ∧ s.FirstEvent s' 0x5002 n (s.slotSt n).epoch
      ∧ s.KeepsObjects s' [Reg.eventWriteSeq])
  ∧ (∀ (s : State) (t : Nat) (n : Fin 2), s.tm.lastBoundary < (s.tick t).net / 1000000 →
    s.slotStateOf n = slotArmed → s.slotStateOf (1 - n.val) ≠ slotArmed → s.engState = engRunning →
    (s.slotSt n).deferred = true → (∀ f, s.pair f = {}) →
    exec (.epochBoundary t) s = .next { s.tick t with tm := { s.tm with lastBoundary := (s.tick t).net / 1000000 } })
  ∧ (∀ (s : State) (t : Nat) (n : Fin 2), s.tm.lastBoundary < (s.tick t).net / 1000000 →
    s.slotStateOf n = slotArmed → s.slotStateOf (1 - n.val) ≠ slotArmed → s.engState ≠ engRunning →
    (s.slotSt n).epoch ≤ (s.tick t).net / 1000000 → (∀ f, s.pair f = {}) →
    ∃ s', exec (.epochBoundary t) s = .next s' ∧ s'.tm.lastBoundary = (s.tick t).net / 1000000
      ∧ s'.slotStateOf n = slotActive ∧ s'.obj Reg.activeSlot = n ∧ s'.engState = engRunning
      ∧ s'.obj Reg.activeJobId = hJobId (s.hdr n) ∧ s'.obj Reg.activeRevision = hRevision (s.hdr n)
      ∧ s'.obj Reg.activationEpoch = max (s.tm.lastBoundary + 1) (s.slotSt n).epoch)

/-- R118: RETIRE of a stopped active sheet, a request that management takes, takes its slot to SEALED, no sheet is
active, the engine is IDLE and the sync objects are 0; it is refused with SLOT_BUSY otherwise, and changes nothing.
R119: once nothing of the previous sheet's stream is stored any more its index takes the new context's state; a stream
that is not draining, or has parcels stored, is left alone. -/
def Obligations.RetiredSheetsAndDrainedStreamsMakeRoom : Prop :=
  ((∀ (s : State) (t : Nat) (n : Fin 2), s.answersRequests = true → s.asleep = false → s.slotStateOf n = slotActive → s.engState = engStopped →
    ∃ s', exec (.retireSlot t n) s = .next s' ∧ s'.answer = stOk ∧ s'.slotStateOf n = slotSealed ∧ s'.active = none
      ∧ s'.engState = engIdle ∧ (∀ o, s'.sync o = 0) ∧ s'.eng.running = [] ∧ s'.groups = [])
  ∧ (∀ (s : State) (t : Nat) (n : Fin 2), s.answersRequests = true → s.asleep = false → s.slotStateOf n ≠ slotActive ∨ s.engState ≠ engStopped →
    ∃ s', exec (.retireSlot t n) s = .next s' ∧ s.RefusedWith s' stSlotBusy))
  ∧ ((∀ (s : State) (t : Nat) (i : BitVec 14), (s.stream i.toNat).draining = true → s.drained i.toNat = true →
    ∃ s', exec (.drainedStreamLoad t i) s = .next s' ∧ (s'.stream i.toNat).draining = false
      ∧ (s'.stream i.toNat).entry = (s.stream i.toNat).entry ∧ s'.mem = s.mem)
  ∧ (∀ (s : State) (t : Nat) (i : BitVec 14), (s.stream i.toNat).draining = false ∨ s.drained i.toNat = false →
    exec (.drainedStreamLoad t i) s = .next (s.tick t)))

/-- R111, R130: a page read of the running sheet, with room in the look-ahead and its hub there, moves the look-ahead
past every position that it reads: the cues of one page from the first not yet read on. Each cue found damaged, by its
check or as poison or on the way, is marked for its second fetch and counted, and no other mark changes. R111: a good
second fetch clears the mark and does nothing else; a bad one is counted again, and the cue whose queue is at it ends
CUE_DAMAGED, or waits so marked while nothing is dispatched or an earlier cue of its queue holds its tokens. -/
def Obligations.FetchedCuesAreChecked : Prop :=
  let cueIdx := fun (s : State) (n x : Nat) => ((unrolled (s.hdr n) x).map Prod.fst).getD 0
  (∀ (s : State) (t n : Nat) (bad : List Nat), s.active = some n → s.engState = engRunning →
    s.eng.fetchedTo < s.eng.oldest + lookAhead →
    let ps := pagePositions (s.hdr n) s.eng.fetchedTo
    let damaged := fun x => bad.contains x || !s.cueReadsWell n (cueIdx s n x)
    s.held (ps.map (fun x => (s.cueAddr n (cueIdx s n x), 64))) = false →
    ∃ s', exec (.cuePageFetch t bad) s = .next s' ∧ s'.eng.fetchedTo = s.eng.fetchedTo + ps.length
      ∧ (∀ x, tget 0 s'.eng.fetched x = if x ∈ ps ∧ damaged x = true then 2 else tget 0 s.eng.fetched x)
      ∧ s'.obj Reg.cueCrcMismatches = (s.obj Reg.cueCrcMismatches + (ps.filter damaged).length) % 2 ^ 64 ∧ s'.mem = s.mem
      ∧ s.KeepsObjects s' [Reg.cueCrcMismatches, Reg.lastMemoryError] ∧ s'.eng.running = s.eng.running ∧ s'.eng.sync = s.eng.sync)
  ∧ (∀ (h p i k : Nat), unrolled h p = some (i, k) → p ∈ pagePositions h p ∧ (pagePositions h p).length ≤ 1024)
  ∧ (∀ (s : State) (t n pos idx iter : Nat) (c : Cue) (bad : Bool), s.active = some n → tget 0 s.eng.fetched pos = 2 →
    s.posCue n pos = some (c, idx, iter) → s.held [(s.cueAddr n idx, 64)] = false →
    (s.cueReadsWell n idx = true → bad = false →
      exec (.cueRefetch t pos bad) s = .next { s.tick t with eng := { s.eng with fetched := tset 0 s.eng.fetched pos 0 } })
    ∧ (s.cueReadsWell n idx = false ∨ bad = true →
      ∃ s', exec (.cueRefetch t pos bad) s = .next s'
        ∧ s'.obj Reg.cueCrcMismatches = (s.obj Reg.cueCrcMismatches + 1) % 2 ^ 64
        ∧ (s.dispatching = false ∨ (s.takenOf n (queueOf c)).isSome = true ∨ s.nextOf n (queueOf c) = none →
          tget 0 s'.eng.fetched pos = 3 ∧ s.KeepsObjects s' [Reg.cueCrcMismatches, Reg.lastMemoryError] ∧ s'.mem = s.mem)
        ∧ (s.dispatching = true → s.takenOf n (queueOf c) = none → s.nextOf n (queueOf c) = some pos → s.released n pos = true → pos ≤ s.eng.oldest + lookAhead →
          pos ∉ s.eng.marks → isUpdate c = false →
          s.FirstEvent s' 0x5004 (idx + 2 ^ 32 * iter) 0 ∧ s'.obj Reg.cuesFailed = (s.obj Reg.cuesFailed + 1) % 2 ^ 64
            ∧ s'.obj Reg.completionWriteSeq = (s.obj Reg.completionWriteSeq + 1) % 2 ^ 32
            ∧ tget 0 s'.eng.qpos (queueOf c) = pos + 1 ∧ s'.eng.running = s.eng.running.filter (fun r => r.pos != pos))))

/-- R120, R127, R129: a queue whose next cue's waits are not met takes nothing. A cue of any unit class that its queue
reaches with its waits met takes both amounts in one step, from one object their sum. Where its unit is not free it
waits with its tokens taken, and nothing runs; where it is free it runs, and its queue has passed it either way. (An
UPDATE cue is let through by R389, a COLLECTIVE cue's group has no instance, and no delivered parcel of an incoming
stream waits with a token of its own.) A barrier runs and changes nothing else; a control cue that is no barrier is
complete at once: CUES_COMPLETED counts it, and it adds its tokens. -/
def Obligations.CuesDispatchWhenTheirWaitsAreMet : Prop :=
  let reached := fun (s : State) (n p idx iter : Nat) (c : Cue) (q : Fin 532) =>
    s.active = some n ∧ s.dispatching = true ∧ s.takenOf n q = none ∧ s.nextOf n q = some p
      ∧ s.posCue n p = some (c, idx, iter) ∧ s.reach n p = .run
  let paid := fun (s : State) (c : Cue) (o : Nat) =>
    s.sync o - (if o = cWait0Obj c then cWait0N c else 0) - (if o = cWait1Obj c then cWait1N c else 0)
  let admitted := fun (s : State) (iter : Nat) (c : Cue) =>
    (isUpdate c = true → s.quorum = true ∧ s.stepReady (s.outerStep iter) = true)
      ∧ (cUnit c = uCollective → s.groupInst (cGroup c) = none)
  (∀ (s : State) (t n p idx iter : Nat) (c : Cue) (q : Fin 532) (shares : List CellShare) (fs : List CellFault),
    reached s n p idx iter c q → s.waitsMet c = false → exec (.cueDispatch t q shares fs) s = .next (s.tick t))
  ∧ (∀ (s : State) (t n p idx iter : Nat) (c : Cue) (q : Fin 532) (shares : List CellShare) (fs : List CellFault),
    reached s n p idx iter c q → s.waitsMet c = true → admitted s iter c → s.unitFree n p c shares = false →
    ∃ s', exec (.cueDispatch t q shares fs) s = .next s' ∧ (∀ o, s'.sync o = paid s c o)
      ∧ s'.eng.taken = s.eng.taken ++ [p] ∧ tget 0 s'.eng.qpos q = p + 1 ∧ s'.eng.running = s.eng.running ∧ s'.mem = s.mem
      ∧ s.KeepsObjects s' [Reg.rangeHolds])
  ∧ (∀ (s : State) (t n p idx iter : Nat) (c : Cue) (q : Fin 532) (shares : List CellShare) (fs : List CellFault),
    reached s n p idx iter c q → s.waitsMet c = true → admitted s iter c → s.unitFree n p c shares = true → cUnit c ≠ uControl →
    (cUnit c = uHostIn ∨ cUnit c = uLineIn → (s.stream (cStream c)).rxAt (s.stream (cStream c)).rxPsn = none) →
    ∃ s', exec (.cueDispatch t q shares fs) s = .next s' ∧ (∀ o, s'.sync o = paid s c o)
      ∧ s'.eng.running.map (fun r => r.pos) = s.eng.running.map (fun r => r.pos) ++ [p] ∧ tget 0 s'.eng.qpos q = p + 1)
  ∧ (∀ (s : State) (t n p idx iter : Nat) (c : Cue) (shares : List CellShare) (fs : List CellFault),
    reached s n p idx iter c 0 → s.waitsMet c = true → isBarrier c = true →
    ∃ s', exec (.cueDispatch t 0 shares fs) s = .next s' ∧ (∀ o, s'.sync o = paid s c o)
      ∧ s'.eng.running.map (fun r => r.pos) = s.eng.running.map (fun r => r.pos) ++ [p]
      ∧ tget 0 s'.eng.qpos 0 = p + 1 ∧ s'.mem = s.mem ∧ s.KeepsObjects s' [])
  ∧ (∀ (s : State) (t n p idx iter : Nat) (c : Cue) (shares : List CellShare) (fs : List CellFault),
    reached s n p idx iter c 0 → s.waitsMet c = true → cUnit c = uControl → isBarrier c = false →
    ∃ s', exec (.cueDispatch t 0 shares fs) s = .next s'
      ∧ s'.obj Reg.cuesCompleted = (s.obj Reg.cuesCompleted + 1) % 2 ^ 64
      ∧ s'.eng.running.map (fun r => r.pos) = (s.eng.running.map (fun r => r.pos)).filter (fun x => x != p)
      ∧ tget 0 s'.eng.qpos 0 = p + 1
      ∧ (∀ o, (cSig0N c = 0 ∨ o ≠ cSig0Obj c) → (cSig1N c = 0 ∨ o ≠ cSig1Obj c) → s'.sync o = paid s c o)
      ∧ (cSig0N c ≠ 0 → cSig1N c = 0 → s'.sync (cSig0Obj c) = min 0xFFFFFFFF (paid s c (cSig0Obj c) + cSig0N c)))

/-- R205: a MOVE cue that its queue reaches, with its prefetcher free, no poison in its rows and no hub of theirs
away, copies M rows of N bytes: row r from ADDR_A + r × SRC_STRIDE to ADDR_OUT + r × DST_STRIDE, a stride of 0 meaning
N, as they stood before. R206: a byte that lies in several rows of the destination is that of one of them, since the
order of the writes is not defined. Every byte outside the rows reads as before, and no object changes. The bytes are
copied at the dispatch (log entry 92); which row gives a byte of several is a free value (log entry 160). -/
def Obligations.MoveCopiesItsRows : Prop :=
  ∀ (s : State) (t n p idx iter : Nat) (c : Cue) (shares : List CellShare) (fs : List CellFault),
    s.active = some n → s.dispatching = true → s.takenOf n 3 = none → s.nextOf n 3 = some p →
    s.posCue n p = some (c, idx, iter) → s.reach n p = .run → s.waitsMet c = true → cUnit c = uMove →
    s.unitFree n p c [] = true → s.anyPoison (s.cueReads n c) = false → s.held (s.cueReads n c ++ s.cueWrites n c) = false →
    let stride := fun x => if x = 0 then cN c else x
    let src := stride (dSrc (s.moveDesc n c))
    let dst := stride (dDst (s.moveDesc n c))
    let outside := fun (a r : Nat) => a < cAddrOut c + r * dst ∨ cAddrOut c + r * dst + cN c ≤ a
    ∃ s', exec (.cueDispatch t 3 shares fs) s = .next s'
      ∧ (∀ a, (∃ r, r < cM c ∧ ¬ outside a r) → ∃ r i, r < cM c ∧ i < cN c ∧ a = cAddrOut c + r * dst + i
        ∧ readByte s'.mem a = readByte s.mem (cAddrA c + r * src + i))
      ∧ (∀ a, (∀ r, r < cM c → outside a r) → readByte s'.mem a = readByte s.mem a)
      ∧ s.KeepsObjects s' []
      ∧ s'.eng.running.map (fun r => r.pos) = s.eng.running.map (fun r => r.pos) ++ [p]

/-- R129, R131, R133: a running cue that nothing holds up ends: COMPLETE once its work has begun, its class is done
with it and none of its shares waits, or with the status that it must end with. It runs no more, the counter of its
status goes up by one and no other of the three does, and the record of a cue that asks for one, or that does not end
COMPLETE, stands in the completion ring at COMPLETION_WRITE_SEQ, which moves on by one; without a record that does not
move. (The cue writes no part of the cue storage; where memory is told of, no landing waits for its region, R23.)
R128: a barrier is done when it is the oldest cue not ended, a handover when the host has read the last parameters
too; its end moves the oldest cue on and writes nothing but its record. A cue that does not run, or that is not done,
is left alone. -/
def Obligations.CuesEndOnceWithTheirStatus : Prop :=
  let noneWaits := fun (s : State) => ∀ i, ∀ x ∈ (s.stream i).covers, x.closed = false
  let ends := fun (s : State) (n : Nat) (r : Running) (c : Cue) (st : Nat) =>
    r.fate = none ∧ r.waiting = [] ∧ r.idle = none ∧ s.cueDone n r c = true ∧ s.hubBlocks n c = false ∧ st = endComplete
      ∨ r.fate = some st ∧ ¬ (cUnit c = uCollective ∧ st = endStreamFailed)
  (∀ (s : State) (t n pos idx iter st : Nat) (r : Running) (c : Cue), s.active = some n → s.runningAt pos = some r →
    s.posCue n pos = some (c, idx, iter) → ends s n r c st →
    (∀ a ∈ s.cueWrites n c ++ s.landingAreas n c, 0xA0000000 ≤ a.1) →
    ∃ s', exec (.cueEnd t pos) s = .next s' ∧ s'.runningAt pos = none
      ∧ s'.obj Reg.cuesCompleted = (s.obj Reg.cuesCompleted + if st = endComplete then 1 else 0) % 2 ^ 64
      ∧ s'.obj Reg.cuesAborted = (s.obj Reg.cuesAborted + if st = endAborted then 1 else 0) % 2 ^ 64
      ∧ s'.obj Reg.cuesFailed = (s.obj Reg.cuesFailed + if st = endComplete ∨ st = endAborted then 0 else 1) % 2 ^ 64
      ∧ (cRecordEn c = true ∨ st ≠ endComplete → s'.obj Reg.completionWriteSeq = (s.obj Reg.completionWriteSeq + 1) % 2 ^ 32
        ∧ (noneWaits s → s'.readLE (hRingBase (s.hdr n) + 32 * (s.obj Reg.completionWriteSeq % 2 ^ hRingLog2 (s.hdr n))) 32
          = completionWord idx st iter (if st = endComplete then r.flags else 0) (cTag c) (hRevision (s.hdr n)) r.time s'.net % 2 ^ 256))
      ∧ (cRecordEn c = false → st = endComplete → s'.obj Reg.completionWriteSeq = s.obj Reg.completionWriteSeq))
  ∧ (∀ (s : State) (t n pos idx iter : Nat) (r : Running) (c : Cue), s.active = some n → s.runningAt pos = some r →
    s.posCue n pos = some (c, idx, iter) → isBarrier c = true → r.fate = none → r.waiting = [] → r.idle = none → s.eng.oldest = pos →
    s.hubBlocks n c = false → (isHandover c = true → s.hostReads (s.outputAreas n) = false) →
    ∃ s', exec (.cueEnd t pos) s = .next s'
      ∧ s'.obj Reg.cuesCompleted = (s.obj Reg.cuesCompleted + 1) % 2 ^ 64 ∧ s'.runningAt pos = none
      ∧ s.eng.oldest < s'.eng.oldest
      ∧ (noneWaits s → cRecordEn c = true →
        s.KeepsMemoryBut s' (hRingBase (s.hdr n) + 32 * (s.obj Reg.completionWriteSeq % 2 ^ hRingLog2 (s.hdr n))) 32)
      ∧ (noneWaits s → cRecordEn c = false → s'.mem = s.mem))
  ∧ (∀ (s : State) (t n pos idx iter : Nat) (r : Running) (c : Cue), s.active = some n → s.runningAt pos = some r →
    s.posCue n pos = some (c, idx, iter) → r.fate = none → (r.waiting ≠ [] ∨ r.idle ≠ none ∨ s.cueDone n r c = false ∨ s.hubBlocks n c = true) →
    exec (.cueEnd t pos) s = .next (s.tick t))
  ∧ (∀ (s : State) (t pos : Nat), s.active = none ∨ s.runningAt pos = none → exec (.cueEnd t pos) s = .next (s.tick t))

/-- R124: a remote token whose tags are the active sheet's and whose object takes tokens from its stream is added to
that object; one whose tags are the armed sheet's is held; every other one is refused, counted and reported, and
changes no object. -/
def Obligations.RemoteTokensAreAppliedHeldOrRefused : Prop :=
  ∀ (s : State) (t : Nat) (i : BitVec 14) (obj : BitVec 13) (k : Byte) (tag rev : BitVec 16),
    let taken := s.tagsActive tag.toNat rev.toNat = true ∧ ∃ n, s.active = some n ∧ s.takesFrom n obj.toNat i.toNat = true
    (taken → s.sync obj.toNat + k.toNat ≤ 0xFFFFFFFF →
      ∃ s', exec (.remoteTokenArrival t i obj k tag rev) s = .next s'
        ∧ s'.sync obj.toNat = s.sync obj.toNat + k.toNat ∧ (∀ o, o ≠ obj.toNat → s'.sync o = s.sync o)
        ∧ s.KeepsObjects s' [] ∧ s'.mem = s.mem)
    ∧ (taken → 0xFFFFFFFF < s.sync obj.toNat + k.toNat →
      ∃ s', exec (.remoteTokenArrival t i obj k tag rev) s = .next s' ∧ s'.sync obj.toNat = 0xFFFFFFFF
        ∧ s.FirstEvent s' 0x5007 obj.toNat 0
        ∧ s'.obj Reg.syncOverflows = (s.obj Reg.syncOverflows + 1) % 2 ^ 64)
    ∧ (¬ taken → s.tagsArmed tag.toNat rev.toNat = true → s.eng.held.length < 1024 →
      exec (.remoteTokenArrival t i obj k tag rev) s = .next { s.tick t with eng := { s.eng with
        held := s.eng.held ++ [⟨i.toNat, obj.toNat, k.toNat, tag.toNat, rev.toNat⟩] } })
    ∧ (¬ taken → s.tagsArmed tag.toNat rev.toNat = false →
      ∃ s', exec (.remoteTokenArrival t i obj k tag rev) s = .next s'
        ∧ s.FirstEvent s' 0x5008 i.toNat (obj.toNat + 2 ^ 32 * rev.toNat)
        ∧ s'.obj Reg.tokensRefused = (s.obj Reg.tokensRefused + 1) % 2 ^ 64 ∧ s'.eng = s.eng)

/-- R133, R134, R135, Table 5.10, of requests that management takes: an abort with a reserved bit set is refused; with
no active sheet, or one of another revision, it is answered NOT_ACTIVE and changes nothing else; an abort of the sheet
stops the engine; one of a cue that has not been reached marks it, unless 64 marks stand. -/
def Obligations.AbortsAreAnswered : Prop :=
  (∀ (s : State) (t : Nat) (v : BitVec 128), s.answersRequests = true → v.extractLsb 15 4 ≠ 0 ∨ v.extractLsb 63 56 ≠ 0 ∨ v.extractLsb 127 96 ≠ 0 →
    (∃ s', exec (.cueAbort t v) s = .next s' ∧ s.RefusedWith s' stReservedNonzero)
    ∧ (∃ s', exec (.sheetAbort t v) s = .next s' ∧ s.RefusedWith s' stReservedNonzero))
  ∧ (∀ (s : State) (t : Nat) (cue : BitVec 24) (iter : Word32) (rev : BitVec 16) (kind : Fin 2), s.answersRequests = true →
    let v : BitVec 128 := 0#32 ++ iter ++ 0#8 ++ cue ++ rev ++ 0#12 ++ BitVec.ofNat 4 kind
    (s.active = none ∨ ∃ n, s.active = some n ∧ hRevision (s.hdr n) ≠ rev.toNat) →
    (∃ s', exec (.cueAbort t v) s = .next s' ∧ s'.answer = stOk ∧ s'.obj Reg.abortResult = 3
      ∧ s.KeepsObjects s' [Reg.abortResult] ∧ s' = { s with now := s'.now, objs := s'.objs, answer := s'.answer })
    ∧ (∃ s', exec (.sheetAbort t v) s = .next s' ∧ s'.answer = stOk ∧ s'.obj Reg.abortResult = 3
      ∧ s.KeepsObjects s' [Reg.abortResult] ∧ s' = { s with now := s'.now, objs := s'.objs, answer := s'.answer }))
  ∧ (∀ (s : State) (t n : Nat) (rev : BitVec 16), s.answersRequests = true → s.active = some n → hRevision (s.hdr n) = rev.toNat →
    let v : BitVec 128 := 0#32 ++ 0#32 ++ 0#8 ++ 0#24 ++ rev ++ 0#12 ++ 1#4
    ∃ s', exec (.sheetAbort t v) s = .next s' ∧ s'.answer = stOk ∧ s'.engState = engStopped ∧ s'.obj Reg.abortResult = 0)
  ∧ (∀ (s : State) (t n p : Nat) (cue : BitVec 24) (iter : Word32) (rev : BitVec 16), s.answersRequests = true →
    s.active = some n →
    hRevision (s.hdr n) = rev.toNat → s.abortTarget n cue.toNat iter.toNat = some p → tget 0 s.eng.ended p = 0 →
    s.runningAt p = none → p ∉ s.eng.taken → p ∉ s.eng.marks →
    let v : BitVec 128 := 0#32 ++ iter ++ 0#8 ++ cue ++ rev ++ 0#12 ++ 0#4
    (s.eng.marks.length < 64 → ∃ s', exec (.cueAbort t v) s = .next s' ∧ s'.answer = stOk
      ∧ s'.obj Reg.abortResult = 0 ∧ s'.eng.marks = s.eng.marks ++ [p] ∧ s'.eng.running = s.eng.running)
    ∧ (64 ≤ s.eng.marks.length → ∃ s', exec (.cueAbort t v) s = .next s' ∧ s'.answer = stOk
      ∧ s'.obj Reg.abortResult = 5 ∧ s'.eng = s.eng))

/-- R10, R132, of requests that management takes: a write of FLAGS_ACCUMULATED clears exactly the flags written as 1,
and is refused with RESERVED_NONZERO when it names a reserved bit. R95, R102: the share at the head of those that wait
starts again on the lowest cell in service that is free, unless a hub of the cue's areas is away, and the retry is
counted: a collective or an update goes on with its tiles or pieces; a cue of another class whose last waiting share
this is writes its results, or, where they are written, marks the redone tiles RETRIED, and one with further shares
waiting does neither; an injected mismatch of mode 2 on that cell ends it TILE_FAULT and takes the cell out of
service. RESIDUE_INJECT with a reserved bit, the reserved mode, or a cell out of service is refused; on a cell that
runs nothing it arms the injection and changes nothing else. Which cell takes a share is log entry 92. -/
def Obligations.FlagsClearAndFaultedSharesRetry : Prop :=
  ((∀ (s : State) (t : Nat) (v : Byte), s.answersRequests = true → v.extractLsb 7 4 ≠ 0 →
    ∃ s', exec (.flagsAccumulatedClear t v) s = .next s' ∧ s.RefusedWith s' stReservedNonzero)
  ∧ (∀ (s : State) (t : Nat) (v : Byte), s.answersRequests = true → v.extractLsb 7 4 = 0 →
    ∃ s', exec (.flagsAccumulatedClear t v) s = .next s' ∧ s'.answer = stOk
      ∧ (∀ i : Fin 8, bit (s'.obj Reg.flagsAccumulated) i = (bit (s.obj Reg.flagsAccumulated) i && !v.getLsbD i))
      ∧ s.KeepsObjects s' [Reg.flagsAccumulated] ∧ s' = { s with now := s'.now, objs := s'.objs, answer := s'.answer }))
  ∧ ((∀ (s : State) (t n pos idx iter x y : Nat) (rest : List Nat) (r : Running) (c : Cue) (fs : List CellFault), s.active = some n →
    s.runningAt pos = some r → r.waiting = x :: rest → r.fate = none → (List.range 16).find? (s.cellFree pos) = some y →
    s.posCue n pos = some (c, idx, iter) → s.held (readAreas c ++ writeAreas c) = false →
    let hs := r.sharesOn x ++ r.redoneOn x
    let w := ((s.tick t).bump Reg.cueRetries).onRunning pos (fun r => { r with
      waiting := rest, onto := r.onto ++ [y], redo := r.redo ++ hs.map (fun h => { h with cell := Fin.ofNat 16 y })
      retried := r.retried ++ shareTiles hs })
    (isUpdate c = true ∨ cUnit c = uCollective →
      ∃ s' r', exec (.cueRetryDispatch t pos fs) s = .next s' ∧ s'.runningAt pos = some r' ∧ r'.waiting = rest
        ∧ r'.onto = r.onto ++ [y] ∧ s'.obj Reg.cueRetries = (s.obj Reg.cueRetries + 1) % 2 ^ 64
        ∧ s.KeepsObjects s' [Reg.cueRetries] ∧ s'.mem = s.mem)
    ∧ (isUpdate c = false → cUnit c ≠ uCollective → tget 0 s.cells y = 0 →
      (rest ≠ [] → exec (.cueRetryDispatch t pos []) s = .next w)
      ∧ (rest = [] → r.done ≠ 1 → exec (.cueRetryDispatch t pos []) s = .next (w.writeResults pos c r.goal))
      ∧ (rest = [] → r.done = 1 → exec (.cueRetryDispatch t pos []) s = .next (w.markRetried c (shareTiles hs))))
    ∧ (isUpdate c = false → cUnit c ≠ uCollective → tget 0 s.cells y = 2 →
      ∃ s' r', exec (.cueRetryDispatch t pos fs) s = .next s' ∧ s'.runningAt pos = some r' ∧ r'.fate = some endTileFault
        ∧ s'.cellInService y = false ∧ s'.obj Reg.tileFaults = (s.obj Reg.tileFaults + 1) % 2 ^ 64 ∧ s'.mem = s.mem))
  ∧ (∀ (s : State) (t pos : Nat) (fs : List CellFault), (∀ x : Fin 16, s.cellFree pos x = false) →
    exec (.cueRetryDispatch t pos fs) s = .next (s.tick t))
  ∧ (∀ (s : State) (t : Nat) (cell : BitVec 4) (mode : BitVec 2) (r : BitVec 26) (f : Option CellFault), s.answersRequests = true →
    let v : Word32 := r ++ mode ++ cell
    (r ≠ 0 → ∃ s', exec (.residueInjectWrite t v f) s = .next s' ∧ s.RefusedWith s' stReservedNonzero)
    ∧ (r = 0 → (mode = 3 ∨ s.cellInService cell.toNat = false) →
      ∃ s', exec (.residueInjectWrite t v f) s = .next s' ∧ s.RefusedWith s' stOutOfRange)
    ∧ (r = 0 → mode ≠ 3 → s.cellInService cell.toNat = true → s.cellCue cell.toNat = none →
      ∃ s', exec (.residueInjectWrite t v f) s = .next s' ∧ s'.answer = stOk
        ∧ tget 0 s'.cells cell.toNat = mode.toNat ∧ (∀ x, x ≠ cell.toNat → tget 0 s'.cells x = tget 0 s.cells x)
        ∧ s' = { s with now := s'.now, cells := s'.cells, answer := s'.answer })))

/-- R147, R148, R149, R150: a member header whose HDR_CHECK fails is refused with reason 1, reported and counted, and
its stream has lost its framing; a header that passes every check of Table 6.5 is accepted; a header of an instance
that precedes the current one is discarded and counted. A result tile whose members have come and are not poisoned,
with no hub of its areas away, is reduced: its values stand in the output area in their delivered form, its record
beside it, every other byte reads as before, and the tile counts as made. -/
def Obligations.MemberHeadersAreExaminedAndTilesReduced : Prop :=
  let waits := fun (s : State) (i : Nat) (n : Nat) (inst : Instance) (c : Cue) (raw : List Byte) =>
    eBound (s.stream i).entry = true ∧ eCollIn (s.stream i).entry = true ∧ (s.stream i).lostFraming = false
      ∧ s.collective (eGroup (s.stream i).entry) = some (n, inst, c)
      ∧ (s.stream i).rxBytes (s.stream i).rxCover 64 = some raw
      ∧ inst.members.any (fun y => y.index == eMember (s.stream i).entry) = false
  (∀ (s : State) (t n : Nat) (i : BitVec 14) (inst : Instance) (c : Cue) (raw : List Byte),
    waits s i.toNat n inst c raw → headerGood (headerOfWire raw) = false →
    ∃ s', exec (.memberHeaderArrival t i) s = .next s' ∧ (s'.stream i.toNat).lostFraming = true
      ∧ s'.obj Reg.lastHeaderRefused
        = headerRefusedWord (eGroup (s.stream i.toNat).entry) (eMember (s.stream i.toNat).entry) false 1 inst.num
      ∧ s'.obj Reg.headersRefused = (s.obj Reg.headersRefused + 1) % 2 ^ 64
      ∧ s.KeepsObjects s' [Reg.lastHeaderRefused, Reg.headersRefused, Reg.eventWriteSeq] ∧ s'.mem = s.mem
      ∧ s'.groups = s.groups)
  ∧ (∀ (s : State) (t n : Nat) (i : BitVec 14) (inst : Instance) (c : Cue) (raw : List Byte),
    waits s i.toNat n inst c raw →
    s.headerFault (eGroup (s.stream i.toNat).entry) (s.stream i.toNat).entry c (headerOfWire raw) = none →
    tInstance (headerOfWire raw) = inst.num →
    ∃ s' y, exec (.memberHeaderArrival t i) s = .next s' ∧ s'.groupInst (eGroup (s.stream i.toNat).entry) = some y
      ∧ y.num = inst.num ∧ (∃ m ∈ y.members, m.index = eMember (s.stream i.toNat).entry
        ∧ m.count = tCount (headerOfWire raw)))
  ∧ (∀ (s : State) (t n : Nat) (i : BitVec 14) (inst : Instance) (c : Cue) (raw : List Byte),
    waits s i.toNat n inst c raw →
    s.headerFault (eGroup (s.stream i.toNat).entry) (s.stream i.toNat).entry c (headerOfWire raw) = none →
    precedes (tInstance (headerOfWire raw)) inst.num = true →
    ∃ s', exec (.memberHeaderArrival t i) s = .next s'
      ∧ s'.obj Reg.staleDiscarded = (s.obj Reg.staleDiscarded + 1) % 2 ^ 64
      ∧ s'.mem = s.mem ∧ s'.groups = s.groups)
  ∧ (∀ (s : State) (t b : Nat) (g : Fin 512) (cell : Fin 16) (n : Nat) (x : Instance) (c : Cue) (r : Running),
    s.collective g = some (n, x, c) → s.runningAt x.pos = some r → x.headerOut = true → b < x.tileTotal →
    x.tiles.contains b = false → x.poisoned = [] → r.fate = none → r.waiting = [] → s.cellFree x.pos cell = true →
    (r.retried.contains b = false ∨ r.onto.getLast? = some cell.val) → tget 0 s.cells cell.val = 0 →
    s.held (x.tileAreas c b) = false →
    (∀ m ∈ x.reaching b, let w := memberSpan (memberFmt c m) m b
      s.memberHas m w.1 w.2 = true ∧ s.isPoisoned (m.base + w.1) (w.2 - w.1) = false) →
    let f := fmtD (cFmtOut c)
    let vals := (deliverFormed f c ((List.range (min (x.length - 4096 * b) 4096)).map
      (fun k => s.chorusValue c x.ordered (4096 * b + k)))).1
    let dest := cAddrOut c + 64 + storageBytes f (4096 * b)
    let area := cAddrFlag c + 8 * b
    ∃ s' y, exec (.collectiveTileReduce t g b cell []) s = .next s' ∧ s'.groupInst g = some y ∧ y.tiles = b :: x.tiles
      ∧ (∀ k (h : k < vals.length), (dest + k < area ∨ area + 8 ≤ dest + k) → readByte s'.mem (dest + k) = vals[k])
      ∧ (∀ a, (a < dest ∨ dest + vals.length ≤ a) → (a < area ∨ area + 8 ≤ a) → readByte s'.mem a = readByte s.mem a))

/-- R157, of requests that management takes: PROGRAM_RECORD takes a record that keeps every condition, and refuses a
nonzero reserved field with RESERVED_NONZERO and a broken condition with INCONSISTENT, changing nothing. R159 to R162,
R389, R479: a piece of an UPDATE range that may run on a cell, for whose tile the hold has room, whose output the host
no longer reads and which is not read-only for its step (R24, a step being R167's outer step and the host's copy
lasting until the credit of its last parcel is back: log entry 108, the model's reading), and whose input (of the
state, the planes that a step it runs reads) is not poisoned, writes its parameters' OUT values; where its shard tile
is not applied yet, the journal blocks that code it, where there is a journal, and, once the tile is whole, with what
is held of it, the state planes, and then the tile is applied or its step committed; else the piece is held. It is
done once, and beside its records no other byte changes. Where the tile is applied already the APPLIED map, the hold,
planes and journal stay as they were. (What is written apart is written so; overlaps are not claimed.) A piece that
may not run yet does nothing; one whose input is poisoned ends its cue STREAM_FAILED. -/
def Obligations.ProgramsAreCheckedAndPiecesApplied : Prop :=
  let at_ := fun (s : State) (n pos idx iter : Nat) (c : Cue) (r : Running) (u : UpdateRun) =>
    s.active = some n ∧ s.runningAt pos = some r ∧ s.opt.runs.find? (fun v => v.pos == pos) = some u ∧ s.posCue n pos = some (c, idx, iter)
  let ready := fun (s : State) (n pos iter tile : Nat) (c : Cue) (r : Running) (u : UpdateRun) (cell : Fin 16) =>
    let pg := s.programOf n c
    let p := pieceOf (rangeFirst pg c) (cCount c) tile
    p.count ≠ 0 ∧ s.pieceRuns r u pg c tile cell = true
      ∧ (p.count = tileParams (hParams (s.hdr n)) tile ∨ s.applied tile = true ∨ tile ∈ s.heldTiles ∨ s.heldTiles.length < 64)
      ∧ s.outputReadOnly n pos = false ∧ s.hostReads [pieceOutput pg c p] = false ∧ s.held (pieceOutput pg c p :: s.pieceReads pg (s.outerStep iter) c p) = false
  let apart := fun (a n : Nat) (l : List (Nat × Nat)) => ∀ w ∈ l, overlap a n w.1 w.2 = false
  let has := fun (s : State) (a : Nat) (bs : List Byte) => ∀ k (h : k < bs.length), readByte s.mem (a + k) = bs[k]
  let spans := fun (ws : List (Nat × List Byte)) => ws.map (fun w => (w.1, w.2.length))
  (∀ (s : State) (t : Nat) (p : Fin 16) (v : BitVec 1536), s.answersRequests = true →
    (programReserved v.toNat = false → programGood v.toNat = true →
      ∃ s', exec (.programRecordWrite t p v) s = .next s' ∧ s'.answer = stOk ∧ s'.obj (Reg.programRecord p) = v.toNat
        ∧ s.KeepsObjects s' [Reg.programRecord p]
        ∧ s' = { s with now := s'.now, objs := s'.objs, answer := s'.answer })
    ∧ (programReserved v.toNat = true →
      ∃ s', exec (.programRecordWrite t p v) s = .next s' ∧ s.RefusedWith s' stReservedNonzero)
    ∧ (programReserved v.toNat = false → programGood v.toNat = false →
      ∃ s', exec (.programRecordWrite t p v) s = .next s' ∧ s.RefusedWith s' stInconsistent))
  ∧ (∀ (s : State) (t n pos idx iter tile : Nat) (c : Cue) (r : Running) (u : UpdateRun) (cell : Fin 16),
    at_ s n pos idx iter c r u → ready s n pos iter tile c r u cell → tget 0 s.cells cell.val = 0 →
    let pg := s.programOf n c
    let p := pieceOf (rangeFirst pg c) (cCount c) tile
    let x := p.first - rangeFirst pg c
    let step := s.outerStep iter
    let envs := s.pieceEnvs pg step c p
    let out := (cAddrOut c + storageBytes (fmtD (pgOutFmt pg)) x, packCodes (fmtD (pgOutFmt pg)).width (envs.map (fun e => e.out)))
    let recs := (cAddrFlag c + 8 * (x / 4096), 8 * ((x + p.count) / 4096 + 1 - x / 4096))
    let journal := if pgJournal pg && !s.applied tile then
      (s.pieceGradients pg c p).2.map (fun b => (journalAddr pg (step % (pgDepth pg + 1)) b.1, bytesLE 89 b.2.word)) else []
    let part : HeldPiece := ⟨tile, p.first, p.count, pos, step, planeWrites pg p envs⟩
    let parts := (s.opt.held ++ [part]).filter (fun h => h.tile == tile && h.step == step)
    let whole := p.count = tileParams (hParams (s.hdr n)) tile
    let full := State.holdPiece.coveredFrom (parts.map (fun h => (h.first, h.first + h.count))) (parts.length + 1) (4096 * tile)
      (4096 * tile + tileParams (hParams (s.hdr n)) tile) = true
    let planes := if s.applied tile then [] else if whole then planeWrites pg p envs
      else if full then parts.flatMap (fun h => h.writes) else []
    s.anyPoison (s.pieceReads pg (s.outerStep iter) c p) = false →
    ∃ s' v, exec (.updatePiece t pos tile cell []) s = .next s'
      ∧ s'.opt.runs.find? (fun v => v.pos == pos) = some v ∧ v.pieces = tile :: u.pieces
      ∧ (apart out.1 out.2.length (recs :: spans (journal ++ planes)) → has s' out.1 out.2)
      ∧ (∀ b ∈ journal, apart b.1 b.2.length (spans planes) → has s' b.1 b.2)
      ∧ ((spans planes).Pairwise (fun a b => overlap a.1 a.2 b.1 b.2 = false) → ∀ w ∈ planes, has s' w.1 w.2)
      ∧ (s.applied tile = true → s'.site = s.site ∧ s'.opt.held = s.opt.held)
      ∧ (s.applied tile = false → whole ∨ full → (s'.applied tile = true
        ∨ s'.site.applied = [] ∧ s'.obj Reg.stateStep = (s.obj Reg.stateStep + 1) % 2 ^ 64) ∧ tile ∉ s'.heldTiles)
      ∧ (s.applied tile = false → ¬ whole → ¬ full → s'.site = s.site ∧ s'.opt.held = s.opt.held ++ [part])
      ∧ (∀ a, (∀ w ∈ recs :: spans (out :: journal ++ planes), a < w.1 ∨ w.1 + w.2 ≤ a) → readByte s'.mem a = readByte s.mem a))
  ∧ (∀ (s : State) (t n pos idx iter tile : Nat) (c : Cue) (r : Running) (u : UpdateRun) (cell : Fin 16) (fs : List CellFault),
    at_ s n pos idx iter c r u →
    let pg := s.programOf n c
    let p := pieceOf (rangeFirst pg c) (cCount c) tile
    (p.count = 0 ∨ s.pieceRuns r u pg c tile cell = false ∨ s.outputReadOnly n pos = true ∨ s.hostReads [pieceOutput pg c p] = true
      ∨ s.held (pieceOutput pg c p :: s.pieceReads pg (s.outerStep iter) c p) = true → exec (.updatePiece t pos tile cell fs) s = .next (s.tick t))
    ∧ (ready s n pos iter tile c r u cell → s.anyPoison (s.pieceReads pg (s.outerStep iter) c p) = true →
      ∃ s', exec (.updatePiece t pos tile cell fs) s = .next s' ∧ s'.mem = s.mem
        ∧ (s'.runningAt pos).map (fun q => q.fate) = some (some endStreamFailed)))

/-- R187, of requests that management takes: SLOT_TABLE takes a valid table with a new GENERATION while no active or
armed sheet names the slot and no block is in flight under it; otherwise it is refused, a slot in use or in flight
with its event and count. R184 to R186, R188: a block that passes its checks is decoded into FMT_OUT and counted; one
that fails is reported with its address and reason, and waits; a good second reading decodes it; after a bad one its
parcels are asked for again, and with none of this sheet to ask for, or a failed re-request, its cue ends
STREAM_FAILED. While a hub that the block lies behind is away its decoder waits (R198). That blocks are decoded in
order is log entry 95. -/
def Obligations.TablesAreWrittenAndBlocksDecoded : Prop :=
  let next := fun (s : State) (pos j : Nat) (c : Cue) =>
    s.decoding pos = some (c, j) ∧ fmtD (cFmtOut c) = .e16
  let landed := fun (s s' : State) (pos j w : Nat) (c : Cue) =>
    (∀ i, i < 128 → (packCodes 16 (blockValues (s.slotTab (zSlot c)) w))[i]? = some (readByte s'.mem (decodeOut c j + i)))
      ∧ s.KeepsMemoryBut s' (decodeOut c j) 128
      ∧ (s'.runningAt pos).map (fun r => r.done) = some (j + 1)
  (∀ (s : State) (t : Nat) (k : Fin 4) (v : BitVec 128), s.answersRequests = true → v.toNat / 2 ^ 68 = 0 →
    (tableValid (v.toNat % 2 ^ 64) = true → bits v.toNat 67 64 ≠ s.slotGen k → s.slotNamedWord k = 0 →
      s.obj (Reg.slotInFlight k) = 0 →
      ∃ s', exec (.slotTableWrite t k v) s = .next s' ∧ s'.answer = stOk ∧ s'.obj (Reg.slotTable k) = v.toNat
        ∧ s'.obj (Reg.slotGeneration k) = bits v.toNat 67 64
        ∧ s.KeepsObjects s' [Reg.slotTable k, Reg.slotGeneration k] ∧ s'.mem = s.mem)
    ∧ (tableValid (v.toNat % 2 ^ 64) = false ∨ bits v.toNat 67 64 = s.slotGen k →
      ∃ s', exec (.slotTableWrite t k v) s = .next s' ∧ s.RefusedWith s' stInconsistent)
    ∧ (tableValid (v.toNat % 2 ^ 64) = true → bits v.toNat 67 64 ≠ s.slotGen k → s.slotNamedWord k ≠ 0 →
      ∃ s', exec (.slotTableWrite t k v) s = .next s' ∧ s'.answer = stTableInUse
        ∧ s.FirstEvent s' 0x500B k stTableInUse ∧ s'.obj Reg.tableWritesRefused = (s.obj Reg.tableWritesRefused + 1) % 2 ^ 64
        ∧ s.KeepsObjects s' [Reg.tableWritesRefused, Reg.eventWriteSeq])
    ∧ (tableValid (v.toNat % 2 ^ 64) = true → bits v.toNat 67 64 ≠ s.slotGen k → s.slotNamedWord k = 0 →
      s.obj (Reg.slotInFlight k) ≠ 0 →
      ∃ s', exec (.slotTableWrite t k v) s = .next s' ∧ s'.answer = stTableInFlight
        ∧ s.FirstEvent s' 0x500B k stTableInFlight ∧ s.KeepsObjects s' [Reg.tableWritesRefused, Reg.eventWriteSeq]))
  ∧ (∀ (s : State) (t pos j w : Nat) (c : Cue) (seen : Option (List Byte)), next s pos j c → j < cN c * cM c →
    s.damages.any (fun d => d.pos == pos) = false → s.held [(decodeAddr c j, 89)] = false → s.blockSeen (decodeAddr c j) seen = some w →
    s.blockCheck c (some w) = none →
    ∃ s', exec (.blockDecode t pos seen) s = .next s' ∧ landed s s' pos j w c ∧ s'.damages = s.damages
      ∧ s'.obj Reg.blocksDecoded = (s.obj Reg.blocksDecoded + 1) % 2 ^ 64)
  ∧ (∀ (s : State) (t pos j r : Nat) (c : Cue) (seen : Option (List Byte)), s.decoding pos = some (c, j) → j < cN c * cM c →
    s.damages.any (fun d => d.pos == pos) = false → s.held [(decodeAddr c j, 89)] = false →
    s.blockCheck c (s.blockSeen (decodeAddr c j) seen) = some r →
    ∃ s', exec (.blockDecode t pos seen) s = .next s' ∧ s.FirstEvent s' 0x500A (decodeAddr c j) r
      ∧ s'.obj Reg.blocksDamaged = (s.obj Reg.blocksDamaged + 1) % 2 ^ 64 ∧ s'.mem = s.mem
      ∧ s'.obj Reg.lastBlockDamage = blockDamageWord r (zUnit c) 3 (decodeAddr c j) % 2 ^ 64
      ∧ s'.damages.map (fun d => (d.pos, d.addr)) = s.damages.map (fun d => (d.pos, d.addr)) ++ [(pos, decodeAddr c j)])
  ∧ (∀ (s : State) (t pos j w : Nat) (c : Cue) (d : Damage) (seen : Option (List Byte)), next s pos j c →
    s.damages.find? (fun d => d.pos == pos && !d.requested) = some d → s.held [(d.addr, 89)] = false → s.blockSeen d.addr seen = some w →
    s.blockCheck c (some w) = none → d.block = j →
    ∃ s', exec (.damageRefetch t pos seen) s = .next s' ∧ landed s s' pos j w c
      ∧ s'.damages = s.damages.filter (fun x => x.pos != pos))
  ∧ (∀ (s : State) (t pos j r : Nat) (c : Cue) (d : Damage) (seen : Option (List Byte)), s.decoding pos = some (c, j) →
    s.damages.find? (fun d => d.pos == pos && !d.requested) = some d → s.held [(d.addr, 89)] = false →
    s.blockCheck c (s.blockSeen d.addr seen) = some r →
    ∃ s', exec (.damageRefetch t pos seen) s = .next s' ∧ s'.mem = s.mem
      ∧ (s.blockParcels d.addr = none → (s'.runningAt pos).map (fun r => r.fate) = some (some endStreamFailed)
        ∧ s'.damages = s.damages.filter (fun x => x.pos != pos))
      ∧ (s.blockParcels d.addr ≠ none →
        s'.damages = s.damages.map (fun x => if x.pos = pos then { x with requested := true } else x)))
  ∧ (∀ (s : State) (t pos j w : Nat) (c : Cue) (d : Damage), next s pos j c →
    s.damages.find? (fun d => d.pos == pos && d.requested) = some d → s.held [(d.addr, 89)] = false →
    (∀ r ∈ s.rereqsOf pos, r.outcome = some true) → s.blockSeen d.addr none = some w → s.blockCheck c (some w) = none →
    d.block = j →
    ∃ s', exec (.damageRerequestDone t pos) s = .next s' ∧ landed s s' pos j w c)
  ∧ (∀ (s : State) (t pos j : Nat) (c : Cue) (d : Damage), s.decoding pos = some (c, j) →
    s.damages.find? (fun d => d.pos == pos && d.requested) = some d → s.held [(d.addr, 89)] = false →
    (∀ r ∈ s.rereqsOf pos, r.outcome ≠ none) → (∃ r ∈ s.rereqsOf pos, r.outcome = some false) →
    ∃ s', exec (.damageRerequestDone t pos) s = .next s' ∧ s'.mem = s.mem
      ∧ (s'.runningAt pos).map (fun r => r.fate) = some (some endStreamFailed))

/-- R189: a write of 1 to SLOT_IN_FLIGHT_CLEAR, a request that management takes, sets the slot's count to 0 and
changes no other object and no byte of memory; while the engine is RUNNING or PARKED, and while an armed sheet names
the slot, it is refused with SLOT_BUSY and changes nothing. -/
def Obligations.InFlightCountIsClearedByWritingOne : Prop :=
  (∀ (s : State) (t : Nat) (k : Fin 4), s.answersRequests = true → s.engState ≠ engRunning → s.engState ≠ engParked →
    bit (s.slotNamedWord k) 0 = false →
    ∃ s', exec (.slotInFlightClear t k 1#8) s = .next s' ∧ s'.answer = stOk ∧ s'.obj (Reg.slotInFlight k) = 0
      ∧ s.KeepsObjects s' [Reg.slotInFlight k] ∧ s'.mem = s.mem)
  ∧ (∀ (s : State) (t : Nat) (k : Fin 4), s.answersRequests = true → (s.engState = engRunning ∨ s.engState = engParked ∨ bit (s.slotNamedWord k) 0 = true) →
    ∃ s', exec (.slotInFlightClear t k 1#8) s = .next s' ∧ s.RefusedWith s' stSlotBusy)

/-- R208, R210, R211: an ALLOCATE that the owner's limits admit takes the lowest free buffer, which becomes the
owner's own and unshared; a success adds one to POOL_ALLOCATIONS and to nothing else. Any other ALLOCATE is deferred
and adds one to ALLOC_DEFERRED. After a FREE the oldest deferred one of its owner is tried again: it is granted in the
same way, and where a unit asked for its store, the store gets the buffer and the streams, whose credit it backs, go
on; deferring again counts nothing. In a table in canonical form, `firstFree` is the lowest number it does not
list. -/
def Obligations.PoolAllocatesLowestFreeBuffer : Prop :=
  (∀ (b : Tab (Option Buffer)), twf none 0 b = true →
    tget none b (firstFree 0 b) = none ∧ ∀ a, a < firstFree 0 b → tget none b a ≠ none)
  ∧ (∀ (s : State) (t : Nat) (o : Fin 64), firstFree 0 s.memSt.buffers < s.obj Reg.poolBuffers →
    (s.usage o < s.minOf o ∨ s.usage o < s.capOf o ∧ s.reservedUnused < s.poolFree) →
    ∃ s', exec (.allocate t o) s = .next s'
      ∧ s'.buffer (firstFree 0 s.memSt.buffers) = some { owner := o }
      ∧ (∀ a, a ≠ firstFree 0 s.memSt.buffers → s'.buffer a = s.buffer a)
      ∧ s'.obj Reg.poolAllocations = (s.obj Reg.poolAllocations + 1) % 2 ^ 64
      ∧ s.KeepsObjects s' [Reg.poolAllocations]
      ∧ s' = { s with now := s'.now, objs := s'.objs, memSt := { s.memSt with buffers := s'.memSt.buffers } })
  ∧ (∀ (s : State) (t : Nat) (o : Fin 64),
    ¬ (firstFree 0 s.memSt.buffers < s.obj Reg.poolBuffers
        ∧ (s.usage o < s.minOf o ∨ s.usage o < s.capOf o ∧ s.reservedUnused < s.poolFree)) →
    ∃ s', exec (.allocate t o) s = .next s'
      ∧ s'.obj Reg.allocDeferred = (s.obj Reg.allocDeferred + 1) % 2 ^ 64
      ∧ s.KeepsObjects s' [Reg.allocDeferred]
      ∧ s' = { s with now := s'.now, objs := s'.objs, memSt := { s.memSt with deferred := s.memSt.deferred ++ [(o.val, none)] } })
  ∧ (∀ (s : State) (t : Nat) (o : Fin 64) (k : Option Nat), o.val ∈ s.memSt.retry →
    s.memSt.deferred.find? (fun d => d.1 == o.val) = some (o.val, k) → firstFree 0 s.memSt.buffers < s.obj Reg.poolBuffers →
    (s.usage o < s.minOf o ∨ s.usage o < s.capOf o ∧ s.reservedUnused < s.poolFree) →
    ∃ u : State, u.buffer (firstFree 0 s.memSt.buffers) = some { owner := o }
      ∧ (∀ a, a ≠ firstFree 0 s.memSt.buffers → u.buffer a = s.buffer a)
      ∧ u.memSt.deferred = s.memSt.deferred.erase (o.val, k) ∧ u.memSt.retry = s.memSt.retry.erase o.val
      ∧ (∀ n, u.storeOf n = if k = some n then (o.val, firstFree 0 s.memSt.buffers) :: s.storeOf n else s.storeOf n)
      ∧ u.obj Reg.poolAllocations = (s.obj Reg.poolAllocations + 1) % 2 ^ 64
      ∧ s.KeepsObjects u [Reg.poolAllocations]
      ∧ u = { s with now := u.now, objs := u.objs, memSt := u.memSt }
      ∧ exec (.allocateRetry t o) s = .next (if k = none then u
          else (let is := (s.streams.filter (fun x => x.2.entry != 0 && !x.2.draining)).map Prod.fst
            is.foldl State.pump (u.settleAll is))))
  ∧ (∀ (s : State) (t : Nat) (o : Fin 64), o.val ∈ s.memSt.retry →
    ¬ (firstFree 0 s.memSt.buffers < s.obj Reg.poolBuffers
        ∧ (s.usage o < s.minOf o ∨ s.usage o < s.capOf o ∧ s.reservedUnused < s.poolFree)) →
    exec (.allocateRetry t o) s
      = .next { s.tick t with memSt := { s.memSt with retry := s.memSt.retry.erase o.val } })

/-- R213, R214: SHARE by the holder of an unshared buffer gives every claimant its claim and changes no usage and no
object; a RELEASE by a claimant other than the last owner ends that claim, and frees the buffer exactly when it is
free-pending and no claim remains; a FREE gives back an unshared buffer of its holder, and by the last owner of a
shared buffer ends its own claim and frees the buffer or leaves it free-pending. A freed buffer adds one to
POOL_FREES. -/
def Obligations.PoolSharesAndFreesExactlyOnce : Prop :=
  (∀ (s : State) (t : Nat) (o last : Fin 64) (b : BitVec 23) (cs : BitVec 64), b.toNat < s.obj Reg.poolBuffers →
    s.buffer b.toNat = some { owner := o } → (last = o ∨ cs.getLsbD last.val = true) →
    ∃ s' x, exec (.share t o b cs last) s = .next s' ∧ s'.buffer b.toNat = some x
      ∧ x.owner = o ∧ x.last = last ∧ x.pendingFree = false
      ∧ (∀ k : Fin 64, k.val ∈ x.claims ↔ k = o ∨ cs.getLsbD k.val = true)
      ∧ (∀ a, a ≠ b.toNat → s'.buffer a = s.buffer a)
      ∧ s' = { s with now := s'.now, memSt := { s.memSt with buffers := s'.memSt.buffers } })
  ∧ (∀ (s : State) (t : Nat) (o : Fin 64) (b : BitVec 23) (x : Buffer), b.toNat < s.obj Reg.poolBuffers →
    s.buffer b.toNat = some x → o.val ∈ x.claims → o.val ≠ x.last → (x.pendingFree = false ∨ x.claims.erase o.val ≠ []) →
    ∃ s', exec (.release t o b) s = .next s'
      ∧ s'.buffer b.toNat = some { x with claims := x.claims.erase o.val }
      ∧ (∀ a, a ≠ b.toNat → s'.buffer a = s.buffer a)
      ∧ s' = { s with now := s'.now, memSt := { s.memSt with buffers := s'.memSt.buffers } })
  ∧ (∀ (s : State) (t : Nat) (o : Fin 64) (b : BitVec 23) (x : Buffer), b.toNat < s.obj Reg.poolBuffers →
    s.buffer b.toNat = some x → o.val ∈ x.claims → o.val ≠ x.last → x.pendingFree = true → x.claims.erase o.val = [] →
    ∃ s', exec (.release t o b) s = .next s'
      ∧ s'.buffer b.toNat = none ∧ (∀ a, a ≠ b.toNat → s'.buffer a = s.buffer a)
      ∧ s'.memSt.retry = s.memSt.deferred.map Prod.fst
      ∧ s'.obj Reg.poolFrees = (s.obj Reg.poolFrees + 1) % 2 ^ 64 ∧ s.KeepsObjects s' [Reg.poolFrees]
      ∧ s' = { s with now := s'.now, objs := s'.objs, memSt := s'.memSt })
  ∧ (∀ (s : State) (t : Nat) (o : Fin 64) (b : BitVec 23), b.toNat < s.obj Reg.poolBuffers →
    s.buffer b.toNat = some { owner := o } →
    ∃ s', exec (.freeBuffer t o b) s = .next s'
      ∧ s'.buffer b.toNat = none ∧ (∀ a, a ≠ b.toNat → s'.buffer a = s.buffer a)
      ∧ s'.memSt.retry = s.memSt.deferred.map Prod.fst
      ∧ s'.obj Reg.poolFrees = (s.obj Reg.poolFrees + 1) % 2 ^ 64 ∧ s.KeepsObjects s' [Reg.poolFrees]
      ∧ s' = { s with now := s'.now, objs := s'.objs, memSt := s'.memSt })
  ∧ (∀ (s : State) (t : Nat) (o : Fin 64) (b : BitVec 23) (x : Buffer), b.toNat < s.obj Reg.poolBuffers →
    s.buffer b.toNat = some x → o.val ∈ x.claims → o.val = x.last →
    ∃ s', exec (.freeBuffer t o b) s = .next s'
      ∧ s'.buffer b.toNat = (if x.claims.erase o.val = [] then none
          else some { x with claims := x.claims.erase o.val, pendingFree := true })
      ∧ (∀ a, a ≠ b.toNat → s'.buffer a = s.buffer a)
      ∧ s'.obj Reg.poolFrees = (if x.claims.erase o.val = [] then (s.obj Reg.poolFrees + 1) % 2 ^ 64 else s.obj Reg.poolFrees)
      ∧ s.KeepsObjects s' [Reg.poolFrees]
      ∧ s' = { s with now := s'.now, objs := s'.objs, memSt := s'.memSt })

/-- R215, Table 9.5: an operation that breaks the rules leaves every buffer as it was, stores its buffer, owner,
operation and reason in LAST_POOL_ERROR, adds one to POOL_ERRORS and 2,000 points to the core die's score, and the
streams whose unit draws on the pool as that owner are failed, a HOST stream with its port's count and 500 points
(R353); where it has none, the event POOL_OPERATION_REFUSED is in the ring and nothing else changes. Stated for a
buffer outside the pool, a free buffer shared, released or freed, a SHARE by another than the holder and a second
SHARE, a FREE by another than the last owner or a second one by it, a RELEASE by the last owner or of no claim, and a
FREE of an unshared buffer by another than its holder. The reasons of cases that Table 9.5 does not list are log entry
42. -/
def Obligations.PoolRefusesOperationsThatBreakTheRules : Prop :=
  ∀ (s : State) (t : Nat) (o k : Fin 64) (b : BitVec 23) (cs : BitVec 64),
    let refusal := fun (c : Instr) (op reason : Nat) =>
      ∃ s', exec c s = .next s'
        ∧ s'.obj Reg.lastPoolError = b.toNat + 2 ^ 23 * o.val + 2 ^ 29 * op + 2 ^ 32 * reason + 2 ^ 63
        ∧ s'.obj Reg.poolErrors = (s.obj Reg.poolErrors + 1) % 2 ^ 64
        ∧ tget 0 s'.scores (element 0 0) = min (tget 0 s.scores (element 0 0) + 2000) 0xFFFFFFFF
        ∧ (∀ x, x ∉ [Reg.lastPoolError, Reg.poolErrors, Reg.eventWriteSeq] → (∀ i ∈ s.ownerStreams o,
          eKind (s.stream i).entry = kindHost → x ≠ Reg.portCounters (s.stream i).port) → s'.obj x = s.obj x)
        ∧ (∀ i, s.ownerStreams o = [i] → eKind (s.stream i).entry = kindHost → (s.stream i).failed = none →
          tget 0 s'.scores (element 9 (s.stream i).port) = min (tget 0 s.scores (element 9 (s.stream i).port) + 500) 0xFFFFFFFF)
        ∧ s'.memSt = s.memSt ∧ s'.mem = s.mem
        ∧ (∀ i ∈ s.ownerStreams o, (s.stream i).entry ≠ 0 → (s'.stream i).failed.isSome = true)
        ∧ (s.ownerStreams o = [] → s.FirstEvent s' 0x6004 (s'.obj Reg.lastPoolError) 0
          ∧ s' = { s with now := s'.now, objs := s'.objs, ring := s'.ring, events := s'.events, scores := s'.scores })
    (s.obj Reg.poolBuffers ≤ b.toNat →
      refusal (.share t o b cs k) 1 6 ∧ refusal (.release t o b) 2 6 ∧ refusal (.freeBuffer t o b) 3 6)
    ∧ (b.toNat < s.obj Reg.poolBuffers → s.buffer b.toNat = none →
      refusal (.share t o b cs k) 1 4 ∧ refusal (.release t o b) 2 1 ∧ refusal (.freeBuffer t o b) 3 1)
    ∧ (∀ x, b.toNat < s.obj Reg.poolBuffers → s.buffer b.toNat = some x →
      (x.owner ≠ o.val → refusal (.share t o b cs k) 1 4)
      ∧ (x.owner = o.val → x.claims ≠ [] → refusal (.share t o b cs k) 1 5)
      ∧ (x.claims ≠ [] → (x.last ≠ o.val ∨ o.val ∉ x.claims) → refusal (.freeBuffer t o b) 3 2)
      ∧ (x.claims ≠ [] → x.last = o.val → refusal (.release t o b) 2 3)
      ∧ (x.claims ≠ [] → x.last ≠ o.val → o.val ∉ x.claims → refusal (.release t o b) 2 4)
      ∧ (x.claims = [] → x.pendingFree = false → refusal (.release t o b) 2 4)
      ∧ (x.claims = [] → x.pendingFree = false → x.owner ≠ o.val → refusal (.freeBuffer t o b) 3 4))

/-- R207, of requests that management takes: a write of POOL_BASE or POOL_BUFFERS while a slot is SEALED, ARMED or
ACTIVE, or any buffer is allocated, is refused with SLOT_BUSY; otherwise a POOL_BASE that is not a multiple of 65,536,
POOL_BUFFERS above 4,194,304, or a region outside the general HBM range, with OUT_OF_RANGE; POOL_BUFFERS below the sum
of all owners' MIN with INCONSISTENT. A refused write changes nothing, and an accepted one stores its value and
changes nothing else. Both objects reset to 0; while POOL_BUFFERS is 0 every ALLOCATE is deferred. That the cases are
asked in this order, and that an empty region passes wherever it lies, is the model's own (log entries 9 and 128). No
ALLOCATE, SHARE, RELEASE or FREE changes a byte of memory. The order of the cases is log entry 9, and that an empty
region passes log entry 128. -/
def Obligations.PoolConfigurationWritesAreChecked : Prop :=
  (∀ (s : State) (t : Nat) (v : Word64), s.answersRequests = true →
    (s.poolBusy = true → ∃ s', exec (.poolConfigWrite t .base v) s = .next s' ∧ s.RefusedWith s' stSlotBusy)
    ∧ (s.poolBusy = false →
      (v.toNat % 65536 ≠ 0 ∨ (s.obj Reg.poolBuffers ≠ 0
        ∧ ¬ (0xA0000000 ≤ v.toNat ∧ v.toNat + 65536 * s.obj Reg.poolBuffers ≤ 0x010C388D0000))) →
      ∃ s', exec (.poolConfigWrite t .base v) s = .next s' ∧ s.RefusedWith s' stOutOfRange)
    ∧ (s.poolBusy = false → v.toNat % 65536 = 0 →
      (s.obj Reg.poolBuffers = 0 ∨ (0xA0000000 ≤ v.toNat ∧ v.toNat + 65536 * s.obj Reg.poolBuffers ≤ 0x010C388D0000)) →
      ∃ s', exec (.poolConfigWrite t .base v) s = .next s' ∧ s'.answer = stOk ∧ s'.obj Reg.poolBase = v.toNat
        ∧ s.KeepsObjects s' [Reg.poolBase] ∧ s' = { s with now := s'.now, objs := s'.objs, answer := s'.answer }))
  ∧ (∀ (s : State) (t : Nat) (v : Word32), s.answersRequests = true →
    let w := v.setWidth 64
    let fits := 0xA0000000 ≤ s.obj Reg.poolBase ∧ s.obj Reg.poolBase + 65536 * v.toNat ≤ 0x010C388D0000
    (s.poolBusy = true → ∃ s', exec (.poolConfigWrite t .buffers w) s = .next s' ∧ s.RefusedWith s' stSlotBusy)
    ∧ (s.poolBusy = false → (4194304 < v.toNat ∨ v.toNat ≠ 0 ∧ ¬ fits) →
      ∃ s', exec (.poolConfigWrite t .buffers w) s = .next s' ∧ s.RefusedWith s' stOutOfRange)
    ∧ (s.poolBusy = false → v.toNat ≤ 4194304 → (v.toNat = 0 ∨ fits) → v.toNat < s.minSum →
      ∃ s', exec (.poolConfigWrite t .buffers w) s = .next s' ∧ s.RefusedWith s' stInconsistent)
    ∧ (s.poolBusy = false → v.toNat ≤ 4194304 → (v.toNat = 0 ∨ fits) → s.minSum ≤ v.toNat →
      ∃ s', exec (.poolConfigWrite t .buffers w) s = .next s' ∧ s'.answer = stOk ∧ s'.obj Reg.poolBuffers = v.toNat
        ∧ s.KeepsObjects s' [Reg.poolBuffers] ∧ s' = { s with now := s'.now, objs := s'.objs, answer := s'.answer }))
  ∧ State.reset.obj Reg.poolBase = 0 ∧ State.reset.obj Reg.poolBuffers = 0
  ∧ (∀ (s : State) (t : Nat) (o : Fin 64), s.obj Reg.poolBuffers = 0 →
    ∃ s', exec (.allocate t o) s = .next s' ∧ s'.memSt.buffers = s.memSt.buffers
      ∧ s'.memSt.deferred = s.memSt.deferred ++ [(o.val, none)])
  ∧ (∀ (s : State) (t : Nat) (o l : Fin 64) (b : BitVec 23) (cs : BitVec 64) (c : Instr),
    c ∈ [.allocate t o, .share t o b cs l, .release t o b, .freeBuffer t o b] →
    ∃ s', exec c s = .next s' ∧ s'.mem = s.mem)

/-- R212, R210, R204, of requests that management takes: a write of OWNER_LIMITS is refused with RESERVED_NONZERO or
INCONSISTENT in the cases of R212 and changes nothing; an accepted one stores the limits and takes back no buffer, and
an owner whose usage has reached its CAP and its MIN has its ALLOCATEs deferred. A write of PREFETCH_DESCRIPTOR with a
reserved field set, or with DEPTH 0 or a stride that is not a multiple of 64, is refused; an accepted one stores the
descriptor. The limits are R212, the descriptors R204, the retry of what was deferred R210 and R211; the order of the
cases is log entry 9. -/
def Obligations.OwnerLimitsAndDescriptorWritesAreChecked : Prop :=
  (∀ (s : State) (t : Nat) (o : Fin 64) (mn cap : BitVec 23) (r1 : BitVec 9) (r2 : BitVec 9), s.answersRequests = true →
    let v : Word64 := r2 ++ cap ++ r1 ++ mn
    (r1 ≠ 0 ∨ r2 ≠ 0 → ∃ s', exec (.ownerLimitsWrite t o v) s = .next s' ∧ s.RefusedWith s' stReservedNonzero)
    ∧ (r1 = 0 → r2 = 0 →
      (cap < mn ∨ s.obj Reg.poolBuffers < cap.toNat ∨ s.obj Reg.poolBuffers < s.minSum - s.minOf o + mn.toNat
        ∨ (s.minOf o < mn.toNat ∧ s.poolFree - s.reservedUnused < mn.toNat - s.minOf o)) →
      ∃ s', exec (.ownerLimitsWrite t o v) s = .next s' ∧ s.RefusedWith s' stInconsistent)
    ∧ (r1 = 0 → r2 = 0 → mn ≤ cap → cap.toNat ≤ s.obj Reg.poolBuffers → s.minSum - s.minOf o + mn.toNat ≤ s.obj Reg.poolBuffers →
      (mn.toNat ≤ s.minOf o ∨ mn.toNat - s.minOf o ≤ s.poolFree - s.reservedUnused) →
      ∃ s', exec (.ownerLimitsWrite t o v) s = .next s' ∧ s'.answer = stOk ∧ s'.obj (Reg.ownerLimits o) = v.toNat
        ∧ s.KeepsObjects s' [Reg.ownerLimits o] ∧ s' = { s with now := s'.now, objs := s'.objs, answer := s'.answer }))
  ∧ (∀ (s : State) (t : Nat) (o : Fin 64), s.minOf o ≤ s.usage o → s.capOf o ≤ s.usage o →
    ∃ s', exec (.allocate t o) s = .next s' ∧ s'.memSt.buffers = s.memSt.buffers
      ∧ s'.memSt.deferred = s.memSt.deferred ++ [(o.val, none)])
  ∧ (∀ (s : State) (t : Nat) (d : Fin 64) (v : BitVec 128), s.answersRequests = true →
    ((v.extractLsb 63 48 ≠ 0 ∨ v.extractLsb 127 120 ≠ 0) →
      ∃ s', exec (.prefetchDescriptorWrite t d v) s = .next s' ∧ s.RefusedWith s' stReservedNonzero)
    ∧ (v.extractLsb 63 48 = 0 → v.extractLsb 127 120 = 0 →
      (v.extractLsb 119 112 = 0 ∨ v.extractLsb 5 0 ≠ 0 ∨ v.extractLsb 69 64 ≠ 0) →
      ∃ s', exec (.prefetchDescriptorWrite t d v) s = .next s' ∧ s.RefusedWith s' stInconsistent)
    ∧ (v.extractLsb 63 48 = 0 → v.extractLsb 127 120 = 0 → v.extractLsb 119 112 ≠ 0 → v.extractLsb 5 0 = 0 →
      v.extractLsb 69 64 = 0 →
      ∃ s', exec (.prefetchDescriptorWrite t d v) s = .next s' ∧ s'.answer = stOk
        ∧ s'.obj (Reg.prefetchDescriptor d) = v.toNat
        ∧ s.KeepsObjects s' [Reg.prefetchDescriptor d]
        ∧ s' = { s with now := s'.now, objs := s'.objs, answer := s'.answer }))

/-- R200, R202: what a read of a line of HBM or a word of the staging store finds, whoever reads (CONSUMER 1 to 5). A
corrected error adds one to the counter of its memory and one point to its element, on the first read or the second;
an error that the second read clears is recorded and poisons nothing; that its record has KIND 1 beside RETRY_CLEARED
is the model's choice (log entry 135: R200 names no KIND). One that both reads find poisons the line. A line that is
already poisoned is recorded as KIND 3 and counted no second time; a running cue that reads poison ends STREAM_FAILED,
but a COLLECTIVE or DECOMPRESS looks at it itself. A scrub corrects likewise and poisons on its first read; a poisoned
line it leaves as it is, and LAST_MEMORY_ERROR too (log entry 148, the model's choice). No read and no scrub changes a
byte of memory. A read that a hub link holds finds nothing yet (R198), and the HBM scrub pauses in an Intermission
(R451). -/
def Obligations.MemoryErrorsAreCountedOnce : Prop :=
  (∀ (s : State) (t : Nat) (a : BitVec 48), a.toNat < 0x010C388D0000 →
    let u := a.toNat - a.toNat % 64
    s.isPoisoned u 1 = false → s.held [(u, 1)] = false → s.asleep = false →
    (∀ (r : MemReader) (e : ReadError), e = .corrected ∨ e = .clearedCorrected →
      ∃ s', exec (.memoryReadError t a e r) s = .next s'
        ∧ s'.obj Reg.hbmCorrected = (s.obj Reg.hbmCorrected + 1) % 2 ^ 64
        ∧ s'.obj Reg.lastMemoryError = u + (if e = .corrected then 0 else 2 ^ 48 + 2 ^ 50) + 2 ^ 51 * readerCode r + 2 ^ 63
        ∧ tget 0 s'.scores (memoryElement u) = min (tget 0 s.scores (memoryElement u) + 1) 0xFFFFFFFF
        ∧ s'.poison = s.poison ∧ s'.mem = s.mem ∧ s'.eng = s.eng ∧ s'.memSt = s.memSt)
    ∧ (∀ r : MemReader, ∃ s', exec (.memoryReadError t a .clearedClean r) s = .next s'
        ∧ s'.obj Reg.lastMemoryError = u + 2 ^ 48 + 2 ^ 50 + 2 ^ 51 * readerCode r + 2 ^ 63
        ∧ s.KeepsObjects s' [Reg.lastMemoryError] ∧ s' = { s with now := s'.now, objs := s'.objs })
    ∧ (∀ r : MemReader, ∃ s', exec (.memoryReadError t a .uncorrectable r) s = .next s'
        ∧ u ∈ s'.poison ∧ s'.mem = s.mem
        ∧ s'.obj Reg.hbmUncorrectable = (s.obj Reg.hbmUncorrectable + 1) % 2 ^ 64
        ∧ s'.obj Reg.lastMemoryError = u + 2 ^ 48 + 2 ^ 51 * readerCode r + 2 ^ 63
        ∧ tget 0 s'.scores (memoryElement u) = min (tget 0 s.scores (memoryElement u) + 2000) 0xFFFFFFFF)
    ∧ (∃ s', exec (.scrubLine t a .corrected false) s = .next s'
        ∧ s'.obj Reg.hbmCorrected = (s.obj Reg.hbmCorrected + 1) % 2 ^ 64 ∧ s'.poison = s.poison ∧ s'.mem = s.mem)
    ∧ (∃ s', exec (.scrubLine t a .uncorrectable false) s = .next s'
        ∧ u ∈ s'.poison ∧ s'.obj Reg.lastMemoryError = u + 2 ^ 49 + 2 ^ 63 ∧ s'.mem = s.mem))
  ∧ (∀ (s : State) (t : Nat) (a : BitVec 48) (e : ReadError) (f : ScrubFinding), a.toNat < 0x010C388D0000 →
    let u := a.toNat - a.toNat % 64
    s.isPoisoned u 1 = true → s.held [(u, 1)] = false →
    (∀ r : MemReader, ∃ s', exec (.memoryReadError t a e r) s = .next s'
        ∧ s'.obj Reg.lastMemoryError = u + 2 ^ 48 * 3 + 2 ^ 51 * readerCode r + 2 ^ 63
        ∧ s'.obj Reg.hbmUncorrectable = s.obj Reg.hbmUncorrectable ∧ s'.obj Reg.hbmCorrected = s.obj Reg.hbmCorrected
        ∧ s'.scores = s.scores ∧ s'.poison = s.poison ∧ s'.mem = s.mem
        ∧ (r ∈ [.fetch, .decoder, .arq, .partialWrite] → s.KeepsObjects s' [Reg.lastMemoryError]
          ∧ s' = { s with now := s'.now, objs := s'.objs }))
    ∧ exec (.scrubLine t a f false) s = .next (s.tick t)
    ∧ (s.asleep = false → ∃ s', exec (.scrubLine t a f true) s = .next s'
        ∧ s'.obj Reg.scrubPasses = (s.obj Reg.scrubPasses + 1) % 2 ^ 64
        ∧ s.KeepsObjects s' [Reg.scrubPasses] ∧ s' = { s with now := s'.now, objs := s'.objs }))
  ∧ (∀ (s : State) (t n pos idx iter : Nat) (a : BitVec 48) (e : ReadError) (c : Cue) (r : Running), a.toNat < 0x010C388D0000 →
    let u := a.toNat - a.toNat % 64
    (s.isPoisoned u 1 = true ∨ e = .uncorrectable) → s.held [(u, 1)] = false → s.active = some n →
    s.posCue n pos = some (c, idx, iter) → cUnit c ≠ uCollective → cUnit c ≠ uDecompress → s.runningAt pos = some r → r.fate = none →
    ∃ s', exec (.memoryReadError t a e (.cue pos)) s = .next s'
      ∧ (s'.runningAt pos).map (fun q => q.fate) = some (some endStreamFailed))
  ∧ (∀ (s : State) (t : Nat) (a : BitVec 48) (e : ReadError) (f : ScrubFinding) (r : MemReader) (l : Bool),
    (s.held [(unitOf a.toNat, 1)] = true → exec (.memoryReadError t a e r) s = .next (s.tick t))
    ∧ (s.asleep = true → exec (.scrubLine t a f l) s = .next (s.tick t)))
  ∧ (∀ (s : State) (t : Nat) (a : BitVec 48), 0x800000000000 ≤ a.toNat → a.toNat < 0x800010000000 →
    let u := a.toNat - a.toNat % 8
    s.isPoisoned u 1 = false →
    (∃ s', exec (.stagingScrub t [(a, .corrected)]) s = .next s'
        ∧ s'.obj Reg.stagingCorrected = (s.obj Reg.stagingCorrected + 1) % 2 ^ 64
        ∧ tget 0 s'.scores (element 0 0) = min (tget 0 s.scores (element 0 0) + 1) 0xFFFFFFFF
        ∧ s'.poison = s.poison ∧ s'.mem = s.mem)
    ∧ (∃ s', exec (.stagingScrub t [(a, .uncorrectable)]) s = .next s'
        ∧ u ∈ s'.poison ∧ s'.obj Reg.stagingUncorrectable = (s.obj Reg.stagingUncorrectable + 1) % 2 ^ 64
        ∧ s'.mem = s.mem))

/-- R198: a replayed flit is neither lost nor duplicated; a hub link that loses training is marked down and,
retrained, up again, with a count, an event and 500 points, whereupon the running cues, the reads of stored parcels
and the streams, whose accesses it held, go on; the third loss within one second fails it, with its event, and a
failed link stays failed. -/
def Obligations.HubLinksRetrainOrFail : Prop :=
  (∀ (s : State) (t : Nat) (h : Fin 4), exec (.flitReplay t h) s = .next (s.tick t))
  ∧ (∀ (s : State) (t : Nat) (h : Fin 4), bit s.memSt.failedHubs h = false →
    ((tget [] s.memSt.losses h).filter (fun x => decide ((s.tick t).now < x + 1000000000))).length < 2 →
    ∃ s', exec (.hubLinkTrainingLoss t h) s = .next s'
      ∧ bit (s'.obj Reg.hubLinkState) h = false ∧ s'.memSt.failedHubs = s.memSt.failedHubs
      ∧ s.KeepsObjects s' [Reg.hubLinkState] ∧ s' = { s with now := s'.now, objs := s'.objs, memSt := s'.memSt })
  ∧ (∀ (s : State) (t : Nat) (h : Fin 4), bit s.memSt.failedHubs h = false →
    2 ≤ ((tget [] s.memSt.losses h).filter (fun x => decide ((s.tick t).now < x + 1000000000))).length →
    ∃ s', exec (.hubLinkTrainingLoss t h) s = .next s'
      ∧ bit (s'.obj Reg.hubLinkState) h = false ∧ bit s'.memSt.failedHubs h = true
      ∧ element 4 h ∈ s'.failedEls ∧ s.FirstEvent s' 0x6002 h 0)
  ∧ (∀ (s : State) (t : Nat) (h : Fin 4), bit s.memSt.failedHubs h = true →
    exec (.hubLinkTrainingLoss t h) s = .next (s.tick t) ∧ exec (.hubLinkRetrained t h) s = .next (s.tick t))
  ∧ (∀ (s : State) (t : Nat) (h : Fin 4), bit s.memSt.failedHubs h = false → bit (s.obj Reg.hubLinkState) h = false →
    ∃ u : State, (let w := match s.active with
        | some n => s.eng.running.foldl (fun (v : State) r => v.resume n r) u
        | none => u
      exec (.hubLinkRetrained t h) s = .next ((w.streams.map Prod.fst).foldl (fun v i => v.pump i) w.readStored))
      ∧ bit (u.obj Reg.hubLinkState) h = true
      ∧ u.obj Reg.hubLinkRetrains = (s.obj Reg.hubLinkRetrains + 1) % 2 ^ 64
      ∧ s.FirstEvent u 0x6001 h 0
      ∧ tget 0 u.scores (element 4 h) = min (tget 0 s.scores (element 4 h) + 500) 0xFFFFFFFF
      ∧ s.KeepsObjects u [Reg.hubLinkState, Reg.hubLinkRetrains, Reg.eventWriteSeq]
      ∧ u = { s with now := u.now, objs := u.objs, ring := u.ring, events := u.events, scores := u.scores })

/-- R218, R219, R220, R254: a channel sends the frame of a local frame number once: a channel that is not dark sends
one whose 125 blocks are OH-A, 62 payload blocks, OH-B and 61 payload blocks, that begins with the alignment pattern
and carries the BIP of the payload before it, and keeps the BIP of the payload it sent. R222: frame alignment is lost
at the fifth bad pattern in a row, a lost frame counting as bad; a good pattern keeps it. R235, R237: a failed or
requested member is given the first understudy that qualifies, or leaves the member set; a channel clear for
RESTORE_HOLDOFF_MS is given back, by the end of its substitution or by its return to the member set; before that
nothing happens. That a substitution takes SUBST0 when it is free and SUBST1 else, over what stands there, is the
model's choice (log entry 133), and that announcements wait in a queue too (log entry 51). Frames that do not come
count by elapsed periods (log entry 60). -/
def Obligations.FramesAndSubstitutionsFollowTheirRules : Prop :=
  let i := fun (c : Fin 32) => c.val % 8
  let n := fun (c : Fin 32) => c.val / 8
  let plan := fun (s : State) (c : Fin 32) => (s.route (c.val / 8)).planned
  let queued := fun (s s' : State) (c : Fin 32) (a : Ann) =>
    (s'.route (c.val / 8)).queue = (s.route (c.val / 8)).queue ++ [a] ∧ s' = { s with now := s'.now, routes := s'.routes }
  (∀ (s : State) (t : Nat) (c : Fin 32) (mm : List (Fin 10)),
    let u := ((s.tick t).mismatches 4 (mm.map Fin.val)).2
    (s.chan c).txLfn ≠ some u.lfn → (u.beginFrame u.lfn).dark c = false →
    ∃ s' a b p, exec (.lineFrameTx t c mm) s = .next s'
      ∧ Output.line c u.lfn (a ++ p.take (62 * (8 * slotsOf (s.chRate c))) ++ b ++ p.drop (62 * (8 * slotsOf (s.chRate c)))) ∈ s'.out
      ∧ a.length = 8 * slotsOf (s.chRate c)
      ∧ a.take 6 = [0x3C#8, 0x3C#8, 0x3C#8, 0xC3#8, 0xC3#8, 0xC3#8] ∧ slice a 12 4 = bytesBE 4 (s.chan c).txBip
      ∧ (s'.chan c).txLfn = some u.lfn ∧ (s'.chan c).txBip = bipOf p)
  ∧ (∀ (s : State) (t : Nat) (c : Fin 32), (s.chan c).txLfn = some (s.tick t).lfn →
    exec (.lineFrameTx t c []) s = .next (s.tick t))
  ∧ (∀ (s : State) (t : Nat) (c : Fin 32) (f : LineFrame) (x : RxFindings),
    slice f.bytes 1 4 ≠ [0x3C#8, 0x3C#8, 0xC3#8, 0xC3#8] →
    5 ≤ (s.chan c).fasBad + max 1 (((s.tick t).now - (s.chan c).lastAt + 320) / 640) →
    ∃ s', exec (.lineFrameRx t c f x) s = .next s' ∧ (s'.chan c).inFrame = false ∧ (s'.chan c).lastAt = s'.now
      ∧ s'.mem = s.mem)
  ∧ (∀ (s : State) (t : Nat) (c : Fin 32) (f : LineFrame) (x : RxFindings),
    slice f.bytes 1 4 = [0x3C#8, 0x3C#8, 0xC3#8, 0xC3#8] → (s.chan c).inFrame = true →
    (s.chan c).fasBad + max 1 (((s.tick t).now - (s.chan c).lastAt + 320) / 640) < 6 →
    ∃ s', exec (.lineFrameRx t c f x) s = .next s' ∧ (s'.chan c).inFrame = true ∧ (s'.chan c).fasBad = 0)
  ∧ (∀ (s : State) (t : Nat) (c : Fin 32), (s.chan c).txFail = false → bit (s.route (n c)).rxReq (i c) = false →
    exec (.substitutionDecision t c) s = .next (s.tick t))
  ∧ (∀ (s : State) (t : Nat) (c : Fin 32), (s.chan c).txFail = true ∨ bit (s.route (n c)).rxReq (i c) = true →
    carriedIn (plan s c).2.1 (plan s c).2.2 (i c) = none → carrierIn (plan s c).2.1 (plan s c).2.2 (i c) = none →
    s.role c = 1 → bit (plan s c).1 (i c) = true →
    (∀ u, ((List.range 8).map (fun j => 8 * n c + j)).find? (fun u => s.qualifies u c) = some u →
      ∃ s', exec (.substitutionDecision t c) s = .next s' ∧ queued s s' c
        { kind := 1, field := if substValid (plan s c).2.1 then 1 else 0, value := 0x80 + 8 * (u % 8) + i c })
    ∧ (((List.range 8).map (fun j => 8 * n c + j)).find? (fun u => s.qualifies u c) = none →
      ∃ s', exec (.substitutionDecision t c) s = .next s' ∧ queued s s' c
        { kind := 3, field := 0, value := setBit (plan s c).1 (i c) false, channel := c }))
  ∧ (∀ (s : State) (t j : Nat) (c : Fin 32), (s.chan c).txFail = true →
    carriedIn (plan s c).2.1 (plan s c).2.2 (i c) = some j → bit (plan s c).1 j = true →
    ∃ s', exec (.substitutionDecision t c) s = .next s' ∧ queued s s' c
      { kind := 3, field := 0, value := setBit (plan s c).1 j false, channel := 8 * n c + j })
  ∧ (∀ (s : State) (t a : Nat) (c : Fin 32), (s.chan c).clearFrom = some a →
    (s.tick t).now < a + 1000000 * s.obj Reg.restoreHoldoffMs → exec (.restoreHoldoffExpiry t c) s = .next (s.tick t))
  ∧ (∀ (s : State) (t a : Nat) (c : Fin 32), (s.chan c).clearFrom = some a →
    a + 1000000 * s.obj Reg.restoreHoldoffMs ≤ (s.tick t).now → carriedIn (plan s c).2.1 (plan s c).2.2 (i c) = none →
    (carrierIn (plan s c).2.1 (plan s c).2.2 (i c) ≠ none → bit (plan s c).1 (i c) = true →
      ∃ s', exec (.restoreHoldoffExpiry t c) s = .next s' ∧ queued s s' c
        { kind := 2, field := if substValid (plan s c).2.1 && substCarried (plan s c).2.1 == i c then 0 else 1, value := 0 })
    ∧ (carrierIn (plan s c).2.1 (plan s c).2.2 (i c) = none → bit (plan s c).1 (i c) = false → (s.chan c).joined = true →
      s.hasEntry false (s.obj Reg.pageActive) c = true →
      ∃ s', exec (.restoreHoldoffExpiry t c) s = .next s' ∧ queued s s' c
        { kind := 3, field := 0, value := setBit (plan s c).1 (i c) true, channel := c }))

/-- Of the writes that management takes: R228: a page write takes a page that is not active while no switch is pending
or draining and its reserved bits are 0; it is refused with RESERVED_NONZERO, PAGE_ACTIVE or SWITCH_PENDING otherwise
(PAGE_ACTIVE before SWITCH_PENDING is the model's order, log entry 9). R229: PAGE_SWITCH_REQUEST for an epoch whose
switch frame lies at least 512 frames ahead, with an inactive page that keeps the rules, is pending at that frame; it
is refused with SWITCH_PENDING, EPOCH_PASSED or INCONSISTENT otherwise. R232: a cancel more than 256 frames before the
switch returns to IDLE, and is TOO_LATE otherwise. R230: when the frame comes the other page is active, with its
event, and the old one drains; 4,096 frames later the switch is IDLE, and a group that the new page lacks has no place
any more. -/
def Obligations.PagesSwitchAtTheirFrame : Prop :=
  let pageObj := fun (g : PageTarget) (j : Fin 4) => match g with
    | .connectionMemory => Reg.cmPage j
    | .lineGroups => Reg.lgTable j
  let reservedZero := fun (g : PageTarget) (v : Nat) => match g with
    | .connectionMemory => (List.range 2048).all (fun i => bits v (32 * i + 30) (32 * i + 15) == 0)
    | .lineGroups => (List.range 64).all (fun i => bits v (32 * i + 31) (32 * i + 6) == 0)
  (∀ (s : State) (t v : Nat) (g : PageTarget) (j : Fin 4), s.answersRequests = true →
    (reservedZero g v = true → j.val % 2 ≠ s.obj Reg.pageActive → s.obj Reg.pageSwitchState = pageIdle →
      ∃ s', exec (.pageWrite t g j v) s = .next s' ∧ s'.answer = stOk ∧ s'.obj (pageObj g j) = v % 2 ^ objBits (pageObj g j)
        ∧ s.KeepsObjects s' [pageObj g j] ∧ s' = { s with now := s'.now, objs := s'.objs, answer := s'.answer })
    ∧ (reservedZero g v = false → ∃ s', exec (.pageWrite t g j v) s = .next s' ∧ s.RefusedWith s' stReservedNonzero)
    ∧ (reservedZero g v = true → j.val % 2 = s.obj Reg.pageActive →
      ∃ s', exec (.pageWrite t g j v) s = .next s' ∧ s.RefusedWith s' stPageActive)
    ∧ (reservedZero g v = true → j.val % 2 ≠ s.obj Reg.pageActive → s.obj Reg.pageSwitchState ≠ pageIdle →
      ∃ s', exec (.pageWrite t g j v) s = .next s' ∧ s.RefusedWith s' stSwitchPending))
  ∧ (∀ (s : State) (t : Nat) (e : Word64), s.answersRequests = true → s.asleep = false →
    let l := switchFrame e.toNat
    (s.obj Reg.pageSwitchState = pageIdle → (s.tick t).lfn + 512 ≤ l → s.pageBreak (1 - s.obj Reg.pageActive) = none →
      ∃ s', exec (.pageSwitchRequest t e) s = .next s' ∧ s'.answer = stOk ∧ s'.obj Reg.pageSwitchState = pagePending
        ∧ s'.obj Reg.pageSwitchFrame = l % 2 ^ 64 ∧ s.KeepsObjects s' [Reg.pageSwitchState, Reg.pageSwitchFrame])
    ∧ (s.obj Reg.pageSwitchState ≠ pageIdle →
      ∃ s', exec (.pageSwitchRequest t e) s = .next s' ∧ s.RefusedWith s' stSwitchPending)
    ∧ (s.obj Reg.pageSwitchState = pageIdle → l < (s.tick t).lfn + 512 →
      ∃ s', exec (.pageSwitchRequest t e) s = .next s' ∧ s.RefusedWith s' stEpochPassed)
    ∧ (∀ d, s.obj Reg.pageSwitchState = pageIdle → (s.tick t).lfn + 512 ≤ l →
      s.pageBreak (1 - s.obj Reg.pageActive) = some d →
      ∃ s', exec (.pageSwitchRequest t e) s = .next s' ∧ s'.answer = stInconsistent
        ∧ s.KeepsObjects s' [Reg.pageSwitchDetail]))
  ∧ (∀ (s : State) (t : Nat) (e : Word64), s.answersRequests = true → s.asleep = false →
    (s.obj Reg.pageSwitchState = pagePending → (s.tick t).lfn + 256 < s.obj Reg.pageSwitchFrame →
      ∃ s', exec (.pageSwitchCancel t e) s = .next s' ∧ s'.answer = stOk ∧ s'.obj Reg.pageSwitchState = pageIdle
        ∧ s.KeepsObjects s' [Reg.pageSwitchState])
    ∧ (s.obj Reg.pageSwitchState ≠ pagePending ∨ s.obj Reg.pageSwitchFrame ≤ (s.tick t).lfn + 256 →
      ∃ s', exec (.pageSwitchCancel t e) s = .next s' ∧ s.RefusedWith s' stTooLate))
  ∧ (∀ (s : State) (t : Nat),
    (s.obj Reg.pageSwitchState = pagePending → s.obj Reg.pageSwitchFrame ≤ (s.tick t).lfn →
      (s.tick t).lfn < s.obj Reg.pageSwitchFrame + 4096 →
      ∃ s', exec (.pageSwitched t) s = .next s' ∧ s'.obj Reg.pageActive = 1 - s.obj Reg.pageActive
        ∧ s'.obj Reg.pageSwitchState = pageDraining
        ∧ s.FirstEvent s' 0x3001 (s.obj Reg.pageSwitchFrame) (1 - s.obj Reg.pageActive)
        ∧ s'.obj Reg.pageSwitches = (s.obj Reg.pageSwitches + 1) % 2 ^ 64
        ∧ ((∀ l : Fin 16, (s.link l).open_ = []) → s'.mem = s.mem))
    ∧ (s.obj Reg.pageSwitchState = pagePending → (s.tick t).lfn < s.obj Reg.pageSwitchFrame →
      exec (.pageSwitched t) s = .next (s.tick t))
    ∧ (s.obj Reg.pageSwitchState = pageDraining → s.obj Reg.pageSwitchFrame + 4096 ≤ (s.tick t).lfn →
      ∃ s', exec (.pageDrainEnd t) s = .next s' ∧ s'.obj Reg.pageSwitchState = pageIdle
        ∧ (∀ g, gEnable (s.lgEntry true (s.obj Reg.pageActive) g) = false → tget none s'.framer.rxPos g = none)
        ∧ s.KeepsObjects s' [Reg.pageSwitchState, Reg.partialSlotsDiscarded]
        ∧ s' = { s with now := s'.now, objs := s'.objs, framer := { s.framer with rxPos := s'.framer.rxPos } })
    ∧ (s.obj Reg.pageSwitchState = pageDraining → (s.tick t).lfn < s.obj Reg.pageSwitchFrame + 4096 →
      exec (.pageDrainEnd t) s = .next (s.tick t)))

/-- R250, R252: one sample is taken per frame period; the sixteenth in a row with the raw condition declares LOS, and
the channel fails in receive; an earlier one does not declare it. R258: PEER_LOST is declared once its holdoff has
run, with its event and count, and the diversions of channels toward that site end (log entry 112, from R362); it is
withdrawn once one link of the active sheet toward the site has been able to close stripes for 1,000 ms; neither
happens before, nor for a site toward which the active sheet has no link (a declared loss stands then: log entry 155,
the model's choice). R262, R265: at a second's boundary the records of all channels are latched under the next
SECOND_SEQ and the per-second counters start again; within a second nothing is latched. -/
def Obligations.DefectsAreDeclaredAndSecondsLatched : Prop :=
  (∀ (s : State) (t : Nat) (c : Fin 32) (qs : List OpticSample), s.rawLos c (qs.getD c.val noSample) = true →
    bit (s.chan c).defects 0 = false → s.defects.lastSample ≠ some (s.tick t).lfn →
    (tget 0 (s.chan c).entry 0 = 15 →
      ∃ s', exec (.defectSample t qs) s = .next s' ∧ bit (s'.chan c).defects 0 = true ∧ (s'.chan c).rxFail = true)
    ∧ (tget 0 (s.chan c).entry 0 < 15 →
      ∃ s', exec (.defectSample t qs) s = .next s' ∧ bit (s'.chan c).defects 0 = false
        ∧ tget 0 (s'.chan c).entry 0 = tget 0 (s.chan c).entry 0 + 1))
  ∧ (∀ (s : State) (t : Nat) (qs : List OpticSample), s.defects.lastSample = some (s.tick t).lfn →
    exec (.defectSample t qs) s = .next (s.tick t))
  ∧ (∀ (s : State) (t n due : Nat) (f : Fin 8), s.active = some n → tget none s.defects.lossDue f.val = some due →
    (bit (s.farSites n) f = true → bit s.site.lost f = false → due ≤ (s.tick t).now →
      ∃ u : State, exec (.peerLost t f) s = .next (u.endDiversionsTo f)
        ∧ s.FirstEvent u 0x3006 f 0 ∧ u.obj Reg.peerLosses = (s.obj Reg.peerLosses + 1) % 2 ^ 64
        ∧ s.KeepsObjects u [Reg.peerLosses, Reg.eventWriteSeq]
        ∧ u = { s with now := u.now, objs := u.objs, ring := u.ring, events := u.events,
                       site := { s.site with lost := setBit s.site.lost f true } })
    ∧ ((s.tick t).now < due ∨ bit (s.farSites n) f = false → exec (.peerLost t f) s = .next (s.tick t)))
  ∧ (∀ (s : State) (t l a : Nat) (f : Fin 8), bit s.site.lost f = true → l ∈ s.linksTo f →
    tget none s.defects.okFrom l = some a → a + 1000000000 ≤ (s.tick t).now →
    ∃ s', exec (.peerRestored t f) s = .next s'
      ∧ s.FirstEvent s' 0x3007 f 0 ∧ s.KeepsObjects s' [Reg.eventWriteSeq]
      ∧ s' = { s with now := s'.now, objs := s'.objs, ring := s'.ring, events := s'.events,
                      site := { s.site with lost := setBit s.site.lost f false } })
  ∧ (∀ (s : State) (t : Nat) (f : Fin 8),
    (bit s.site.lost f = false ∨ ∀ l ∈ s.linksTo f, ∀ a, tget none s.defects.okFrom l = some a → (s.tick t).now < a + 1000000000) →
    exec (.peerRestored t f) s = .next (s.tick t))
  ∧ (∀ (s : State) (t : Nat),
    ((s.tick t).net / 1000000000 ≠ s.defects.lastLatch →
      let seq := if s.defects.records.isEmpty then 0 else (s.obj Reg.pmSecondSeq + 1) % 2 ^ 32
      ∃ s', exec (.pmLatch t) s = .next s' ∧ s'.defects.lastLatch = (s.tick t).net / 1000000000
        ∧ s'.defects.records = ((seq, (List.range 32).map (fun c => (s.tick t).pmRecordOf c seq s.defects.partialNext))
          :: s.defects.records).take 1024
        ∧ s'.obj Reg.pmSecondSeq = seq ∧ (∀ c : Fin 32, (s'.chan c).second = [])
        ∧ (s.links = [] → (∀ c : Fin 32, (s.chan c).held = []) → s'.mem = s.mem))
    ∧ ((s.tick t).net / 1000000000 = s.defects.lastLatch → exec (.pmLatch t) s = .next (s.tick t)))

/-- R272 to R274, R278, R284 to R287, R290: a stripe takes the oldest k ready parcels, or fewer with NULL positions
when every route has a slot due, under the next SSN, with its parity, once the retransmit stores of its routes have
taken it; while one of them is short it waits (log entry 109), and so does whatever stores or reads a stored parcel
while a hub link that the pool lies behind is away (R198). A failed stripe is forgotten once its SSN no longer
precedes the next one (log entry 101). An ACK closes every stripe before CUM and RETAIN_US later it is freed; a newer
NAK and T_RETRY each make one attempt, counted against RETRY_BUDGET; beyond it, and when a poisoned parcel that the
NAK names leaves fewer than k obtainable (log entry 110), the stripe is abandoned; an older NAK changes nothing, nor
does T_RETRY before its time or while a parcel of the stripe waits for its slot; a REREQ re-sends the stored parcel or
is answered REPLY; a later CREDIT replaces the limit. Details of attempts are log entry 101. -/
def Obligations.StripesAreSentRetriedAndFreed : Prop :=
  let again := fun (s s' : State) (l ssn : Nat) (st : TxStripe) (nak : Option Nat) =>
    (s'.link l).stripe ssn
        = some { st with lastNak := nak, attempts := st.attempts + 1, lastTx := s'.now }
      ∧ s'.mem = s.mem
  let abandoned := fun (s s' : State) (l ssn reason : Nat) =>
    ((s'.link l).stripe ssn).map (fun q => q.abandoned.isSome) = some true
      ∧ s'.obj Reg.lastStripeFailure = (s.link l).num % 16 + 16 * reason + 256 + 512 + 2 ^ 32 * ssn
      ∧ (l < 16 → s'.obj (Reg.stripesFailed l) = (s.obj (Reg.stripesFailed l) + 1) % 2 ^ 64) ∧ s'.mem = s.mem
  let obtainable := fun (st : TxStripe) (named : BitVec 4) =>
    (((List.range st.positions.length).zip st.positions).filter (fun q =>
      q.2.poisoned.isNone || (!q.2.parity && !(bit named.toNat q.1 && q.2.body.isSome)))).length
  let newer := fun (st : TxStripe) (num : Nat) => ∀ p, st.lastNak = some p → p < num
  (∀ (s : State) (t l : Nat) (due : Bool),
    let k := s.link l
    let kk := lK k.entry
    let n := min kk k.ready.length
    s.poolHeld = false → k.inUse = true → k.failed = false → k.windowFull = false → n ≠ 0 → (n = kk ∨ due = true) →
    ∃ ps : List TxPos,
      let v := (s.tick t).reserve l ps
      let short := (linkRoutes k.entry).any (fun r => v.short (retxStore r))
      let on := fun r => ((List.range (kk + lM k.entry)).filter (fun i => (decide (i < n) || decide (kk ≤ i)) && lPosRoute k.entry i == r)).length
      ps.take n = (k.ready.take n).map (fun b => { body := some { b with par := none }, parity := false })
      ∧ (ps.drop n).take (kk - n) = List.replicate (kk - n) { body := none, parity := false }
      ∧ (ps.drop kk).map (fun p => (p.parity, p.body.map (fun b => b.bytes)))
          = (parityOf kk (lM k.entry) ((List.range n).zip ((k.ready.take n).map (fun b => b.bytes)))).map (fun b => (true, some b))
      ∧ ((∀ r < 4, s.short (retxStore r) = false
            ∧ (on r ≠ 0 → (s.storeOf (retxStore r)).length = buffersFor (s.storedOn r + on r))) → v = s.tick t ∧ short = false)
      ∧ (short = true → exec (.stripeComplete t l due) s = .next v)
      ∧ (short = false → ∃ s' st, exec (.stripeComplete t l due) s = .next s' ∧ (s'.link l).ready = k.ready.drop n
        ∧ (s'.link l).ssn = seqAdd k.ssn 1
        ∧ (s'.link l).stripes = k.stripes.filter (fun q => q.abandoned.isNone || seqAfter (seqAdd k.ssn 1) q.ssn) ++ [st]
        ∧ st.ssn = k.ssn ∧ st.nullMap = 2 ^ kk - 2 ^ n ∧ st.positions = ps ∧ st.lastTx = s'.now
        ∧ (l < 16 → s'.obj (Reg.stripesSent l) = (v.obj (Reg.stripesSent l) + 1) % 2 ^ 64)
        ∧ v.KeepsObjects s' [Reg.stripesSent l] ∧ s' = { v with objs := s'.objs, links := s'.links }))
  ∧ (∀ (s : State) (t l : Nat) (due : Bool), (s.link l).windowFull = true ∨ s.poolHeld = true →
    exec (.stripeComplete t l due) s = .next (s.tick t))
  ∧ (∀ (s : State) (t l : Nat) (cum first last : Word32) (st : TxStripe), st ∈ (s.link l).stripes →
    seqAfter cum.toNat st.ssn = true → st.closedAt = none → st.abandoned = none → 0 < lRetain (s.link l).entry →
    ∃ u : State, exec (.ack t l cum first last) s = .next u.fitRoutes
      ∧ { st with closedAt := some u.now } ∈ (u.link l).stripes ∧ u = { s with now := u.now, links := u.links })
  ∧ (∀ (s : State) (t l : Nat),
    ∃ u : State, exec (.retainExpiry t l) s = .next u.fitRoutes ∧ u = { s with now := u.now, links := u.links }
      ∧ (u.link l).stripes = (s.link l).stripes.filter (fun st => match st.closedAt with
        | some a => decide (u.now < a + 1000 * lRetain (s.link l).entry)
        | none => true))
  ∧ (∀ (s : State) (t l : Nat) (ssn : Word32) (m : BitVec 4) (num : Byte) (st : TxStripe),
    (s.link l).inUse = true → (s.link l).stripe ssn.toNat = some st → st.abandoned = none →
    let needed := (positionsOf m.toNat).filter (fun i => st.dataPositions.contains i)
    (s.poolHeld = false → st.closedAt = none → newer st num.toNat → st.attempts < lBudget (s.link l).entry →
      (∀ p ∈ st.positions, p.poisoned = none) → lK (s.link l).entry ≤ st.positions.length →
      ∃ s', exec (.nak t l ssn m num []) s = .next s' ∧ again s s' l ssn.toNat st (some num.toNat))
    ∧ (st.closedAt = none → newer st num.toNat → lBudget (s.link l).entry ≤ st.attempts →
      ∃ s', exec (.nak t l ssn m num []) s = .next s' ∧ abandoned s s' l ssn.toNat 1)
    ∧ (s.poolHeld = true → st.closedAt = none → newer st num.toNat → st.attempts < lBudget (s.link l).entry →
      ∃ s', exec (.nak t l ssn m num []) s = .next s' ∧ StoreRead.attempt ssn.toNat needed false ∈ (s'.link l).reads
        ∧ (s'.link l).stripe ssn.toNat = some { st with lastNak := some num.toNat } ∧ s' = { s with now := s'.now, links := s'.links })
    ∧ (s.poolHeld = false → st.closedAt = none → newer st num.toNat → st.attempts < lBudget (s.link l).entry →
      obtainable st m < lK (s.link l).entry →
      ∃ s', exec (.nak t l ssn m num []) s = .next s' ∧ abandoned s s' l ssn.toNat 2)
    ∧ (∀ p, st.lastNak = some p → num.toNat ≤ p → exec (.nak t l ssn m num []) s = .next (s.tick t)))
  ∧ (∀ (s : State) (t l : Nat) (ssn : Word32) (st : TxStripe), (s.link l).stripe ssn.toNat = some st →
    (s.link l).inUse = true → (s.link l).failed = false → st.closedAt = none → st.abandoned = none →
    let waits := (s.link l).slots.any (fun q => q.ssn == ssn.toNat)
    (s.poolHeld = false → st.lastTx + 1000 * (linkTimers (s.link l).entry).retry ≤ (s.tick t).now → waits = false →
      st.attempts < lBudget (s.link l).entry → (∀ p ∈ st.positions, p.poisoned = none) →
      lK (s.link l).entry ≤ st.positions.length →
      ∃ s', exec (.tRetryExpiry t l ⟨ssn, []⟩) s = .next s' ∧ again s s' l ssn.toNat st st.lastNak
        ∧ (l < 16 → s'.obj (Reg.retryTimeouts l) = (s.obj (Reg.retryTimeouts l) + 1) % 2 ^ 64))
    ∧ (s.poolHeld = true → st.lastTx + 1000 * (linkTimers (s.link l).entry).retry ≤ (s.tick t).now → waits = false →
      st.attempts < lBudget (s.link l).entry →
      ∃ s', exec (.tRetryExpiry t l ⟨ssn, []⟩) s = .next s' ∧ StoreRead.attempt ssn.toNat st.dataPositions true ∈ (s'.link l).reads
        ∧ (s'.link l).stripe ssn.toNat = some st ∧ s' = { s with now := s'.now, links := s'.links })
    ∧ (st.lastTx + 1000 * (linkTimers (s.link l).entry).retry ≤ (s.tick t).now → waits = false →
      lBudget (s.link l).entry ≤ st.attempts →
      ∃ s', exec (.tRetryExpiry t l ⟨ssn, []⟩) s = .next s' ∧ abandoned s s' l ssn.toNat 1)
    ∧ ((s.tick t).now < st.lastTx + 1000 * (linkTimers (s.link l).entry).retry ∨ waits = true →
      exec (.tRetryExpiry t l ⟨ssn, []⟩) s = .next (s.tick t)))
  ∧ (∀ (s : State) (t l : Nat) (i : BitVec 16) (psn : Word32),
    let holds := fun (p : TxPos) => ∃ b, p.body = some b ∧ p.parity = false ∧ b.stream = i.toNat ∧ b.psn = psn.toNat
    ((∀ st ∈ (s.link l).stripes, ∀ p ∈ st.positions, ¬ holds p) →
      ∃ s', exec (.rereq t l i psn none) s = .next s'
        ∧ s' = (s.tick t).sendArq l ([0x07#8] ++ bytesBE 1 (s.lgRef l) ++ bytesBE 2 i.toNat ++ bytesBE 4 psn.toNat ++ [3#8]))
    ∧ (s.poolHeld = true → (∃ st ∈ (s.link l).stripes, ∃ p ∈ st.positions, holds p) →
      ∃ s', exec (.rereq t l i psn none) s = .next s' ∧ StoreRead.again i.toNat psn.toNat none ∈ (s'.link l).reads
        ∧ s' = { s with now := s'.now, links := s'.links })
    ∧ (s.poolHeld = false → (∃ st ∈ (s.link l).stripes, ∃ p ∈ st.positions, holds p) →
      (∀ st ∈ (s.link l).stripes, ∀ p ∈ st.positions, p.poisoned = none) → s.upGroups l ≠ [] →
      ∃ s', exec (.rereq t l i psn none) s = .next s' ∧ (s'.link l).slots.length = (s.link l).slots.length + 1
        ∧ (l < 16 → s'.obj (Reg.parcelsResent l) = (s.obj (Reg.parcelsResent l) + 1) % 2 ^ 64)
        ∧ s.KeepsObjects s' [Reg.parcelsResent l] ∧ s' = { s with now := s'.now, objs := s'.objs, links := s'.links })
    ∧ (∀ a : BitVec 48, s.poolHeld = false → (unitOf a.toNat, 4) ∉ s.memSt.fresh → (∃ st ∈ (s.link l).stripes, ∃ p ∈ st.positions, holds p) →
      ∃ u : State, exec (.rereq t l i psn (some a)) s
          = .next (u.sendArq l ([0x07#8] ++ bytesBE 1 (u.lgRef l) ++ bytesBE 2 i.toNat ++ bytesBE 4 psn.toNat ++ [2#8]))
        ∧ u.obj Reg.lastMemoryError = memoryErrorWord (unitOf a.toNat) 3 false 4
        ∧ s.KeepsObjects u [Reg.lastMemoryError] ∧ u = { s with now := u.now, objs := u.objs, links := u.links }))
  ∧ (∀ (s : State) (t : Nat) (i : BitVec 14) (limit : Word32), eKind (s.stream i.toNat).entry = kindLine →
    (s.stream i.toNat).draining = false →
    (seqAfter limit.toNat (s.stream i.toNat).txLimit = true →
      ∃ s', exec (.credit t i limit) s = .next s' ∧ (s'.stream i.toNat).txLimit = limit.toNat ∧ s'.mem = s.mem)
    ∧ (seqAfter limit.toNat (s.stream i.toNat).txLimit = false → exec (.credit t i limit) s = .next (s.tick t)))

/-- R276, R277, R279 to R282, R286 to R288, R293: an idle slot is nothing; one whose header is wrong is counted as a
delineation error; a slot of a closed or failed stripe that answers no re-request is counted as a duplicate; a data
parcel that verifies is delivered to its stream and shows its site in touch. T_HOLE sends a NAK, at most RETRY_BUDGET
+ 1 of them; ABANDON fails the streams it names and the stripe; T_FAIL fails the link and its streams; DRAINED is
recorded once; REPLY and RETRY_BUDGET end a re-request; a route within its figures for 1 s counts again. Details of
the messages are log entry 101. -/
def Obligations.StripesAreReceivedAndFail : Prop :=
  let reads := fun (s : State) (g : Fin 64) (b : List Byte) (l i : Nat) =>
    (b.take 64).all (fun x => x == 0#8) = false ∧ s.linkOfGroup g.val = some (l, i) ∧ (s.link l).rxEnded = false
  let header := fun (s : State) (l : Nat) (b : List Byte) =>
    parseSlot (lCode (s.link l).entry) (lK (s.link l).entry) (lM (s.link l).entry) b
  (∀ (s : State) (t : Nat) (g : Fin 64) (b : List Byte) (vs : List (List (Fin 10))), (b.take 64).all (fun x => x == 0#8) = true →
    exec (.lineParcelRx t g ⟨b, vs⟩) s = .next { s.tick t with cipher := { s.cipher with due := [] } })
  ∧ (∀ (s : State) (t l i : Nat) (g : Fin 64) (b : List Byte) (vs : List (List (Fin 10))), reads s g b l i → header s l b = none →
    ∃ s', exec (.lineParcelRx t g ⟨b, vs⟩) s = .next s'
      ∧ s'.obj (Reg.delineationErrors l) = (s.obj (Reg.delineationErrors l) + 1) % 2 ^ 64)
  ∧ (∀ (s : State) (t l i pos nm ssn : Nat) (par re : Bool) (g : Fin 64) (b : List Byte) (vs : List (List (Fin 10))),
    reads s g b l i → header s l b = some (par, pos, re, nm, ssn) →
    (re = false ∨ par = true ∨ (s.link l).awaits (b.drop 16) = false) →
    (seqAfter (s.link l).cum ssn = true ∨ (s.link l).closed.contains ssn = true ∨ (s.link l).failedStripes.contains ssn = true) →
    ∃ s', exec (.lineParcelRx t g ⟨b, vs⟩) s = .next s'
      ∧ s'.obj (Reg.duplicates l) = (s.obj (Reg.duplicates l) + 1) % 2 ^ 64)
  ∧ (∀ (s : State) (t l i pos nm ssn : Nat) (re : Bool) (g : Fin 64) (b pt : List Byte) (vs : List (List (Fin 10))), vs.headD [] = [] → reads s g b l i →
    header s l b = some (false, pos, re, nm, ssn) →
    let k := s.link l
    let route := gRoute (s.lgEntry true (s.obj Reg.pageActive) g.val)
    let oldest := k.open_.foldl (fun a u => if seqAfter a u.ssn then u.ssn else a) ((k.open_.head?.map (fun u => u.ssn)).getD k.cum)
    let body := b.drop 16
    let j := bits (ofBytesBE (slice body 0 2)) 13 0
    seqAfter k.cum ssn = false → k.closed.contains ssn = false → k.failedStripes.contains ssn = false →
    seqAfter ssn (seqAdd oldest (2 ^ 23)) = false →
    (∀ u, k.open? ssn = some u → u.bodies.any (fun p => p.1 == pos) = false) →
    bit k.excess route = false → s.bundleDown route (lFarSite k.entry) = false → s.groupMatches g.val l i = true →
    ((s.tick t).openParcel l route body).1 = some pt →
    eKind (s.stream j).entry = kindLine → eLink (s.stream j).entry = l → (s.stream j).failed = none →
    (s.stream j).draining = false → seqAfter (s.stream j).rxPsn (ofBytesBE (slice body 4 4)) = false →
    (s.stream j).rxAt (ofBytesBE (slice body 4 4)) = none →
    ∃ s', exec (.lineParcelRx t g ⟨b, vs⟩) s = .next s' ∧ (s.stream j).parcelsIn < (s'.stream j).parcelsIn
      ∧ bit s'.site.evidence (lFarSite k.entry) = true)
  ∧ (∀ (s : State) (t : Nat) (l : Fin 16) (ssn : Word32) (u : RxStripe), (s.link l).open? ssn.toNat = some u →
    (u.nakOut = false → u.holdFrom + 1000 * (linkTimers (s.link l).entry).hole ≤ (s.tick t).now →
      u.naks ≤ lBudget (s.link l).entry →
      ∃ s', exec (.tHoleExpiry t l ssn) s = .next s'
        ∧ (s'.link l).open? ssn.toNat = some { u with naks := u.naks + 1, nakOut := true }
        ∧ s'.framer.msgs.length = s.framer.msgs.length + 1
        ∧ s'.obj (Reg.naksSent l) = (s.obj (Reg.naksSent l) + 1) % 2 ^ 64 ∧ s.KeepsObjects s' [Reg.naksSent l])
    ∧ ((u.nakOut = true ∨ (s.tick t).now < u.holdFrom + 1000 * (linkTimers (s.link l).entry).hole
        ∨ lBudget (s.link l).entry < u.naks) → exec (.tHoleExpiry t l ssn) s = .next (s.tick t)))
  ∧ (∀ (s : State) (t : Nat) (l : Fin 16) (ssn : Word32) (r : Byte) (ids : List (BitVec 16)), (s.link l).inUse = true →
    ∃ s', exec (.abandon t l ssn r ids) s = .next s'
      ∧ (∀ i ∈ ids, i ≠ 0xFFFF#16 → (s.stream (i.toNat % 16384)).entry ≠ 0 → (s.stream (i.toNat % 16384)).draining = false →
        (s.stream (i.toNat % 16384)).failed = none → (s'.stream (i.toNat % 16384)).failed = some (0x10 + r.toNat))
      ∧ (if seqAfter (s.link l).cum ssn.toNat = false ∧ (s.link l).closed.contains ssn.toNat = false
            ∧ (s.link l).failedStripes.contains ssn.toNat = false then
          (s'.link l).open? ssn.toNat = none ∧ s'.obj (Reg.stripesFailed l) = (s.obj (Reg.stripesFailed l) + 1) % 2 ^ 64
        else (s'.link l).open_ = (s.link l).open_ ∧ s'.obj (Reg.stripesFailed l) = s.obj (Reg.stripesFailed l))
      ∧ s'.mem = s.mem)
  ∧ (∀ (s : State) (t : Nat) (l : Fin 16) (ssn : Word32) (u : RxStripe), (s.link l).open? ssn.toNat = some u →
    ((s.link l).failed = false → u.first + 1000 * (linkTimers (s.link l).entry).fail ≤ (s.tick t).now →
      ∃ s', exec (.tFailExpiry t l ssn) s = .next s' ∧ (s'.link l).failed = true ∧ (s'.link l).failedAt = s'.now
        ∧ (∀ i, eKind (s.stream i).entry = kindLine → eLink (s.stream i).entry = l.val → (s.stream i).draining = false →
          (s.stream i).failed = none → (s'.stream i).failed = some 0x14)
        ∧ s'.mem = s.mem)
    ∧ ((s.link l).failed = true ∨ (s.tick t).now < u.first + 1000 * (linkTimers (s.link l).entry).fail →
      exec (.tFailExpiry t l ssn) s = .next (s.tick t)))
  ∧ (∀ (s : State) (t : Nat) (l : Fin 16) (e : BitVec 16), (s.link l).inUse = true →
    ((s.link l).drainedRx.any (fun p => p.1 == e.toNat) = false →
      ∃ s', exec (.drained t l e) s = .next s' ∧ (s'.link l).drainedRx = (e.toNat, s'.now) :: (s.link l).drainedRx
        ∧ s' = { s with now := s'.now, links := s'.links, cipher := s'.cipher })
    ∧ ((s.link l).drainedRx.any (fun p => p.1 == e.toNat) = true → exec (.drained t l e) s = .next (s.tick t)))
  ∧ (∀ (s : State) (t : Nat) (l : Fin 16) (i : BitVec 16) (psn : Word32),
    ∃ s', exec (.reply t l i psn) s = .next s' ∧ s' = { s with now := s'.now, links := s'.links }
      ∧ (∀ r ∈ (s.link l).rereqs, ePeerStream (s.stream r.stream).entry = i.toNat → r.psn = psn.toNat → r.outcome = none →
        { r with outcome := some false } ∈ (s'.link l).rereqs))
  ∧ (∀ (s : State) (t : Nat) (l : Fin 16) (num : Byte) (r : Rereq),
    (s.link l).rereqs.find? (fun q => q.num == num.toNat && q.outcome.isNone) = some r →
    let due := r.at_ + 1000 * (linkTimers (s.link l).entry).retry
    ((s.tick t).now < due → exec (.rereqRetryExpiry t l num) s = .next (s.tick t))
    ∧ (due ≤ (s.tick t).now → lBudget (s.link l).entry ≤ r.tries →
      ∃ s', exec (.rereqRetryExpiry t l num) s = .next s' ∧ { r with outcome := some false } ∈ (s'.link l).rereqs
        ∧ s' = { s with now := s'.now, links := s'.links })
    ∧ (due ≤ (s.tick t).now → r.tries < lBudget (s.link l).entry →
      ∃ s', exec (.rereqRetryExpiry t l num) s = .next s'
        ∧ { r with tries := r.tries + 1, at_ := s'.now } ∈ (s'.link l).rereqs
        ∧ s'.framer.msgs.length = s.framer.msgs.length + 1
        ∧ s'.obj (Reg.rerequests l) = (s.obj (Reg.rerequests l) + 1) % 2 ^ 64))
  ∧ (∀ (s : State) (t a : Nat) (l : Fin 16) (n : Fin 4), tget none (s.link l).excessFrom n.val = some a →
    bit (s.link l).excess n.val = true →
    (a + 1000000000 ≤ (s.tick t).now →
      ∃ s', exec (.excessDelayClear t l n) s = .next s' ∧ bit (s'.link l).excess n.val = false
        ∧ s' = { s with now := s'.now, links := s'.links })
    ∧ ((s.tick t).now < a + 1000000000 → exec (.excessDelayClear t l n) s = .next (s.tick t)))

/-- Of the writes that management takes: R299, R309: a key blob with a nonzero reserved field, under an alarm, or with
a nonce that is not newer is refused and changes nothing; a KLK that unwraps is held, its nonce is the last one, and
the SAK and the KLK nonce are cleared; a duplicate mismatch while it is unwrapped raises the curtain; a SAK needs a
KLK and is held; a pair key joins the pair's held epochs behind the newest, and the first one is the transmit epoch.
R303: PAIR_SWITCH_REQUEST takes the next epoch at once or at an epoch to come, and is refused with NO_KEY for any
other, with SWITCH_PENDING or with EPOCH_PASSED; that NO_KEY comes first, whatever is pending or past, is the model's
order (log entry 9). The loads are refused in R299's order, after WRONG_STATE in an Intermission and OUT_OF_RANGE for
the own site (log entry 146). R312: the keys of the own site's index stay. R305: KEY_ERASE erases a held epoch that is
not the transmit epoch, and the end of its overlap window erases a draining one. The status of a mismatched load is
log entry 44, the next epoch is log entry 47. -/
def Obligations.KeysAreLoadedSwitchedAndErased : Prop :=
  let blob := fun (v : BitVec 512) => bytesLE 64 v.toNat
  let nonce := fun (v : BitVec 512) => ofBytesBE (slice (bytesLE 64 v.toNat) 4 12)
  let epochOf := fun (v : BitVec 512) => ofBytesBE (slice (bytesLE 64 v.toNat) 0 2)
  (∀ (s : State) (t : Nat) (v : BitVec 512) (mm : List (Fin 20)), s.answersRequests = true → s.asleep = false →
    (bits v.toNat 31 0 ≠ 0 → ∃ s', exec (.klkLoad t v mm) s = .next s' ∧ s.RefusedWith s' stReservedNonzero)
    ∧ (bits v.toNat 31 0 = 0 → s.obj Reg.alarmStatus ≠ 0 →
      ∃ s', exec (.klkLoad t v mm) s = .next s' ∧ s.RefusedWith s' stCurtainActive)
    ∧ (bits v.toNat 31 0 = 0 → s.obj Reg.alarmStatus = 0 → nonce v ≤ nonceOf (s.obj Reg.rootNonceLast) →
      ∃ s', exec (.klkLoad t v mm) s = .next s' ∧ s.RefusedWith s' stReplayed)
    ∧ (∀ key, bits v.toNat 31 0 = 0 → s.obj Reg.alarmStatus = 0 → nonceOf (s.obj Reg.rootNonceLast) < nonce v →
      (s.tick t).unwrap Reg.klkLoad (blob v) rootKeyBytes [] = (stOk, some key, s.tick t) →
      ∃ s', exec (.klkLoad t v []) s = .next s' ∧ s'.answer = stOk ∧ s'.cipher.klk = some key ∧ s'.cipher.sak = none
        ∧ s'.obj Reg.rootNonceLast = nonceObj (blob v) ∧ s'.obj Reg.klkNonceLast = 0 ∧ s'.obj Reg.klkState = 1
        ∧ s'.obj Reg.sakState = 0 ∧ s'.obj Reg.cipherState = 0
        ∧ s.KeepsObjects s' [Reg.rootNonceLast, Reg.klkNonceLast, Reg.klkState, Reg.sakState, Reg.cipherState]
        ∧ s'.mem = s.mem)
    ∧ (∀ a : Fin 20, bits v.toNat 31 0 = 0 → s.obj Reg.alarmStatus = 0 → nonceOf (s.obj Reg.rootNonceLast) < nonce v →
      s.laneInService a = true →
      ∃ s', exec (.klkLoad t v [a]) s = .next s' ∧ s'.answer = stCurtainActive ∧ s'.cipher.klk = none
        ∧ s'.cipher.sak = none ∧ s'.obj Reg.curtains = (s.obj Reg.curtains + 1) % 2 ^ 64))
  ∧ (∀ (s : State) (t : Nat) (f : Fin 8) (v : BitVec 512) (mm : List (Fin 20)), s.answersRequests = true →
    let pairLoad := exec (.pairKeyLoad t f v mm) s
    (s.asleep = true → ∀ c ∈ [Instr.klkLoad t v mm, .sakLoad t v mm, .pairKeyLoad t f v mm], ∃ s', exec c s = .next s' ∧ s.RefusedWith s' stWrongState)
    ∧ (s.asleep = false → bits v.toNat 31 0 ≠ 0 → ∃ s', exec (.sakLoad t v mm) s = .next s' ∧ s.RefusedWith s' stReservedNonzero)
    ∧ (s.asleep = false → bits v.toNat 31 0 = 0 → s.obj Reg.alarmStatus ≠ 0 →
      ∃ s', exec (.sakLoad t v mm) s = .next s' ∧ s.RefusedWith s' stCurtainActive)
    ∧ (s.asleep = false → s.isOwnSite f = true → ∃ s', pairLoad = .next s' ∧ s.RefusedWith s' stOutOfRange)
    ∧ (s.asleep = false → s.isOwnSite f = false → bits v.toNat 31 16 ≠ 0 → ∃ s', pairLoad = .next s' ∧ s.RefusedWith s' stReservedNonzero)
    ∧ (s.asleep = false → s.isOwnSite f = false → bits v.toNat 31 16 = 0 →
      (s.obj Reg.alarmStatus ≠ 0 → ∃ s', pairLoad = .next s' ∧ s.RefusedWith s' stCurtainActive)
      ∧ (s.obj Reg.alarmStatus = 0 → s.cipher.klk = none → ∃ s', pairLoad = .next s' ∧ s.RefusedWith s' stNoKey)
      ∧ (s.obj Reg.alarmStatus = 0 → s.cipher.klk ≠ none → nonce v ≤ nonceOf (s.obj Reg.klkNonceLast) →
        ∃ s', pairLoad = .next s' ∧ s.RefusedWith s' stReplayed)))
  ∧ (∀ (s : State) (t : Nat) (v : BitVec 512) (mm : List (Fin 20)), s.answersRequests = true → s.asleep = false → bits v.toNat 31 0 = 0 →
    s.obj Reg.alarmStatus = 0 →
    (s.cipher.klk ≠ none → nonce v ≤ nonceOf (s.obj Reg.klkNonceLast) →
      ∃ s', exec (.sakLoad t v mm) s = .next s' ∧ s.RefusedWith s' stReplayed)
    ∧ (s.cipher.klk = none → ∃ s', exec (.sakLoad t v mm) s = .next s' ∧ s.RefusedWith s' stNoKey)
    ∧ (∀ klk key, s.cipher.klk = some klk → nonceOf (s.obj Reg.klkNonceLast) < nonce v →
      (s.tick t).unwrap Reg.sakLoad (blob v) klk [] = (stOk, some key, s.tick t) →
      ∃ s', exec (.sakLoad t v []) s = .next s' ∧ s'.answer = stOk ∧ s'.cipher = { s.cipher with sak := some key }
        ∧ s'.obj Reg.klkNonceLast = nonceObj (blob v) ∧ s'.obj Reg.sakState = 1
        ∧ s.KeepsObjects s' [Reg.klkNonceLast, Reg.sakState]))
  ∧ (∀ (s : State) (t : Nat) (f : Fin 8) (v : BitVec 512) (klk : List Nat), s.answersRequests = true → s.asleep = false →
    s.isOwnSite f = false →
    bits v.toNat 31 16 = 0 → s.obj Reg.alarmStatus = 0 → s.cipher.klk = some klk →
    nonceOf (s.obj Reg.klkNonceLast) < nonce v →
    (∀ n mm, (s.pair f).held.getLast? = some n → epochOf v ≠ (n.epoch + 1) % 65536 →
      ∃ s', exec (.pairKeyLoad t f v mm) s = .next s' ∧ s.RefusedWith s' stOutOfSequence)
    ∧ (∀ n mm, (s.pair f).held.getLast? = some n → epochOf v = (n.epoch + 1) % 65536 → (s.pair f).key (epochOf v) = none →
      3 ≤ (s.pair f).held.length →
      ∃ s', exec (.pairKeyLoad t f v mm) s = .next s' ∧ s.RefusedWith s' stKeySlotsFull)
    ∧ (∀ key, ((s.pair f).key (epochOf v)).isNone = true →
      (∀ n, (s.pair f).held.getLast? = some n → epochOf v = (n.epoch + 1) % 65536) → (s.pair f).held.length < 3 →
      (s.tick t).unwrap (Reg.pairKeyLoad f) (blob v) klk [] = (stOk, some key, s.tick t) →
      ∃ s', exec (.pairKeyLoad t f v []) s = .next s' ∧ s'.answer = stOk
        ∧ (s'.pair f).held.map (fun k => (k.epoch, k.key))
          = (s.pair f).held.map (fun k => (k.epoch, k.key)) ++ [(epochOf v, key)]
        ∧ s'.obj Reg.klkNonceLast = nonceObj (blob v)
        ∧ ((s.pair f).tx = none → (s'.pair f).tx = some (epochOf v) ∧ (s'.pair f).ivCount = 0)
        ∧ ((s.pair f).tx ≠ none → (s.pair f).ivCount < 2 ^ 48 → (s'.pair f).tx = (s.pair f).tx)))
  ∧ (∀ (s : State) (t : Nat) (f : Fin 8) (v : BitVec 128), s.answersRequests = true → s.isOwnSite f = false → bits v.toNat 63 16 = 0 →
    let e := bits v.toNat 15 0
    let at_ := bits v.toNat 127 64
    ((s.pair f).next ≠ some e → ∃ s', exec (.pairSwitchRequest t f v) s = .next s' ∧ s.RefusedWith s' stNoKey)
    ∧ ((s.pair f).next = some e → (s.pair f).pending ≠ none →
      ∃ s', exec (.pairSwitchRequest t f v) s = .next s' ∧ s.RefusedWith s' stSwitchPending)
    ∧ ((s.pair f).next = some e → (s.pair f).pending = none → at_ ≠ 0 → at_ ≤ (s.tick t).epoch →
      ∃ s', exec (.pairSwitchRequest t f v) s = .next s' ∧ s.RefusedWith s' stEpochPassed)
    ∧ ((s.pair f).next = some e → (s.pair f).pending = none → at_ = 0 →
      ∃ s', exec (.pairSwitchRequest t f v) s = .next s' ∧ s'.answer = stOk ∧ (s'.pair f).tx = some e
        ∧ (s'.pair f).ivCount = 0 ∧ (s'.pair f).pending = none ∧ s.KeepsObjects s' [])
    ∧ ((s.pair f).next = some e → (s.pair f).pending = none → (s.tick t).epoch < at_ →
      ∃ s', exec (.pairSwitchRequest t f v) s = .next s' ∧ s'.answer = stOk ∧ (s'.pair f).tx = (s.pair f).tx
        ∧ (s'.pair f).pending = some (e, at_) ∧ s.KeepsObjects s' []))
  ∧ (∀ (s : State) (t : Nat) (f : Fin 8) (v : BitVec 16), s.answersRequests = true → s.isOwnSite f = false →
    (((s.pair f).key v.toNat).isNone = true → ∃ s', exec (.keyErase t f v) s = .next s' ∧ s.RefusedWith s' stNoKey)
    ∧ (((s.pair f).key v.toNat).isSome = true → (s.pair f).tx = some v.toNat →
      ∃ s', exec (.keyErase t f v) s = .next s' ∧ s.RefusedWith s' stKeyInUse)
    ∧ (((s.pair f).key v.toNat).isSome = true → (s.pair f).tx ≠ some v.toNat →
      ∃ s', exec (.keyErase t f v) s = .next s' ∧ s'.answer = stOk ∧ (s'.pair f).key v.toNat = none
        ∧ s.FirstEvent s' 0x4002 f v.toNat ∧ s.KeepsObjects s' [Reg.eventWriteSeq] ∧ s'.mem = s.mem))
  ∧ (∀ (s : State) (t : Nat) (f : Fin 8),
    ∃ s', exec (.keyErased t f) s = .next s' ∧ (s'.pair f).tx = (s.pair f).tx
      ∧ (s.isOwnSite f = false →
        ∀ k ∈ (s.pair f).draining, ∀ w, k.windowEnd = some w → w ≤ (s.tick t).now → (s'.pair f).key k.epoch = none)
      ∧ (s.isOwnSite f = true ∨ (∀ k ∈ (s.pair f).draining, ∀ w, k.windowEnd = some w → (s.tick t).now < w) → s' = s.tick t))

/-- R301, R302: the oldest released parcel of a LINE stream is encrypted under the transmit epoch with the next
IV_COUNT, both of them in its header, and waits for a stripe; without a transmit epoch or a value left it waits. R304:
a parcel that verifies is decrypted and shows its site in touch; one under a held epoch whose tag fails is counted as
failed on its link; one of an earlier epoch is counted as stale. R309, R310: an alarm raises the curtain once: KLK and
SAK are erased and the event tells its cause; its end clears its bit alone, and the end of one supply condition leaves
it while the other persists. R311: a suspension is counted on a lane in service, and a mismatch of what it saved
raises the curtain. Which causes the event names is log entry 45. -/
def Obligations.ParcelsAreSealedAndTheCurtainFalls : Prop :=
  let curtained := fun (s s' : State) => s'.cipher.klk = none ∧ s'.cipher.sak = none ∧ s'.obj Reg.cipherState = 1
    ∧ s'.obj Reg.klkState = 0 ∧ s'.obj Reg.sakState = 0 ∧ s'.obj Reg.curtains = (s.obj Reg.curtains + 1) % 2 ^ 64
  (∀ (s : State) (t : Nat) (i : BitVec 14) (p : Parcel) (rest : List Parcel),
    let x := s.stream i.toNat
    let l := eLink x.entry
    let f := s.linkSite l
    let pr := ((s.tick t).dueSwitch f).pair f
    x.outQ = p :: rest → eKind x.entry = kindLine → (s.link l).inUse = true → (s.link l).failed = false → x.failed = none →
    ((s.tick t).canEncrypt f = true →
      ∃ s' b, exec (.parcelEncrypt t i []) s = .next s' ∧ (s'.stream i.toNat).outQ = rest
        ∧ (s'.stream i.toNat).parcelsOut = x.parcelsOut + 1 ∧ (s'.link l).ready = (s.link l).ready ++ [b]
        ∧ b.stream = i.toNat ∧ b.psn = p.psn ∧ some b.epoch = pr.tx
        ∧ slice b.bytes 24 2 = bytesBE 2 b.epoch ∧ slice b.bytes 26 6 = bytesBE 6 pr.ivCount
        ∧ (pr.ivCount + 1 < 2 ^ 48 → (s'.pair f).ivCount = pr.ivCount + 1) ∧ s'.mem = s.mem)
    ∧ (∀ mm, (s.tick t).canEncrypt f = false → exec (.parcelEncrypt t i mm) s = .next (s.tick t)))
  ∧ (∀ (s : State) (t : Nat) (l : Fin 16) (n : Fin 4) (body : List Byte),
    let f := lFarSite (s.link l).entry
    let e := ofBytesBE (slice body 24 2)
    (∀ pt, ((s.tick t).openParcel l n body).1 = some pt →
      ∃ s', exec (.parcelDecrypt t l n body []) s = .next s' ∧ s'.out = ((s.tick t).emit (.plain pt)).out
        ∧ bit s'.site.evidence f = true ∧ tget 0 s'.site.evidenceAt f = s'.now ∧ s'.mem = s.mem ∧ s'.links = s.links)
    ∧ (((s.pair f).key e).isSome = true → ((s.tick t).openParcel l n body).1 = none →
      ∃ s', exec (.parcelDecrypt t l n body []) s = .next s' ∧ s'.out = s.out
        ∧ s'.obj (Reg.authFailed l) = (s.obj (Reg.authFailed l) + 1) % 2 ^ 64
        ∧ s'.obj Reg.zeroFills = (s.obj Reg.zeroFills + 1) % 2 ^ 64 ∧ s'.mem = s.mem)
    ∧ (∀ k, (s.pair f).key e = none → (s.pair f).held.getLast? = some k → epochEarlier k.epoch e = false →
      ∃ s', exec (.parcelDecrypt t l n body []) s = .next s' ∧ s'.out = s.out
        ∧ s'.obj (Reg.staleEpoch l) = (s.obj (Reg.staleEpoch l) + 1) % 2 ^ 64
        ∧ s.KeepsObjects s' [Reg.staleEpoch l]))
  ∧ (∀ (s : State) (t : Nat) (a : Fin 20),
    (s.laneInService a = true →
      (∃ s', exec (.urgentSuspension t a false) s = .next s'
        ∧ s'.obj Reg.suspensions = (s.obj Reg.suspensions + 1) % 2 ^ 64 ∧ s.KeepsObjects s' [Reg.suspensions]
        ∧ s' = { s with now := s'.now, objs := s'.objs })
      ∧ (∃ s', exec (.urgentSuspension t a true) s = .next s' ∧ curtained s s'
        ∧ s'.obj Reg.dupMismatches = (s.obj Reg.dupMismatches + 1) % 2 ^ 64))
    ∧ (∀ m, s.laneInService a = false → exec (.urgentSuspension t a m) s = .next (s.tick t)))
  ∧ (∀ (s : State) (t : Nat) (a : AlarmCause),
    (bit (s.obj Reg.alarmStatus) (alarmBit a) = false → (a = .coreSupply → s.asleep = false) →
      ∃ s', exec (.alarm t a) s = .next s' ∧ curtained s s' ∧ bit (s'.obj Reg.alarmStatus) (alarmBit a) = true
        ∧ s.FirstEvent s' 0x4001 (2 ^ alarmBit a) 0 ∧ s'.cipher.pairs = s.cipher.pairs
        ∧ s'.cipher.supplies = supplyBits s.cipher.supplies true a ∧ s'.mem = s.mem)
    ∧ (a = .coreSupply → s.asleep = true → exec (.alarm t a) s = .next (s.tick t))
    ∧ (bit (s.obj Reg.alarmStatus) (alarmBit a) = true → (a = .coreSupply → s.asleep = false) →
      exec (.alarm t a) s = .next { s.tick t with cipher := { s.cipher with supplies := supplyBits s.cipher.supplies true a } })
    ∧ (∃ s', exec (.alarmConditionEnd t a) s = .next s'
      ∧ bit (s'.obj Reg.alarmStatus) (alarmBit a)
          = (decide (alarmBit a = 1) && supplyBits s.cipher.supplies false a != 0)
      ∧ (∀ b, alarmBit b ≠ alarmBit a → bit (s'.obj Reg.alarmStatus) (alarmBit b) = bit (s.obj Reg.alarmStatus) (alarmBit b))
      ∧ s.KeepsObjects s' [Reg.alarmStatus]
      ∧ s' = { s with now := s'.now, objs := s'.objs, cipher := { s.cipher with supplies := supplyBits s.cipher.supplies false a } }))

/-- R317, R319, R320: a reading stores the channel's error and powers, and leaves a channel that is within its limits
alone. A coarse departure above 20 GHz in two readings running is a wrong-order lock, and a fine error above 2.5 GHz
for 100 µs a loss of lock: each is counted and the channel goes dark to RELOCKING. A sweep of which one of at most
three attempts keeps exactly one lock point and holds it starts the hold; one whose three attempts all fail fails the
laser, or ends in DISABLED when the channel has been disabled meanwhile, and with fewer attempts it goes on; after the
hold the channel is IN_SERVICE, or DISABLED when it has been disabled meanwhile. RELOCK_REQUEST restarts the sweep of
a LASER_FAILED channel only. R322: a second detection running of a tone that is not the channel's own grid position
raises the mismatch: its bit in CHANNEL_STATE, the cause there of a channel in service, a count and event; the
mismatch ends 100 ms after the latest bad detection, with one of its own tone; a detection of its own tone without a
word only ends the run of others while no mismatch stands and no second bad word has come. -/
def Obligations.LockAndPilotAreMonitored : Prop :=
  let holds := fun (a : SweepAttempt) =>
    (a.points.filter (fun p => decide (p.2.natAbs ≤ 20000))).length = 1 ∧ a.holdFine.natAbs ≤ 500 ∧ a.holdCoarse.natAbs ≤ 10000
  ((∀ (s : State) (t : Nat) (c : Fin 32) (r : LockReading), r.fineMhz.natAbs ≤ 2500 → r.coarseMhz.natAbs ≤ 20000 →
    ∃ s', exec (.lockReading t c r) s = .next s' ∧ s'.chState c = s.chState c
      ∧ s'.obj (Reg.freqErrorMhz c) = toSigned 32 r.fineMhz ∧ s'.obj (Reg.rxPowerCdbm c) = toSigned 16 r.rxCdbm
      ∧ s'.obj (Reg.txPowerCdbm c) = toSigned 16 r.txCdbm ∧ bit (s'.obj (Reg.channelState c)) 7 = r.carrierLock
      ∧ s.KeepsObjects s' [Reg.freqErrorMhz c, Reg.rxPowerCdbm c, Reg.txPowerCdbm c, Reg.channelState c])
  ∧ (∀ (s : State) (t : Nat) (c : Fin 32) (r : LockReading), s.inService c = true → 20000 < r.coarseMhz.natAbs →
    1 ≤ (s.optic c).coarseRun →
    ∃ s', exec (.lockReading t c r) s = .next s' ∧ s'.chState c = chRelocking ∧ bit (s'.obj (Reg.channelState c)) 6 = true
      ∧ bits (s'.obj (Reg.channelState c)) 15 12 = 2
      ∧ s'.obj (Reg.wrongLocks c) = (s.obj (Reg.wrongLocks c) + 1) % 2 ^ 64)
  ∧ (∀ (s : State) (t a : Nat) (c : Fin 32) (r : LockReading), s.inService c = true → r.coarseMhz.natAbs ≤ 20000 →
    2500 < r.fineMhz.natAbs → (s.optic c).fineFrom = some a → a + 100000 ≤ (s.tick t).now →
    ∃ s', exec (.lockReading t c r) s = .next s' ∧ s'.chState c = chRelocking ∧ bit (s'.obj (Reg.channelState c)) 6 = true
      ∧ bits (s'.obj (Reg.channelState c)) 15 12 = 3
      ∧ s'.obj (Reg.lockLosses c) = (s.obj (Reg.lockLosses c) + 1) % 2 ^ 64)
  ∧ (∀ (s : State) (t : Nat) (c : Fin 32) (as : List SweepAttempt), s.chState c = chLocking ∨ s.chState c = chRelocking →
    (s.optic c).holdUntil = none →
    ((∃ a ∈ as.take 3, holds a) → ∃ s', exec (.relockSweepDone t c as) s = .next s' ∧ s'.chState c = s.chState c
      ∧ bit (s'.obj (Reg.channelState c)) 6 = false
      ∧ (s'.optic c).holdUntil = some ((s.tick t).now + 1000000 * s.obj Reg.relockHoldMs))
    ∧ ((∀ a ∈ as.take 3, ¬ holds a) → 3 ≤ as.length → ∃ s', exec (.relockSweepDone t c as) s = .next s'
      ∧ s'.chState c = (if s.enabled c then chLaserFailed else chDisabled)
      ∧ bits (s'.obj (Reg.channelState c)) 15 12 = (if s.enabled c then 6 else 4) ∧ element 2 c ∈ s'.failedEls)
    ∧ ((∀ a ∈ as.take 3, ¬ holds a) → as.length < 3 → exec (.relockSweepDone t c as) s = .next (s.tick t)))
  ∧ (∀ (s : State) (t h : Nat) (c : Fin 32), s.chState c = chLocking ∨ s.chState c = chRelocking →
    (s.optic c).holdUntil = some h → h ≤ (s.tick t).now →
    (s.enabled c = true → ∃ s', exec (.relockHoldExpiry t c) s = .next s' ∧ s'.chState c = chInService
      ∧ (s'.optic c).holdUntil = none ∧ bit (s'.obj (Reg.channelState c)) 6 = false
      ∧ s'.obj (Reg.relocks c) = (s.obj (Reg.relocks c) + 1) % 2 ^ 64
      ∧ s.KeepsObjects s' [Reg.channelState c, Reg.relocks c])
    ∧ (s.enabled c = false → ∃ s', exec (.relockHoldExpiry t c) s = .next s' ∧ s'.chState c = chDisabled
      ∧ (s'.optic c).holdUntil = none ∧ bit (s'.obj (Reg.channelState c)) 6 = true ∧ s.KeepsObjects s' [Reg.channelState c]))
  ∧ (∀ (s : State) (t : Nat) (c : Fin 32), s.answersRequests = true →
    (s.chState c = chLaserFailed → ∃ s', exec (.relockRequest t c 1#8) s = .next s' ∧ s'.answer = stOk
      ∧ s'.chState c = chRelocking ∧ s.KeepsObjects s' [Reg.channelState c])
    ∧ (s.chState c ≠ chLaserFailed → ∃ s', exec (.relockRequest t c 1#8) s = .next s' ∧ s.RefusedWith s' stInconsistent)
    ∧ (∀ v : Byte, v ≠ 1#8 → ∃ s', exec (.relockRequest t c v) s = .next s' ∧ s.RefusedWith s' stOutOfRange)))
  ∧ ((∀ (s : State) (t : Nat) (c tone : Fin 32), tone.val ≠ bits (s.obj (Reg.channelConfig c)) 4 0 →
    1 ≤ (s.optic c).pilotRun → s.pilotMismatch c = false →
    ∃ s', exec (.pilotDetection t c (some tone) none) s = .next s' ∧ s'.pilotMismatch c = true
      ∧ (s.inService c = true → bits (s'.obj (Reg.channelState c)) 15 12 = 8) ∧ s'.chState c = s.chState c
      ∧ s'.obj (Reg.pilotMismatches c) = (s.obj (Reg.pilotMismatches c) + 1) % 2 ^ 64
      ∧ s.FirstEvent s' 0x300A c (bits (s.obj (Reg.pilotRx c)) 23 0))
  ∧ (∀ (s : State) (t : Nat) (c tone : Fin 32), tone.val ≠ bits (s.obj (Reg.channelConfig c)) 4 0 →
    (s.optic c).pilotRun = 0 → (s.optic c).wordRun = 0 → s.pilotMismatch c = false →
    ∃ s', exec (.pilotDetection t c (some tone) none) s = .next s' ∧ s'.pilotMismatch c = false
      ∧ (s'.optic c).pilotRun = 1 ∧ s.KeepsObjects s' [])
  ∧ (∀ (s : State) (t a : Nat) (c tone : Fin 32), tone.val = bits (s.obj (Reg.channelConfig c)) 4 0 →
    (s.optic c).wordRun = 0 → s.pilotMismatch c = true → (s.optic c).pilotBadAt = some a → a + 100000000 ≤ (s.tick t).now →
    ∃ s', exec (.pilotDetection t c (some tone) none) s = .next s' ∧ s'.pilotMismatch c = false
      ∧ s'.chState c = s.chState c ∧ s.KeepsObjects s' [Reg.channelState c])
  ∧ (∀ (s : State) (t : Nat) (c tone : Fin 32), tone.val = bits (s.obj (Reg.channelConfig c)) 4 0 →
    (s.optic c).wordRun < 2 → s.pilotMismatch c = false →
    ∃ s', exec (.pilotDetection t c (some tone) none) s = .next s' ∧ s'.optic c = { s.optic c with pilotRun := 0 }
      ∧ s' = { s with now := s'.now, optics := s'.optics }))

/-- R327, R328: a channel in service that is due and is no working channel of the plan goes dark to CALIBRATING,
unless it carries another or a channel of its engine is busy; a working one whose route's understudies are both idle
goes to WAIT_SUBST, still lit, for CAL_WAIT_MS; when the wait expires it returns to service and the deferral is
counted; a calibration whose closing sweep locks ends in service after the hold and is counted, or, all three attempts
having failed, in LASER_FAILED; either way in DISABLED when it has been disabled meanwhile. CAL_REQUEST names the
engine's next channel. -/
def Obligations.CalibrationTakesTurns : Prop :=
  (∀ (s : State) (t : Nat) (e : Fin 8), let c := s.calChannel e
    c < 32 → (s.tick t).calDue e c = true → s.inService c = true → s.engineBusy c = false → s.role c ≠ 1 →
    s.carries c = false → s.foreignTx c = false →
    ∃ s', exec (.calibrationStart t e) s = .next s' ∧ s'.chState c = chCalibrating
      ∧ bit (s'.obj (Reg.channelState c)) 6 = true ∧ bits (s'.obj (Reg.channelState c)) 15 12 = 1
      ∧ s.KeepsObjects s' [Reg.channelState c])
  ∧ (∀ (s : State) (t : Nat) (e : Fin 8), let c := s.calChannel e
    c < 32 → (s.tick t).calDue e c = true → s.inService c = true → s.engineBusy c = false → s.role c = 1 →
    s.understudiesIdle c = true →
    ∃ s', exec (.calibrationStart t e) s = .next s' ∧ s'.chState c = chWaitSubst
      ∧ bit (s'.obj (Reg.channelState c)) 6 = false
      ∧ (s'.optic c).waitUntil = some ((s.tick t).now + 1000000 * s.obj Reg.calWaitMs)
      ∧ s.KeepsObjects s' [Reg.channelState c])
  ∧ (∀ (s : State) (t : Nat) (e : Fin 8), (s.tick t).calDue e (s.calChannel e) = false →
    exec (.calibrationStart t e) s = .next (s.tick t))
  ∧ (∀ (s : State) (t w : Nat) (c : Fin 32), s.chState c = chWaitSubst → (s.optic c).waitUntil = some w →
    w ≤ (s.tick t).now → (s.optic c).wait = .calibrate →
    ∃ s', exec (.calWaitExpiry t c) s = .next s' ∧ s'.chState c = chInService
      ∧ s'.obj (Reg.calDeferrals c) = (s.obj (Reg.calDeferrals c) + 1) % 2 ^ 64
      ∧ s.KeepsObjects s' [Reg.channelState c, Reg.calDeferrals c])
  ∧ (∀ (s : State) (t w : Nat) (c : Fin 32), s.chState c = chWaitSubst → (s.optic c).waitUntil = some w →
    w ≤ (s.tick t).now → (s.optic c).wait = .disable →
    ∃ s', exec (.calWaitExpiry t c) s = .next s' ∧ s'.chState c = chDisabled
      ∧ bit (s'.obj (Reg.channelState c)) 6 = true ∧ s.KeepsObjects s' [Reg.channelState c])
  ∧ (∀ (s : State) (t : Nat) (c : Fin 32) (as : List SweepAttempt), s.chState c = chCalibrating → (s.optic c).holdUntil = none →
    (sweepLocks as = true → ∃ s', exec (.calibrationEnd t c as) s = .next s' ∧ s'.chState c = chCalibrating
      ∧ (s'.optic c).calibratedAt = some (s.tick t).now
      ∧ (s'.optic c).holdUntil = some ((s.tick t).now + 1000000 * s.obj Reg.relockHoldMs) ∧ s.KeepsObjects s' [])
    ∧ (sweepLocks as = false → as.length < 3 → exec (.calibrationEnd t c as) s = .next (s.tick t))
    ∧ (sweepLocks as = false → 3 ≤ as.length → ∃ s', exec (.calibrationEnd t c as) s = .next s'
      ∧ s'.chState c = (if s.enabled c then chLaserFailed else chDisabled)
      ∧ bit (s'.obj (Reg.channelState c)) 6 = true ∧ element 2 c ∈ s'.failedEls))
  ∧ (∀ (s : State) (t h : Nat) (c : Fin 32), s.chState c = chCalibrating → (s.optic c).holdUntil = some h → h ≤ (s.tick t).now →
    ∃ s', exec (.relockHoldExpiry t c) s = .next s' ∧ s'.chState c = (if s.enabled c then chInService else chDisabled)
      ∧ (s'.optic c).holdUntil = none
      ∧ s'.obj (Reg.calibrations c) = (s.obj (Reg.calibrations c) + 1) % 2 ^ 64
      ∧ s.KeepsObjects s' [Reg.channelState c, Reg.calibrations c, Reg.relocks c])
  ∧ (∀ (s : State) (t : Nat) (v : Byte), s.answersRequests = true →
    (31 < v.toNat → ∃ s', exec (.calRequest t v) s = .next s' ∧ s.RefusedWith s' stOutOfRange)
    ∧ (v.toNat ≤ 31 → ∃ s', exec (.calRequest t v) s = .next s' ∧ s'.answer = stOk
      ∧ s'.calChannel (v.toNat / 4) = v.toNat ∧ s.KeepsObjects s' []))

/-- R329, R330, R331: of the writes that management takes, one of CHANNEL_CONFIG that sets a reserved bit, asks for a
launch power or LOS level outside its range, moves the grid position of a channel that is not DISABLED, or enables a
channel whose grid position another enabled channel of its engine has, is refused and changes nothing; that
OUT_OF_RANGE comes before CHANNEL_IN_SERVICE, and this before INCONSISTENT, is the model's order (log entry 9).
Enabling a DISABLED channel in READY starts its sweep; a graceful disable of an idle channel in service, and a forced
one of any channel whose engine works, darken it at once; a working or carrying channel is disabled through
WAIT_SUBST; a channel of a failed engine keeps its state under these writes (R332 asks for DISABLED or ENGINE_FAILED:
log entry 111, the model's choice). A retuned channel in lock takes its new rate. -/
def Obligations.ChannelConfigurationActs : Prop :=
  let same := fun (s : State) (c : Nat) (v : Nat) => s.answersRequests = true ∧ bits v 7 5 = 0 ∧ bits v 31 26 = 0
    ∧ (-60 ≤ ofSigned 8 (bits v 15 8) ∧ ofSigned 8 (bits v 15 8) ≤ 20)
    ∧ (-60 ≤ ofSigned 8 (bits v 23 16) ∧ ofSigned 8 (bits v 23 16) ≤ -30)
    ∧ (bits v 4 0 = bits (s.obj (Reg.channelConfig c)) 4 0 ∨ s.chReads c = chDisabled)
  let refused := fun (s : State) (t : Nat) (c : Fin 32) (v : Word32) (st : Status) =>
    (∃ s', exec (.channelEnable t c v) s = .next s' ∧ s.RefusedWith s' st)
    ∧ (∃ s', exec (.channelDisable t c v) s = .next s' ∧ s.RefusedWith s' st)
    ∧ (∃ s', exec (.channelForceDisable t c v) s = .next s' ∧ s.RefusedWith s' st)
  (∀ (s : State) (t : Nat) (c : Fin 32) (v : Word32), s.answersRequests = true →
    let powers := (-60 ≤ ofSigned 8 (bits v.toNat 15 8) ∧ ofSigned 8 (bits v.toNat 15 8) ≤ 20)
      ∧ (-60 ≤ ofSigned 8 (bits v.toNat 23 16) ∧ ofSigned 8 (bits v.toNat 23 16) ≤ -30)
    (bits v.toNat 7 5 ≠ 0 ∨ bits v.toNat 31 26 ≠ 0 → refused s t c v stReservedNonzero)
    ∧ (bits v.toNat 7 5 = 0 → bits v.toNat 31 26 = 0 → ¬ powers → refused s t c v stOutOfRange)
    ∧ (bits v.toNat 7 5 = 0 → bits v.toNat 31 26 = 0 → powers →
      bits v.toNat 4 0 ≠ bits (s.obj (Reg.channelConfig c)) 4 0 → s.chReads c ≠ chDisabled →
      refused s t c v stChannelInService))
  ∧ (∀ (s : State) (t : Nat) (c : Fin 32) (v : Word32), same s c v.toNat → s.engineDown c = false → s.chState c = chDisabled →
    s.modState = modReady →
    (∀ d : Fin 32, d.val / 4 = c.val / 4 → d ≠ c → bit (s.obj (Reg.channelConfig d)) 24 = true →
      bits (s.obj (Reg.channelConfig d)) 4 0 ≠ bits v.toNat 4 0) →
    ∃ s', exec (.channelEnable t c v) s = .next s' ∧ s'.answer = stOk ∧ s'.chState c = chLocking
      ∧ bit (s'.obj (Reg.channelConfig c)) 24 = true ∧ bits (s'.obj (Reg.channelConfig c)) 23 0 = bits v.toNat 23 0
      ∧ s.KeepsObjects s' [Reg.channelConfig c, Reg.channelState c])
  ∧ (∀ (s : State) (t : Nat) (c d : Fin 32) (v : Word32), same s c v.toNat →
    d.val / 4 = c.val / 4 → d ≠ c → bit (s.obj (Reg.channelConfig d)) 24 = true →
    bits (s.obj (Reg.channelConfig d)) 4 0 = bits v.toNat 4 0 →
    ∃ s', exec (.channelEnable t c v) s = .next s' ∧ s.RefusedWith s' stInconsistent)
  ∧ (∀ (s : State) (t : Nat) (c : Fin 32) (v : Word32), same s c v.toNat → s.engineDown c = false → s.inService c = true →
    s.role c ≠ 1 → s.carries c = false →
    ∃ s', exec (.channelDisable t c v) s = .next s' ∧ s'.answer = stOk ∧ s'.chState c = chDisabled
      ∧ bit (s'.obj (Reg.channelState c)) 6 = true ∧ bit (s'.obj (Reg.channelConfig c)) 24 = false
      ∧ s.KeepsObjects s' [Reg.channelConfig c, Reg.channelState c])
  ∧ (∀ (s : State) (t : Nat) (c : Fin 32) (v : Word32), same s c v.toNat → s.engineDown c = false → s.inService c = true →
    (s.role c = 1 ∨ s.carries c = true) →
    ∃ s', exec (.channelDisable t c v) s = .next s' ∧ s'.answer = stOk ∧ s'.chState c = chWaitSubst
      ∧ bit (s'.obj (Reg.channelState c)) 6 = false ∧ (s'.optic c).wait = .disable)
  ∧ (∀ (s : State) (t : Nat) (c : Fin 32) (v : Word32), same s c v.toNat → s.engineDown c = false →
    ∃ s', exec (.channelForceDisable t c v) s = .next s' ∧ s'.answer = stOk ∧ s'.chState c = chDisabled
      ∧ bit (s'.obj (Reg.channelState c)) 6 = true ∧ bit (s'.obj (Reg.channelConfig c)) 24 = false
      ∧ bit (s'.obj (Reg.channelConfig c)) 25 = false
      ∧ s.KeepsObjects s' [Reg.channelConfig c, Reg.channelState c])
  ∧ (∀ (s : State) (t : Nat) (c : Fin 32) (v : Word32), same s c v.toNat → s.engineDown c = true →
    ∃ s', exec (.channelForceDisable t c v) s = .next s' ∧ s'.answer = stOk ∧ bit (s'.obj (Reg.channelConfig c)) 24 = false
      ∧ s.KeepsObjects s' [Reg.channelConfig c]
      ∧ s' = { s with now := s'.now, objs := s'.objs, answer := s'.answer })
  ∧ (∀ (s : State) (t : Nat) (c : Fin 32), s.chState c = chRateChange →
    ∃ s', exec (.rateChangeLocked t c) s = .next s' ∧ s'.chState c = (if s.enabled c then chInService else chDisabled)
      ∧ s'.chRate c = (s.optic c).nextRate % 4 ∧ s.KeepsObjects s' [Reg.channelState c])

/-- R332, R334: a failed engine takes its four channels to ENGINE_FAILED, dark, with event ENGINE_FAILED of its cause;
a third training loss of its link within one second fails it, an earlier one does not. MONITOR_SELECT in an
Intermission (R451; before its other conditions, log entry 146), with a reserved bit, or with a source or averaging
out of range is refused; an accepted one starts an integration and clears DONE; its end stores the code with DONE. -/
def Obligations.EnginesAndMonitorsAct : Prop :=
  (∀ (s : State) (t : Nat) (e : Fin 8) (i : Fin 4) (k : EngineFault), s.obj (Reg.engineState e) ≠ 1 →
    ∃ s', exec (.engineFailed t e k) s = .next s' ∧ s'.obj (Reg.engineState e) = 1
      ∧ s'.chState (4 * e + i) = chEngineFailed ∧ bit (s'.obj (Reg.channelState (4 * e + i))) 6 = true
      ∧ element 8 e ∈ s'.failedEls ∧ s.FirstEvent s' 0x300B e (match k with
        | .supply => 2
        | .dsp => 3))
  ∧ (∀ (s : State) (t : Nat) (e : Fin 8), s.obj (Reg.engineState e) ≠ 1 →
    2 ≤ ((s.engineSt e).losses.filter (fun a => decide ((s.tick t).now < a + 1000000000))).length →
    ∃ s', exec (.engineLinkTrainingLoss t e) s = .next s' ∧ s'.obj (Reg.engineState e) = 1 ∧ s.FirstEvent s' 0x300B e 1)
  ∧ (∀ (s : State) (t : Nat) (e : Fin 8),
    ((s.engineSt e).losses.filter (fun a => decide ((s.tick t).now < a + 1000000000))).length < 2 →
    ∃ s', exec (.engineLinkTrainingLoss t e) s = .next s' ∧ s.KeepsObjects s' []
      ∧ s' = { s with now := s'.now, engines := s'.engines })
  ∧ (∀ (s : State) (t : Nat) (v : BitVec 16), s.answersRequests = true → s.asleep = true →
    ∃ s', exec (.monitorSelect t v) s = .next s' ∧ s.RefusedWith s' stWrongState)
  ∧ (∀ (s : State) (t : Nat) (v : BitVec 16), s.answersRequests = true → s.asleep = false →
    (v.extractLsb 15 12 ≠ 0 → ∃ s', exec (.monitorSelect t v) s = .next s' ∧ s.RefusedWith s' stReservedNonzero)
    ∧ (v.extractLsb 15 12 = 0 → (8 < (v.extractLsb 11 8).toNat ∨ 4 < (v.extractLsb 7 5).toNat) →
      ∃ s', exec (.monitorSelect t v) s = .next s' ∧ s.RefusedWith s' stOutOfRange)
    ∧ (v.extractLsb 15 12 = 0 → (v.extractLsb 11 8).toNat ≤ 8 → (v.extractLsb 7 5).toNat ≤ 4 →
      ∃ s', exec (.monitorSelect t v) s = .next s' ∧ s'.answer = stOk ∧ s'.obj Reg.monitorSelect = v.toNat
        ∧ s'.monitor = some (s.tick t).now ∧ bit (s'.obj Reg.monitorValue) 31 = false
        ∧ s.KeepsObjects s' [Reg.monitorSelect, Reg.monitorValue]))
  ∧ (∀ (s : State) (t a : Nat) (code : BitVec 16), s.monitor = some a →
    ∃ s', exec (.monitorDone t code) s = .next s' ∧ s'.monitor = none ∧ bits (s'.obj Reg.monitorValue) 15 0 = code.toNat
      ∧ bits (s'.obj Reg.monitorValue) 19 16 = bits (s.obj Reg.monitorSelect) 11 8
      ∧ bit (s'.obj Reg.monitorValue) 31 = true ∧ s.KeepsObjects s' [Reg.monitorValue])
  ∧ (∀ (s : State) (t : Nat) (code : BitVec 16), s.monitor = none → exec (.monitorDone t code) s = .next (s.tick t))

/-- R340 to R343: a configured port in READY whose lanes all carry data comes UP with its event 10 µs after it was
last DOWN, and goes DOWN keeping its UP time; a lane's failure, by lost lock or a symbol error ratio above
LANE_DEGRADE_SER, is reported once and its element failed; the first failed working lane asks for the ready understudy
lane, without one the port goes DOWN, and a second one leaves it stuck; a request bridges the lane, and the copy is
rolled to once BRIDGING has come and while the understudy is READY, each with its lane message, and counted at both
ends. LANE_STATE of the lanes of a port that comes UP is log entry 125. R358, R363, R441: a profile or port
configuration that management takes has a value in range that no stream uses, and is refused by name otherwise, its
range before SLOT_BUSY, and SLOT_BUSY before R441's ELEMENT_FAILED of a port whose lanes, or whose understudy lane,
failed in rehearsal (log entry 9). A roll outlives UNDERSTUDY_EN = 0 and MODE 0, while a bridge not yet rolled to
ends; a rolled port is DOWN while its understudy lane is idle, and a lane's failure without a READY understudy takes
the port DOWN (log entry 113). Understudy lanes with both directions failed are log entry 64. -/
def Obligations.PortsLanesAndProfilesFollowTheirRules : Prop :=
  let counted := fun (s s' : State) (p j : Nat) => bits (s'.obj (Reg.portCounters p)) (64 * j + 63) (64 * j)
    = (bits (s.obj (Reg.portCounters p)) (64 * j + 63) (64 * j) + 1) % 2 ^ 64
  (∀ (s : State) (t : Nat) (p : Fin 16),
    ((s.port p).up = false → (s.port p).stuck = false → (s.port p).lanesGood = true → s.portMode p ≠ 0 → s.modState = modReady →
      ((s.port p).overUnderstudy = false ∨ s.laneOn p = true) → s.rehearsalLaneFailed p false = false → (s.port p).badAt + 10000 ≤ (s.tick t).now →
      ∃ s', exec (.portUp t p) s = .next s' ∧ (s'.port p).up = true ∧ (s'.port p).since = s'.now
        ∧ s.FirstEvent s' 0x2002 p 0 ∧ bit (s'.obj (Reg.portState p)) 0 = true
        ∧ (∀ i < 8, bit (s.port p).failedRx i = false → s'.obj (Reg.laneState (9 * p.val + i)) = 1 + 16 * i)
        ∧ s.KeepsObjects s' ([Reg.portState p, Reg.eventWriteSeq] ++ (List.range 8).map (fun i => Reg.laneState (9 * p.val + i))))
    ∧ ((s.port p).up = true ∨ (s.port p).stuck = true ∨ (s.port p).lanesGood = false ∨ s.portMode p = 0 ∨ s.modState ≠ modReady
        ∨ (s.port p).overUnderstudy = true ∧ s.laneOn p = false ∨ s.rehearsalLaneFailed p false = true ∨ (s.tick t).now < (s.port p).badAt + 10000 → exec (.portUp t p) s = .next (s.tick t)))
  ∧ (∀ (s : State) (t : Nat) (p : Fin 16) (lf rf : Bool), s.portDriven p = false → exec (.portDown t p lf rf) s = .next (s.tick t))
  ∧ (∀ (s : State) (t : Nat) (p : Fin 16) (lf rf : Bool), s.portDriven p = true →
    ∃ s', exec (.portDown t p lf rf) s = .next s' ∧ (s'.port p).up = false ∧ (s'.port p).localFault = lf
      ∧ (s'.port p).remoteFault = rf ∧ (s'.port p).upBefore = (s.tick t).upTime p ∧ (s'.port p).badAt = s'.now
      ∧ ((s.port p).up = true → s.ringSt.divs.length ≤ 4000 → s.FirstEvent s' 0x2001 p 0) ∧ bit (s'.obj (Reg.portState p)) 0 = false)
  ∧ (∀ (s : State) (t code : Nat) (l : Fin 144) (c : LaneFault),
    let p := l.val / 9
    let i := l.val % 9
    ((c = .lockLost ∧ code = 1) ∨ ∃ n, c = .ratio n ∧ s.obj Reg.laneDegradeSer < n ∧ code = 2) →
    bit (s.port p).failedRx i = false → s.ringSt.divs.length ≤ 4000 →
    ∃ s', exec (.laneFailed t l c) s = .next s'
      ∧ s.FirstEvent s' 0x2003 l code ∧ element 1 l ∈ s'.failedEls ∧ s'.mem = s.mem
      ∧ (i < 8 → s'.obj (Reg.laneState l) = 3 + 16 * i)
      ∧ (i < 8 → (s.port p).failedRx = 0 → (s.port p).tx.bridged = none →
        (s.laneOn p = true → (s.port p).rx.ready = true → (s'.port p).rx.asked = some i ∧ Output.lane p 4 i ∈ s'.out
          ∧ (s'.port p).up = (decide (code = 2) && (s.port p).up))
        ∧ (s.laneOn p = false ∨ (s.port p).rx.ready = false → (s'.port p).up = false))
      ∧ (i < 8 → (s.port p).failedRx ≠ 0 ∨ (s.port p).tx.bridged ≠ none → (s'.port p).stuck = true ∧ (s'.port p).up = false)
      ∧ (i = 8 → (s.port p).rx.rolled = none → (s'.port p).rx.ready = false ∧ (s'.port p).rx.bridged = none
        ∧ ((s.port p).failedRx ≠ 0 → (s'.port p).up = false))
      ∧ (i = 8 → (s.port p).rx.rolled ≠ none → (s'.port p).stuck = true ∧ (s'.port p).up = false))
  ∧ (∀ (s : State) (t : Nat) (l : Fin 144) (c : LaneFault),
    (∃ n, c = .ratio n ∧ n ≤ s.obj Reg.laneDegradeSer) ∨ bit (s.port (l.val / 9)).failedRx (l.val % 9) = true →
    exec (.laneFailed t l c) s = .next (s.tick t))
  ∧ (∀ (s : State) (t : Nat) (p : Fin 16) (i : BitVec 3),
    (s.laneOn p = true → (s.port p).rx.rolled = none → (s.port p).tx.bridged = none →
      ∃ s', exec (.laneMessageRx t p 4#4 i) s = .next s' ∧ (s'.port p).tx.bridged = some i.toNat
        ∧ Output.lane p 5 i.toNat ∈ s'.out)
    ∧ (s.laneOn p = true → (s.port p).rx.rolled = none → (s.port p).tx.bridged = some i.toNat → (s.port p).tx.rolled = none →
      ∃ s', exec (.laneMessageRx t p 6#4 i) s = .next s' ∧ (s'.port p).tx.rolled = some i.toNat
        ∧ (s'.port p).up = (s.port p).up ∧ counted s s' p pcRolls ∧ s'.mem = s.mem)
    ∧ (s.laneOn p = true → (s.port p).rx.rolled = none →
      ((s.port p).tx.bridged ≠ some i.toNat ∨ (s.port p).tx.rolled ≠ none) →
      ∃ s', exec (.laneMessageRx t p 6#4 i) s = .next s' ∧ (s'.port p).tx = (s.port p).tx
        ∧ (s'.port p).up = (s.port p).up ∧ s.KeepsObjects s' [Reg.laneState (9 * p.val + 8)] ∧ s'.mem = s.mem)
    ∧ (s.laneOn p = true → (s.port p).rx.rolled = none → (s.port p).rx.asked = some i.toNat →
      ∃ s', exec (.laneMessageRx t p 5#4 i) s = .next s' ∧ (s'.port p).rx.bridged = some i.toNat)
    ∧ (∀ st h, s.laneOn p = true → (s.port p).rx.rolled = none → (s.port p).tx.bridged = none → (s.port p).rx.ready = false →
      (s.port p).rx.heard = some h → (s.tick t).now ≤ (s.port p).rx.last + 100 → h + 1000000 ≤ (s.tick t).now →
      ∃ s', exec (.laneMessageRx t p st i) s = .next s' ∧ (s'.port p).rx.ready = true ∧ Output.lane p 2 0 ∈ s'.out)
    ∧ (∀ st, s.laneOn p = false → exec (.laneMessageRx t p st i) s = .next (s.tick t)))
  ∧ (∀ (s : State) (t i : Nat) (p : Fin 16), (s.port p).rx.asked = some i →
    ((s.port p).rx.rolled = none → (s.port p).stuck = false → (s.port p).rx.bridged = some i → (s.port p).rx.ready = true →
      s.laneOn p = true →
      ∃ s', exec (.laneRolled t p) s = .next s' ∧ (s'.port p).rx.rolled = some i ∧ (s'.port p).badAt = s'.now
        ∧ s.FirstEvent s' 0x2004 (9 * p.val + i) i ∧ Output.lane p 6 i ∈ s'.out ∧ counted s s' p pcRolls)
    ∧ ((s.port p).stuck = true ∨ (s.port p).rx.bridged ≠ some i ∨ (s.port p).rx.ready = false ∨ (s.port p).rx.rolled ≠ none
        ∨ s.laneOn p = false → exec (.laneRolled t p) s = .next (s.tick t)))
  ∧ (∀ (s : State) (t : Nat) (k : Fin 64) (v : Word64), s.answersRequests = true → k.val ≠ 0 → bits v.toNat 63 53 = 0 →
    let good := 1 ≤ bits v.toNat 31 0 ∧ bits v.toNat 31 0 ≤ 49652267 ∧ 1 ≤ bits v.toNat 47 32
      ∧ 1 ≤ bits v.toNat 52 48 ∧ bits v.toNat 52 48 ≤ 16
    (good → (s.hostEntries [slotArmed, slotActive]).any (fun e => eShaper e == k.val) = false →
      ∃ s', exec (.shaperProfileWrite t k v) s = .next s' ∧ s'.answer = stOk ∧ s'.obj (Reg.shaperProfile k) = v.toNat
        ∧ s.KeepsObjects s' [Reg.shaperProfile k] ∧ s'.mem = s.mem)
    ∧ (¬ good → ∃ s', exec (.shaperProfileWrite t k v) s = .next s' ∧ s.RefusedWith s' stOutOfRange)
    ∧ (good → (s.hostEntries [slotArmed, slotActive]).any (fun e => eShaper e == k.val) = true →
      ∃ s', exec (.shaperProfileWrite t k v) s = .next s' ∧ s.RefusedWith s' stSlotBusy))
  ∧ (∀ (s : State) (t : Nat) (k : Fin 64) (v : BitVec 128), s.answersRequests = true → k.val ≠ 0 → bits v.toNat 127 97 = 0 →
    let good := 1 ≤ bits v.toNat 31 0 ∧ bits v.toNat 31 0 ≤ bits v.toNat 63 32 ∧ 1 ≤ bits v.toNat 79 64
      ∧ 1 ≤ bits v.toNat 95 80
    (good → (s.hostEntries [slotArmed, slotActive]).any (fun e => eMeter e == k.val) = false →
      ∃ s', exec (.meterProfileWrite t k v) s = .next s' ∧ s'.answer = stOk ∧ s'.obj (Reg.meterProfile k) = v.toNat
        ∧ s.KeepsObjects s' [Reg.meterProfile k] ∧ s'.mem = s.mem)
    ∧ (¬ good → ∃ s', exec (.meterProfileWrite t k v) s = .next s' ∧ s.RefusedWith s' stInconsistent)
    ∧ (good → (s.hostEntries [slotArmed, slotActive]).any (fun e => eMeter e == k.val) = true →
      ∃ s', exec (.meterProfileWrite t k v) s = .next s' ∧ s.RefusedWith s' stSlotBusy))
  ∧ (∀ (s : State) (t : Nat) (p : Fin 16) (v : Word32), s.answersRequests = true → bits v.toNat 31 4 = 0 →
    let busy := (s.hostEntries [slotSealed, slotArmed, slotActive]).any (fun e => ePort e == p.val || eAltPort e == p.val)
    let failed := (bits v.toNat 1 0 ≠ 0 ∧ s.rehearsalLaneFailed p false = true) ∨ (bit v.toNat 2 = true ∧ s.rehearsalLaneFailed p true = true)
    (bits v.toNat 1 0 ≠ 3 → busy = false → ¬ failed →
      ∃ s', exec (.portConfigWrite t p v) s = .next s' ∧ s'.answer = stOk ∧ s'.obj (Reg.portConfig p) = v.toNat
        ∧ (bits v.toNat 1 0 ≠ s.portMode p → (s'.port p).up = false)
        ∧ (bits v.toNat 1 0 = s.portMode p →
            (bit v.toNat 2 = true ∨ bit v.toNat 2 = s.understudyEn p ∨ (s.port p).overUnderstudy = false) →
            (s'.port p).up = (s.port p).up)
        ∧ (s'.port p).rx.rolled = (s.port p).rx.rolled ∧ (s'.port p).tx.rolled = (s.port p).tx.rolled
        ∧ (s.laneOn p = true → (bit v.toNat 2 = false ∨ bits v.toNat 1 0 = 0) →
            ((s.port p).rx.rolled = none → (s'.port p).rx = {}) ∧ ((s.port p).tx.rolled = none → (s'.port p).tx = {})
            ∧ ((s.port p).overUnderstudy = true → (s'.port p).up = false))
        ∧ s'.mem = s.mem)
    ∧ (bits v.toNat 1 0 = 3 → ∃ s', exec (.portConfigWrite t p v) s = .next s' ∧ s.RefusedWith s' stOutOfRange)
    ∧ (bits v.toNat 1 0 ≠ 3 → busy = true → ∃ s', exec (.portConfigWrite t p v) s = .next s' ∧ s.RefusedWith s' stSlotBusy)
    ∧ (bits v.toNat 1 0 ≠ 3 → busy = false → failed →
      ∃ s', exec (.portConfigWrite t p v) s = .next s' ∧ s.RefusedWith s' stElementFailed))

/-- R339, R345 to R353, R356: a frame on an UP port is counted; a foreign one is counted as such; a DATA parcel of the
active sheet that is the next of its stream is delivered and moves the stream on, and one with a later PSN makes a GAP
due; due feedback leaves and is due no more; a missing PSN is asked for again and an unacknowledged record is sent
again after HOST_RETRY_US of the port's UP time, HOST_RETRY_BUDGET times before the stream fails; a stream moves to
its other port; a port sends ring parcels first and keeps a record of each new DATA parcel; a recorded one goes again
with its header, RESEND set, from bytes read from its source anew, and fails its stream when they are poisoned or have
changed; a DOWN port sends and takes nothing. Feedback and the retry timer are log entry 63, counters log entry 62. -/
def Obligations.HostParcelsAreTakenAndSent : Prop :=
  let counted := fun (s s' : State) (p j : Nat) => bits (s'.obj (Reg.portCounters p)) (64 * j + 63) (64 * j)
    = (bits (s.obj (Reg.portCounters p)) (64 * j + 63) (64 * j) + 1) % 2 ^ 64
  let sent := fun (s s' : State) (p : Nat) => ∃ f, s'.out = s.out ++ [.host p f]
  let field := fun (b : List Byte) (i n : Nat) => ofBytesBE (slice b i n)
  let data := fun (s : State) (p : Nat) (f b : List Byte) (n : Nat) =>
    s.active = some n ∧ (s.port p).up = true ∧ s.classify p f = .parcel b ∧ field b 0 1 = 0x41 ∧ field b 1 1 = 3
      ∧ checkOk b = true ∧ field b 2 1 < 2 ∧ field b 46 16 = 0 ∧ field b 26 4 < 2 ^ 22 ∧ field b 20 2 ≤ 4096
      ∧ field b 4 4 < 16384 ∧ s.entryOnPort n (field b 4 4) p = true
      ∧ s.tagsActive (field b 22 2) (field b 24 2) = true ∧ eKind (s.stream (field b 4 4)).entry = kindHost
      ∧ (s.stream (field b 4 4)).failed = none
  (∀ (s : State) (t : Nat) (p : Fin 16) (f : List Byte),
    ((s.port p).up = true → ∃ s', exec (.hostParcelRx t p f) s = .next s' ∧ counted s s' p pcFramesIn)
    ∧ ((s.port p).up = false → exec (.hostParcelRx t p f) s = .next (s.tick t))
    ∧ ((s.port p).up = true → s.classify p f = .foreign →
      ∃ s', exec (.foreignFrame t p f) s = .next s' ∧ counted s s' p pcForeign ∧ counted s s' p pcFramesIn
        ∧ s.KeepsObjects s' [Reg.portCounters p] ∧ s' = { s with now := s'.now, objs := s'.objs })
    ∧ ((s.port p).up = false ∨ s.classify p f ≠ .foreign → exec (.foreignFrame t p f) s = .next (s.tick t)))
  ∧ (∀ (s : State) (t n : Nat) (p : Fin 16) (f b : List Byte), data s p f b n →
    let i := field b 4 4
    (field b 8 4 = (s.stream i).rxPsn → field b 12 8 = (s.stream i).rxOffset → eMeter (s.stream i).entry = 0 →
      ∃ s', exec (.hostParcelRx t p f) s = .next s' ∧ (s'.stream i).parcelsIn = (s.stream i).parcelsIn + 1
        ∧ (s'.stream i).rxOffset = ((s.stream i).rxOffset + field b 20 2) % 2 ^ 64)
    ∧ (seqAfter (field b 8 4) (s.stream i).rxPsn = true → seqAfter (s.stream i).rxPsn (field b 8 4) = false →
      ∃ s', exec (.hostParcelRx t p f) s = .next s' ∧ (s'.stream i).gapDue = true ∧ counted s s' p pcGaps
        ∧ (s'.stream i).parcelsIn = (s.stream i).parcelsIn ∧ s'.mem = s.mem))
  ∧ (∀ (s : State) (t i : Nat) (p : Fin 16), (s.port p).up = true → s.dueStream p = some i →
    ∃ s', exec (.feedbackSend t p) s = .next s' ∧ sent s s' p ∧ (s'.stream i).due = false
      ∧ (s'.stream i).creditSent = (s.stream i).rxLimit ∧ (s'.stream i).ackSent = (s.stream i).rxPsn ∧ s'.mem = s.mem)
  ∧ (∀ (s : State) (t : Nat) (p : Fin 16), (s.port p).up = false ∨ s.dueStream p = none →
    exec (.feedbackSend t p) s = .next (s.tick t))
  ∧ (∀ (s : State) (t a : Nat) (i : BitVec 14),
    let x := s.stream i.toNat
    eKind x.entry = kindHost → x.failed = none →
    (x.gapAt = some a → x.gapPsn = x.rxPsn → x.gapDue = false → a + 1000 * s.obj Reg.hostRetryUs ≤ (s.tick t).upTime x.port →
      ∃ s', exec (.gapResendExpiry t i) s = .next s' ∧ (s'.stream i.toNat).gapDue = true ∧ s'.mem = s.mem)
    ∧ (x.gapAt = some a → (s.tick t).upTime x.port < a + 1000 * s.obj Reg.hostRetryUs →
      exec (.gapResendExpiry t i) s = .next (s.tick t))
    ∧ (x.recs ≠ [] → x.lastTx + 1000 * s.obj Reg.hostRetryUs ≤ (s.tick t).upTime x.port →
      x.attempts < s.obj Reg.hostRetryBudget →
      ∃ s', exec (.hostRetryExpiry t i) s = .next s' ∧ (s'.stream i.toNat).attempts = x.attempts + 1
        ∧ (∀ r ∈ x.recs, seqAfter x.acked r.par.psn = false → r.par.psn ∈ (s'.stream i.toNat).resendQ) ∧ s'.mem = s.mem)
    ∧ (x.recs ≠ [] → x.lastTx + 1000 * s.obj Reg.hostRetryUs ≤ (s.tick t).upTime x.port →
      s.obj Reg.hostRetryBudget ≤ x.attempts →
      ∃ s', exec (.hostRetryExpiry t i) s = .next s' ∧ (s'.stream i.toNat).failed = some hostBudget
        ∧ s.FirstEvent s' 0x5010 i.toNat hostBudget)
    ∧ ((s.tick t).upTime x.port < x.lastTx + 1000 * s.obj Reg.hostRetryUs →
      exec (.hostRetryExpiry t i) s = .next (s.tick t))
    ∧ (x.port = ePort x.entry → eAltPort x.entry ≠ x.port → s.obj Reg.portFailoverMs ≠ 0 → (s.port x.port).up = false →
      (s.port x.port).since + 1000000 * s.obj Reg.portFailoverMs ≤ (s.tick t).now → (s.port (eAltPort x.entry)).up = true →
      ∃ s', exec (.portFailover t i) s = .next s' ∧ (s'.stream i.toNat).port = eAltPort x.entry
        ∧ (s'.stream i.toNat).resendQ = x.recs.map (fun r => r.par.psn)
        ∧ s.FirstEvent s' 0x2005 i.toNat (eAltPort x.entry) ∧ counted s s' x.port pcFailovers)
    ∧ ((s.port x.port).up = true → exec (.portFailover t i) s = .next (s.tick t)))
  ∧ (∀ (s : State) (t : Nat) (p : Fin 16),
    ((s.port p).up = false → exec (.hostFrameSend t p) s = .next (s.tick t))
    ∧ (∀ q r, (s.port p).up = true → (s.port p).ringQ = q :: r →
      ∃ s', exec (.hostFrameSend t p) s = .next s' ∧ sent s s' p ∧ (s'.port p).ringQ = r)
    ∧ (∀ i turn par rest, (s.port p).up = true → (s.port p).ringQ = [] → (s.hostOn p).find? (s.tick t).mustControl = none →
      (s.tick t).resendStream p = none → (s.tick t).nextStream p = some (i, turn) →
      (s.stream i).outQ = par :: rest →
      ∃ s' h, exec (.hostFrameSend t p) s = .next s' ∧ sent s s' p ∧ (s'.stream i).outQ = rest
        ∧ (s'.stream i).recs = (s.stream i).recs ++ [{ par := par, head := h, crc := crcOf crc32 par.data }]
        ∧ ((s.hostOn p).all (fun j => !(s.stream j).due) = true →
          h = parcelHeader 0x41 false (eFarStream (s.stream i).entry) par.psn par.offset par.data.length par.jobTag par.revision
            par.token none)
        ∧ (s'.stream i).parcelsOut = (s.stream i).parcelsOut + 1)
    ∧ (∀ i q rest r, (s.port p).up = true → (s.port p).ringQ = [] → (s.hostOn p).find? (s.tick t).mustControl = none →
      (s.tick t).resendStream p = some i → eKind (s.stream i).entry = kindHost → (s.stream i).resendQ = q :: rest →
      (s.stream i).recs.find? (fun x => x.par.psn == q) = some r → s.held (r.par.items.map TxItem.area) = false →
      let poisoned := r.par.items.any (fun y => s.isPoisoned y.area.1 y.area.2)
      let bytes := r.par.items.flatMap s.itemBytes
      (poisoned = false → crcOf crc32 bytes = r.crc →
        ∃ s', exec (.hostFrameSend t p) s = .next s' ∧ (s'.stream i).resendQ = rest ∧ counted s s' p pcResent
          ∧ s'.out = s.out ++ [.host p (s.frame p i (peerAddr (s.stream i).entry)
              (resendHead r.head ++ bytes ++ List.replicate (4096 - bytes.length) 0#8))])
      ∧ (poisoned = true → ∃ s', exec (.hostFrameSend t p) s = .next s' ∧ (s'.stream i).failed = some hostPoison ∧ s'.out = s.out)
      ∧ (poisoned = false → crcOf crc32 bytes ≠ r.crc →
        ∃ s', exec (.hostFrameSend t p) s = .next s' ∧ (s'.stream i).failed = some hostSource ∧ s'.out = s.out)))

/-- R359 to R362, R246: RING_CONFIG, where management takes the write, takes a consistent value while no sheet is
sealed, armed or active (INCONSISTENT before SLOT_BUSY is the model's order, log entry 9); a hello goes out on each UP
ring port every millisecond and no sooner; the third good hello in a row brings a ring link into service, a run that 3
ms of silence ends (log entry 150, the model's reading), and 3 ms without one, or the port's DOWN, takes it out; a
request is granted for the first understudy that can carry the channel, and refused otherwise; a grant that was asked
for engages the diversion; a refusal of HP15's neighbour asks HP14's; a stop ends the diversion, which an owner's
started one outlives until its channel has left the member set; the blocks of another owner wait for the carrying
understudy, and what comes over a link that is not in service is nothing. Ring corners are log entry 65. -/
def Obligations.RingLinksCarryDiversions : Prop :=
  (∀ (s : State) (t : Nat) (v : Byte), s.answersRequests = true → bits v.toNat 7 5 = 0 →
    let bad := bit v.toNat 0 && (s.portMode 14 != 2 || s.portMode 15 != 2 || bits v.toNat 4 3 == 0
      || decide (bits v.toNat 4 3 + 1 ≤ bits v.toNat 2 1))
    (bad = false → s.anySlot [slotSealed, slotArmed, slotActive] = false →
      ∃ s', exec (.ringConfigWrite t v) s = .next s' ∧ s'.answer = stOk ∧ s'.obj Reg.ringConfig = v.toNat
        ∧ (v.toNat ≠ s.obj Reg.ringConfig → (s'.port 14).ringUp = false ∧ (s'.port 15).ringUp = false) ∧ s'.mem = s.mem)
    ∧ (bad = true → ∃ s', exec (.ringConfigWrite t v) s = .next s' ∧ s.RefusedWith s' stInconsistent)
    ∧ (bad = false → s.anySlot [slotSealed, slotArmed, slotActive] = true →
      ∃ s', exec (.ringConfigWrite t v) s = .next s' ∧ s.RefusedWith s' stSlotBusy))
  ∧ (∀ (s : State) (t : Nat), s.ringEnabled = true → (∀ a, s.ringSt.helloTx = some a → a + 1000000 ≤ (s.tick t).now) →
    ∃ s', exec (.ringHelloTx t) s = .next s' ∧ s'.ringSt = { s.ringSt with helloTx := some s'.now }
      ∧ s' = { s with now := s'.now, ports := s'.ports, ringSt := s'.ringSt }
      ∧ (∀ p, p = 14 ∨ p = 15 →
        (s'.port p).ringQ.length = (s.port p).ringQ.length + b2n (s.port p).up))
  ∧ (∀ (s : State) (t : Nat), (s.ringEnabled = false ∨ ∃ a, s.ringSt.helloTx = some a ∧ (s.tick t).now < a + 1000000) →
    exec (.ringHelloTx t) s = .next (s.tick t))
  ∧ (∀ (s : State) (t : Nat) (p : Fin 2) (v : Byte),
    let n := 14 + p.val
    let recent := ∃ a, (s.port n).helloAt = some a ∧ (s.tick t).now < a + 3000000
    (s.ringEnabled = true → (s.port n).up = true → s.helloOk n v.toNat = true → (s.port n).ringUp = false → (s.port n).hellos = 2 →
      recent →
      ∃ s', exec (.ringHelloRx t p v) s = .next s' ∧ (s'.port n).ringUp = true ∧ s.FirstEvent s' 0x2007 n 0
        ∧ s.KeepsObjects s' [Reg.eventWriteSeq])
    ∧ (s.ringEnabled = true → (s.port n).up = true → s.helloOk n v.toNat = true → ¬ recent →
      exec (.ringHelloRx t p v) s = .next ((s.tick t).setPort n { s.port n with hellos := 1, helloAt := some (s.tick t).now }))
    ∧ (s.ringEnabled = true → (s.port n).up = true → s.helloOk n v.toNat = false →
      exec (.ringHelloRx t p v) s = .next ((s.tick t).setPort n { s.port n with hellos := 0 }))
    ∧ (s.ringEnabled = false ∨ (s.port n).up = false → exec (.ringHelloRx t p v) s = .next (s.tick t)))
  ∧ (∀ (s : State) (t : Nat) (p : Fin 2),
    let n := 14 + p.val
    ((s.port n).ringUp = true → ((s.port n).up = false ∨ (s.port n).helloAt.getD 0 + 3000000 ≤ (s.tick t).now) →
      ∃ s', exec (.ringLinkDown t p) s = .next s' ∧ (s'.port n).ringUp = false
        ∧ (s.ringSt.divs.length ≤ 4000 → s.FirstEvent s' 0x2008 n 0))
    ∧ ((s.port n).ringUp = false → exec (.ringLinkDown t p) s = .next (s.tick t)))
  ∧ (∀ (s : State) (t : Nat) (p : Fin 2) (o : Fin 4) (wc : Fin 32) (rate : BitVec 2) (f : Fin 8),
    let n := 14 + p.val
    (∀ u, s.ringUp n = true → s.divertUnderstudy n wc rate.toNat = some u →
      ∃ s', exec (.divertRequest t p o wc rate f) s = .next s'
        ∧ s'.ringSt.divs = s.ringSt.divs ++ [{ owner := false, wc := wc, port := n, under := u, pos := o, site := f }]
        ∧ tget none s'.foreign u = some { owner := o, wc := wc }
        ∧ (s'.port n).ringQ.length = (s.port n).ringQ.length + 1)
    ∧ (s.ringUp n = true → s.divertUnderstudy n wc rate.toNat = none →
      ∃ s', exec (.divertRequest t p o wc rate f) s = .next s' ∧ s' = { s with now := s'.now, ports := s'.ports }
        ∧ (s'.port n).ringQ.length = (s.port n).ringQ.length + 1)
    ∧ (s.ringUp n = false → exec (.divertRequest t p o wc rate f) s = .next (s.tick t)))
  ∧ (∀ (s : State) (t : Nat) (p : Fin 2) (wc u : Fin 32),
    let n := 14 + p.val
    let plan := (s.route (wc.val / 8)).planned
    ((wc.val, n) ∈ s.ringSt.asked →
      ∃ s', exec (.divertGrant t p wc u) s = .next s'
        ∧ s'.ringSt.divs = s.ringSt.divs ++ [{ owner := true, wc := wc, port := n, under := u, pos := s.ringPos, site := s.chanSite wc }]
        ∧ (wc.val, n) ∉ s'.ringSt.asked
        ∧ (s'.route (wc.val / 8)).queue = (s.route (wc.val / 8)).queue
          ++ [{ kind := 3, field := 0, value := setBit plan.1 (wc.val % 8) true, channel := wc }])
    ∧ ((wc.val, n) ∉ s.ringSt.asked → exec (.divertGrant t p wc u) s = .next (s.tick t))
    ∧ ((wc.val, n) ∈ s.ringSt.asked → n = 14 →
      ∃ s', exec (.divertRefuse t p wc) s = .next s' ∧ (wc.val, n) ∉ s'.ringSt.asked
        ∧ s' = { s with now := s'.now, ringSt := s'.ringSt })
    ∧ ((wc.val, n) ∈ s.ringSt.asked → n = 15 → s.ringUp 14 = true →
      ∃ s', exec (.divertRefuse t p wc) s = .next s' ∧ (wc.val, 14) ∈ s'.ringSt.asked ∧ (wc.val, 15) ∉ s'.ringSt.asked
        ∧ (s'.port 14).ringQ.length = (s.port 14).ringQ.length + 1)
    ∧ (s.ownDiversion wc = none → s.ringSt.asked.any (fun q => q.1 == wc.val) = false → s.ringUp 15 = true →
      ∃ s', exec (.divertNotice t p wc) s = .next s' ∧ (wc.val, 15) ∈ s'.ringSt.asked
        ∧ (s'.port 15).ringQ.length = (s.port 15).ringQ.length + 1)
    ∧ (s.ringSt.asked.any (fun q => q.1 == wc.val) = true →
      exec (.divertNotice t p wc) s = .next ((s.tick t).noteRxDiv wc true)))
  ∧ (∀ (s : State) (t : Nat) (p : Fin 2) (o : Fin 4) (wc : Fin 32),
    (∀ d, s.ringSt.divs.find? (fun d => d.port == 14 + p.val && d.wc == wc.val && d.pos == o.val) = some d →
      (d.ending = false → ∃ s', exec (.divertStop t p o wc) s = .next s'
        ∧ s'.ringSt.divs = s.ringSt.divs.filter (fun e => !(e.owner == d.owner && e.wc == d.wc && e.pos == d.pos))
          ++ (if d.owner && d.started && bit (s.route (d.wc / 8)).txMembers (d.wc % 8) then [{ d with ending := true, buf := [] }] else []))
      ∧ (d.ending = true → exec (.divertStop t p o wc) s = .next (s.tick t)))
    ∧ (s.ringSt.divs.find? (fun d => d.port == 14 + p.val && d.wc == wc.val && d.pos == o.val) = none →
      exec (.divertStop t p o wc) s = .next (s.tick t)))
  ∧ (∀ (s : State) (t : Nat) (p : Fin 2) (h : RingBlocksHeader) (b : List Byte),
    (s.ringUp (14 + p.val) = true → h.owner.val = s.ringPos →
      ∃ s', exec (.ringBlocksRx t p h b) s = .next s' ∧ tget none s'.ringSt.rxPort h.wc.val = some (14 + p.val))
    ∧ (∀ d x, s.ringUp (14 + p.val) = true → h.owner.val ≠ s.ringPos →
      s.ringSt.divs.find? (fun d => !d.owner && d.pos == h.owner.val && d.wc == h.wc.val) = some d →
      tget none s.foreign d.under = some x →
      ∃ s' y, exec (.ringBlocksRx t p h b) s = .next s' ∧ tget none s'.foreign d.under = some y
        ∧ y.blocks.length = max x.blocks.length
          (min 4096 (x.blocks.length + (chunks (8 * slotsOf h.rate.toNat) (min h.count 16) b).length))
        ∧ s' = { s with now := s'.now, foreign := s'.foreign })
    ∧ (s.ringUp (14 + p.val) = false → exec (.ringBlocksRx t p h b) s = .next (s.tick t)))

/-- R366, R367, R369, R376 to R378, R380: a servo start that management takes leaves the time unit FREE at the time it
had, unless a sheet is armed or active or a page switch is not idle; in an Intermission it is stored and takes effect
at exit (R451); a 1PPS edge of the kind that REF_CONFIG[4] chooses counts TOD_NEXT_PPS on, and the frequency follows a
10 MHz input that is enabled and present; a FREE unit goes to ACQUIRING with its first estimate; one second later,
unless estimates have stopped, it takes the one step by the median and goes to SETTLING; 10 s within ±20 ns lock it,
unless they have (from when on they have is log entry 131); 100 ms without a usable estimate in LOCKED or in LINE
mode, or JUMP_HOLDOVER_S of refused ones, take it to HOLDOVER; every change of state has its event, and nothing
happens before. The servo's answer is an operand (log entry 7); log entries 80 to 82 and 116 are the model's
choices. -/
def Obligations.TheTimeUnitGoesThroughItsStates : Prop :=
  let started := fun (s s' : State) => s'.timeState = tmFree ∧ s'.net = ({ s with now := s'.now } : State).net ∧ s'.tm.ratePpb = 0
    ∧ s'.tm.acqSamples = [] ∧ s'.mem = s.mem
  let kept := fun (s : State) (t o v : Nat) => { s.tick t with answer := stOk, boot := { s.boot with atExit := [(o, v)] } }
  let gap := fun (s : State) => if s.timeMode = modeReference then 1100000000 else 100000000
  (∀ (s : State) (t : Nat) (v : Byte), s.answersRequests = true →
    (v.toNat ≤ 2 → s.servoBusy = false → s.asleep = false →
      ∃ s', exec (.timeModeWrite t v) s = .next s' ∧ s'.answer = stOk ∧ s'.timeMode = v.toNat ∧ started s s'
        ∧ s.KeepsObjects s' [Reg.timeMode, Reg.timeState, Reg.timeStatus, Reg.eventWriteSeq])
    ∧ (v.toNat ≤ 2 → s.servoBusy = false → s.asleep = true → s.boot.atExit = [] → exec (.timeModeWrite t v) s = .next (kept s t Reg.timeMode v.toNat))
    ∧ (v.toNat ≤ 2 → s.servoBusy = true → s.asleep = false →
      ∃ s', exec (.timeModeWrite t v) s = .next s' ∧ s.RefusedWith s' stSlotBusy)
    ∧ (2 < v.toNat → ∃ s', exec (.timeModeWrite t v) s = .next s' ∧ s.RefusedWith s' stOutOfRange))
  ∧ (∀ (s : State) (t : Nat), s.answersRequests = true →
    (s.servoBusy = false → s.asleep = false →
      ∃ s', exec (.servoRestart t 1#8) s = .next s' ∧ s'.answer = stOk ∧ started s s'
        ∧ (s.timeState ≠ tmFree → s.FirstEvent s' 0x7001 tmFree s.timeState)
        ∧ s.KeepsObjects s' [Reg.timeState, Reg.timeStatus, Reg.eventWriteSeq])
    ∧ (s.servoBusy = false → s.asleep = true → s.boot.atExit = [] → exec (.servoRestart t 1#8) s = .next (kept s t Reg.servoRestart 1))
    ∧ (s.servoBusy = true → s.asleep = false → ∃ s', exec (.servoRestart t 1#8) s = .next s' ∧ s.RefusedWith s' stSlotBusy))
  ∧ (∀ (s : State) (t : Nat) (e : Bool) (a : ServoAnswer),
    let edge := bit (s.obj Reg.refConfig) 4 = e
    let seconds := max 1 (ceilDiv ((s.tick t).now - s.tm.todAt) 1000000000)
    (edge → s.timeMode = modeReference → bit (s.obj Reg.refConfig) 0 = true → s.obj Reg.todNextPps ≠ 0 → s.tm.ppsAt = none →
      s.timeState = tmFree →
      ∃ s', exec (.ppsEdge t ⟨e, a⟩) s = .next s' ∧ s'.timeState = tmAcquiring ∧ s'.tm.ppsAt = some s'.now
        ∧ s'.obj Reg.todNextPps = (s.obj Reg.todNextPps + seconds) % 2 ^ 64 ∧ s'.tm.acqFrom = s'.now
        ∧ s'.tm.acqSamples.length = 1 ∧ bit (s'.obj Reg.timeStatus) 3 = false)
    ∧ (edge → s.timeMode ≠ modeReference → bit (s.obj Reg.refConfig) 0 = true → s.obj Reg.todNextPps ≠ 0 → s.tm.ppsAt = none →
      ∃ s', exec (.ppsEdge t ⟨e, a⟩) s = .next s' ∧ s'.obj Reg.todNextPps = (s.obj Reg.todNextPps + seconds) % 2 ^ 64
        ∧ bit (s'.obj Reg.timeStatus) 3 = false ∧ s.KeepsObjects s' [Reg.todNextPps, Reg.timeStatus]
        ∧ s' = { s with now := s'.now, objs := s'.objs, tm := { s.tm with ppsAt := some s'.now } })
    ∧ (s.timeMode = modeReference → bit (s.obj Reg.refConfig) 0 = false ∨ s.obj Reg.todNextPps = 0 →
      bit (s.obj Reg.refConfig) 1 = true → bit (s.obj Reg.timeStatus) 4 = false → a.tenMhz.natAbs ≤ 50000 →
      ∃ s', exec (.ppsEdge t ⟨e, a⟩) s = .next s' ∧ s'.tm.ratePpb = s.tm.ratePpb - s.tm.refPpb + a.tenMhz
        ∧ s'.tm.refPpb = a.tenMhz ∧ s.KeepsObjects s' [Reg.timeStatus])
    ∧ (bit (s.obj Reg.refConfig) 0 = false ∨ ¬ edge →
      s.timeMode ≠ modeReference ∨ bit (s.obj Reg.refConfig) 1 = false ∨ bit (s.obj Reg.timeStatus) 4 = true →
      exec (.ppsEdge t ⟨e, a⟩) s = .next (s.tick t)))
  ∧ (∀ (s : State) (t : Nat),
    let stopped := s.tm.usableAt + gap s ≤ (s.tick t).now
    (s.timeState = tmAcquiring → s.tm.acqSamples ≠ [] → s.tm.acqFrom + 1000000000 ≤ (s.tick t).now → ¬ stopped →
      ∃ s', exec (.timeStepped t) s = .next s' ∧ s'.timeState = tmSettling ∧ s'.tm.acqSamples = []
        ∧ s'.tm.anchorPs = s.tm.psAt (s.tick t).now - median s.tm.acqSamples ∧ s'.tm.anchorAt = (s.tick t).now)
    ∧ (s.timeState ≠ tmAcquiring ∨ (s.tick t).now < s.tm.acqFrom + 1000000000 ∨ stopped →
      exec (.timeStepped t) s = .next (s.tick t)))
  ∧ (∀ (s : State) (t a : Nat), s.tm.nearFrom = some a →
    let stopped := s.tm.usableAt + gap s ≤ (s.tick t).now
    (s.timeState = tmSettling → a + 10000000000 ≤ (s.tick t).now → ¬ stopped →
      ∃ s', exec (.timeLocked t) s = .next s' ∧ s'.timeState = tmLocked ∧ s.FirstEvent s' 0x7001 tmLocked tmSettling
        ∧ s.KeepsObjects s' [Reg.timeState, Reg.eventWriteSeq] ∧ s'.tm = s.tm)
    ∧ (s.timeState ≠ tmSettling ∨ (s.tick t).now < a + 10000000000 ∨ stopped →
      exec (.timeLocked t) s = .next (s.tick t)))
  ∧ (∀ (s : State) (t : Nat),
    let starved := (s.timeState = tmLocked ∨ s.timeMode = modeLine) ∧ s.tm.usableAt + 100000000 ≤ (s.tick t).now
    let refused := ∃ a, s.tm.refusedFrom = some a ∧ a + 1000000000 * s.obj Reg.jumpHoldoverS ≤ (s.tick t).now
    ((s.timeState = tmSettling ∨ s.timeState = tmLocked) → (starved ∨ refused) →
      ∃ s', exec (.holdoverEntry t) s = .next s' ∧ s'.timeState = tmHoldover ∧ s'.tm.ratePpb = s.tm.ratePpb
        ∧ s.FirstEvent s' 0x7001 tmHoldover s.timeState
        ∧ s'.obj Reg.holdoverEntries = (s.obj Reg.holdoverEntries + 1) % 2 ^ 64
        ∧ s.KeepsObjects s' [Reg.timeState, Reg.holdoverEntries, Reg.eventWriteSeq])
    ∧ ((s.timeState ≠ tmSettling ∧ s.timeState ≠ tmLocked) ∨ (¬ starved ∧ ¬ refused) →
      exec (.holdoverEntry t) s = .next (s.tick t)))

/-- R373, R374: the estimate of a site is the median of its routes', and what its channels gathered starts again;
without a source a LINE-mode unit shows it. A route that has departed for 10 s is reported and marked, and unmarked
after 10 s of agreement. R384: a site without evidence for TOUCH_HOLDOFF leaves the touch set. R400, R401: once every
whole second a score loses its share, rounded up, after a lane whose symbol error ratio was above a tenth of
LANE_DEGRADE_SER has scored 10 points (that they come before the decay is log entry 114, the model's choice). Rounding
is log entry 83; the touch set without a sheet is log entry 41. -/
def Obligations.EstimatesTouchAndScoresAct : Prop :=
  (∀ (s : State) (t : Nat) (a : ServoAnswer),
    ∃ s', exec (.timeEstimate t a) s = .next s'
      ∧ (∀ c : Fin 32, (s'.chan c).ttCount = 0 ∧ (s'.chan c).ttDiff = 0 ∧ (s'.chan c).ttSum = 0)
      ∧ (∀ f : Fin 8, (∀ g : Fin 8, g < f → s.routeEstimates g = []) → s.routeEstimates f ≠ [] →
        s'.obj (Reg.siteOffsetPs f) = toSigned 64 (median ((s.routeEstimates f).map (fun e => e.2.1))))
      ∧ ((∀ f : Fin 8, s.routeEstimates f = []) → s.timeMode = modeLine →
        bit (s'.obj Reg.timeStatus) 2 = true ∧ s.KeepsObjects s' [Reg.timeStatus]))
  ∧ (∀ (s : State) (t : Nat) (i : ReferenceInput) (gone : Bool),
    ∃ s', exec (.referenceInputAbsent t i gone) s = .next s'
      ∧ bit (s'.obj Reg.timeStatus) (match i with
        | .pps => 3
        | .tenMhz => 4) = gone
      ∧ s.KeepsObjects s' [Reg.timeStatus] ∧ s' = { s with now := s'.now, objs := s'.objs })
  ∧ (∀ (s : State) (t a : Nat) (f : Fin 8) (n : Fin 4),
    let flags := s.obj (Reg.routeDisagree f)
    (bit flags n = false → tget none s.tm.routeOff (4 * f.val + n.val) = some a → a + 10000000000 ≤ (s.tick t).now →
      ∃ s', exec (.routeTimeDisagree t f n) s = .next s' ∧ bit (s'.obj (Reg.routeDisagree f)) n = true
        ∧ s.FirstEvent s' 0x7004 (n.val + 256 * f.val) (s.obj (Reg.routeOffsetPs f n))
        ∧ s'.obj Reg.routeDisagreements = (s.obj Reg.routeDisagreements + 1) % 2 ^ 64 ∧ s'.mem = s.mem)
    ∧ (bit flags n = true → tget none s.tm.routeOn (4 * f.val + n.val) = some a → a + 10000000000 ≤ (s.tick t).now →
      ∃ s', exec (.routeTimeDisagree t f n) s = .next s' ∧ bit (s'.obj (Reg.routeDisagree f)) n = false
        ∧ s.KeepsObjects s' [Reg.routeDisagree f] ∧ s' = { s with now := s'.now, objs := s'.objs })
    ∧ (bit flags n = false → tget none s.tm.routeOff (4 * f.val + n.val) = none →
      exec (.routeTimeDisagree t f n) s = .next (s.tick t)))
  ∧ (∀ (s : State) (t n : Nat) (f : Fin 8), s.active = some n → bit s.site.lost f = true →
    bit s.site.outOfTouch f = false →
    (tget 0 s.site.evidenceAt f.val + 1000000 * s.touchHoldoff n f ≤ (s.tick t).now →
      ∃ s', exec (.touchHoldoffExpiry t f) s = .next s' ∧ bit s'.site.outOfTouch f = true
        ∧ (f.val ≠ hSite (s.hdr n) → bit s'.touchSet f = false)
        ∧ (f.val ≠ hSite (s.hdr n) → bit s.touchSet f = true → s.FirstEvent s' 0x8004 f 0) ∧ s'.mem = s.mem)
    ∧ ((s.tick t).now < tget 0 s.site.evidenceAt f.val + 1000000 * s.touchHoldoff n f →
      exec (.touchHoldoffExpiry t f) s = .next (s.tick t)))
  ∧ (∀ (s : State) (t : Nat), (s.tick t).net / 1000000000 = s.defects.lastDecay →
    exec (.healthDecayTick t) s = .next (s.tick t))
  ∧ (∀ (s : State) (t : Nat) (r : LaneRatio), (s.tick t).net / 1000000000 ≠ s.defects.lastDecay →
    s.defects.laneSer = [r] → s.obj Reg.laneDegradeSer < 10 * r.ser →
    let x := min (tget 0 s.scores (element 1 r.lane) + 10) 0xFFFFFFFF
    ∃ s', exec (.healthDecayTick t) s = .next s'
      ∧ tget 0 s'.scores (element 1 r.lane) = x - ceilDiv (x * s.obj Reg.healthDecay) 65536)
  ∧ (∀ (s : State) (t : Nat), (s.tick t).net / 1000000000 ≠ s.defects.lastDecay →
    s.defects.laneSer = [] →
    ∃ s', exec (.healthDecayTick t) s = .next s' ∧ s'.failedEls = s.failedEls ∧ s'.mem = s.mem
      ∧ s'.defects.lastDecay = (s.tick t).net / 1000000000
      ∧ s.KeepsObjects s' [Reg.eventWriteSeq]
      ∧ (∀ e x, (e, x) ∈ s.scores → (∀ y, (e, y) ∈ s.scores → y = x) →
        tget 0 s'.scores e = x - ceilDiv (x * s.obj Reg.healthDecay) 65536)
      ∧ (∀ e, (∀ x, (e, x) ∉ s.scores) → tget 0 s'.scores e = 0))

/-- R391: a write of STATE_STEP_SET, where management takes it, sets STATE_STEP to the written value and clears the
APPLIED map, and changes no other object and no byte of memory; while the engine is RUNNING or PARKED it is refused
with SLOT_BUSY and changes nothing. -/
def Obligations.StateStepSetClearsTheAppliedMap : Prop :=
  ∀ (s : State) (t : Nat) (v : Word64), s.answersRequests = true →
    (s.engState ≠ engRunning → s.engState ≠ engParked →
      ∃ s', exec (.stateStepSet t v) s = .next s' ∧ s'.answer = stOk ∧ s'.obj Reg.stateStep = v.toNat
        ∧ (∀ i, s'.applied i = false) ∧ s.KeepsObjects s' [Reg.stateStep] ∧ s'.mem = s.mem)
    ∧ (s.engState = engRunning ∨ s.engState = engParked →
      ∃ s', exec (.stateStepSet t v) s = .next s' ∧ s.RefusedWith s' stSlotBusy)

/-- R405, R406, R415 to R417, R419, R439, R461: a frame that carries no PDU for this module, or that comes while the
module is in reset, is nothing; a PDU that cannot be read, or that comes before the management controller has booted,
is discarded and counted; a SYNC request of reads is executed and answered and moves no sequence; the next request
moves HSN and DSN on by one and is cached; a repeated one is answered from the cache; one out of sequence is refused
and counted. R421: new management addresses come into force once. R405: a solicitation for the port's address is
answered. The link state follows the link. The corners of the protocol are log entry 104, neighbour discovery log
entry 91. -/
def Obligations.RequestsAreAnsweredInSequence : Prop :=
  let request := fun (c : Nat → JdpFrame → Instr) => c = Instr.jdpRequest ∨ c = Instr.syncRequest
  let live := fun (s : State) => s.inReset = false ∧ s.extest = false ∧ s.boot.mgmtUp = true ∧ s.boot.resetDue = false
  let bus := fun (s : State) (b : List Byte) (r : JdpReq) => ∃ p, s.busPdu b = some (some p) ∧ parsePdu p = some r
  let reads := fun (r : JdpReq) => ∀ o ∈ r.ops, o.op = opRead
  let answered := fun (s s' : State) (k : Nat) => ∃ f, s'.out = s.out ++ [.jdp k f]
  (∀ (s : State) (t : Nat) (c : Nat → JdpFrame → Instr) (f : JdpFrame), request c → s.inReset = true ∨ s.extest = true →
    exec (c t f) s = .next (s.tick t))
  ∧ (∀ (s : State) (t : Nat) (c : Nat → JdpFrame → Instr) (b : List Byte), request c → s.busPdu b = none →
    exec (c t (.bus b)) s = .next (s.tick t))
  ∧ (∀ (s : State) (t : Nat) (c : Nat → JdpFrame → Instr) (b : List Byte), request c → parsePacket b = none →
    exec (c t (.ethernet b)) s = .next (s.tick t))
  ∧ (∀ (s : State) (t : Nat) (c : Nat → JdpFrame → Instr) (b p : List Byte), request c → s.inReset = false →
    s.extest = false → s.busPdu b = some (some p) → s.boot.mgmtUp = false ∨ parsePdu p = none →
    ∃ s', exec (c t (.bus b)) s = .next s'
      ∧ s'.obj (Reg.pdusDiscarded 1) = (s.obj (Reg.pdusDiscarded 1) + 1) % 2 ^ 64
      ∧ s.KeepsObjects s' [Reg.pdusDiscarded 1] ∧ s' = { s with now := s'.now, objs := s'.objs })
  ∧ (∀ (s : State) (t port : Nat) (c : Nat → JdpFrame → Instr) (b pdu : List Byte) (p : Packet) (r : JdpReq), request c →
    live s → parsePacket b = some p → s.pduOf p = some (port, pdu) → parsePdu pdu = some r → r.sync = true → reads r →
    ∃ s', exec (c t (.ethernet b)) s = .next s' ∧ answered s s' 0
      ∧ s'.obj (Reg.requestsExecuted 0) = (s.obj (Reg.requestsExecuted 0) + 1) % 2 ^ 64
      ∧ s.KeepsObjects s' [Reg.requestsExecuted 0] ∧ s'.mem = s.mem)
  ∧ (∀ (s : State) (t : Nat) (c : Nat → JdpFrame → Instr) (b : List Byte) (r : JdpReq), request c → live s → bus s b r →
    let acc := s.obj (Reg.acceptedHsn 1)
    (r.sync = true → reads r →
      ∃ s', exec (c t (.bus b)) s = .next s' ∧ answered s s' 1
        ∧ s'.obj (Reg.requestsExecuted 1) = (s.obj (Reg.requestsExecuted 1) + 1) % 2 ^ 64
        ∧ s.KeepsObjects s' [Reg.requestsExecuted 1] ∧ s' = { s with now := s'.now, objs := s'.objs, out := s'.out })
    ∧ (r.sync = false → r.hsn = (acc + 1) % 2 ^ 32 → reads r →
      ∃ s', exec (c t (.bus b)) s = .next s' ∧ answered s s' 1 ∧ s'.obj (Reg.acceptedHsn 1) = r.hsn
        ∧ s'.obj (Reg.dsn 1) = (s.obj (Reg.dsn 1) + 1) % 2 ^ 32
        ∧ s'.obj (Reg.requestsExecuted 1) = (s.obj (Reg.requestsExecuted 1) + 1) % 2 ^ 64
        ∧ (s'.session 1).cache.head?.map (fun e => (e.hsn, e.reqCrc)) = some (r.hsn, r.crc)
        ∧ (s'.session 1).cache.length ≤ 8
        ∧ s.KeepsObjects s' [Reg.acceptedHsn 1, Reg.dsn 1, Reg.requestsExecuted 1] ∧ s'.mem = s.mem)
    ∧ (∀ e, r.sync = false → r.hsn ≠ (acc + 1) % 2 ^ 32 → (acc + 2 ^ 32 - r.hsn) % 2 ^ 32 < 8 →
      (s.session 1).cache.find? (fun e => e.hsn == r.hsn) = some e → e.reqCrc = r.crc →
      ∃ s', exec (c t (.bus b)) s = .next s' ∧ s'.out = (s.sendBus e.pdu).out
        ∧ s'.obj (Reg.requestsRepeated 1) = (s.obj (Reg.requestsRepeated 1) + 1) % 2 ^ 64
        ∧ s.KeepsObjects s' [Reg.requestsRepeated 1] ∧ s' = { s with now := s'.now, objs := s'.objs, out := s'.out })
    ∧ (r.sync = false → r.hsn ≠ (acc + 1) % 2 ^ 32 → 8 ≤ (acc + 2 ^ 32 - r.hsn) % 2 ^ 32 →
      ∃ s', exec (c t (.bus b)) s = .next s' ∧ answered s s' 1
        ∧ s'.obj (Reg.sequenceRefusals 1) = (s.obj (Reg.sequenceRefusals 1) + 1) % 2 ^ 64
        ∧ s.KeepsObjects s' [Reg.sequenceRefusals 1] ∧ s' = { s with now := s'.now, objs := s'.objs, out := s'.out }))
  ∧ (∀ (s : State) (t : Nat), ∃ s', exec (.mgmtAddressChange t) s = .next s' ∧ s'.mgmtChange = []
    ∧ s' = { s with now := s'.now, mgmtChange := s'.mgmtChange })
  ∧ (∀ (s : State) (t : Nat) (b : List Byte) (p : Packet), s.inReset = false → s.extest = false → s.boot.mgmtUp = true →
    parsePacket b = some p → p.next = 58 → icmpSum p.src p.dst p.payload = 0xFFFF → p.dstMac = s.macBytes → p.dst = s.ipBytes →
    8 ≤ p.payload.length →
    ((slice p.payload 0 2 = [135#8, 0#8] ∧ p.hops = 255 ∧ slice p.payload 8 16 = s.ipBytes)
        ∨ slice p.payload 0 2 = [128#8, 0#8] →
      ∃ s' f, exec (.neighbourSolicitation t b) s = .next s' ∧ s'.out = s.out ++ [.mgmt f]
        ∧ s' = { s with now := s'.now, free := s'.free, out := s'.out })
    ∧ (slice p.payload 0 2 ≠ [135#8, 0#8] → slice p.payload 0 2 ≠ [128#8, 0#8] →
      exec (.neighbourSolicitation t b) s = .next (s.tick t)))
  ∧ (∀ (s : State) (t : Nat) (up : Bool),
    ∃ s', exec (.mgmtLinkStateChange t up) s = .next s' ∧ bit (s'.obj Reg.mgmtLinkState) 0 = up
      ∧ s.KeepsObjects s' [Reg.mgmtLinkState] ∧ s' = { s with now := s'.now, objs := s'.objs })

/-- R428: a write of CV_CONFIG that management takes, with a reserved bit is refused with RESERVED_NONZERO, a width
outside 8 to 64 with OUT_OF_RANGE, a bit of POLY, INIT or XOROUT at or above the width with INCONSISTENT, and one to a
unit that runs a cue or a scan with UNIT_BUSY; a refused write changes nothing. An accepted one stores the
configuration and changes nothing else, the running register among it. The order of the cases, UNIT_BUSY last, is log
entry 9. -/
def Obligations.CheckValueConfigurationWritesAreChecked : Prop :=
  (∀ (s : State) (t : Nat) (u : Fin 8) (v : BitVec 256), s.answersRequests = true → bits v.toNat 255 201 ≠ 0 →
    ∃ s', exec (.cvConfigWrite t u v) s = .next s' ∧ s.RefusedWith s' stReservedNonzero)
  ∧ (∀ (s : State) (t : Nat) (u : Fin 8) (v : BitVec 256), s.answersRequests = true → bits v.toNat 255 201 = 0 →
    let c := cvCfg v.toNat
    let fits := c.poly < 2 ^ c.width ∧ c.init < 2 ^ c.width ∧ c.xorout < 2 ^ c.width
    (8 ≤ c.width → c.width ≤ 64 → fits → s.cvBusy u = false →
      ∃ s', exec (.cvConfigWrite t u v) s = .next s' ∧ s'.answer = stOk ∧ s'.obj (Reg.cvConfig u) = v.toNat
        ∧ s.KeepsObjects s' [Reg.cvConfig u] ∧ s' = { s with now := s'.now, objs := s'.objs, answer := s'.answer })
    ∧ (c.width < 8 ∨ 64 < c.width → ∃ s', exec (.cvConfigWrite t u v) s = .next s' ∧ s.RefusedWith s' stOutOfRange)
    ∧ (8 ≤ c.width → c.width ≤ 64 → ¬ fits →
      ∃ s', exec (.cvConfigWrite t u v) s = .next s' ∧ s.RefusedWith s' stInconsistent)
    ∧ (8 ≤ c.width → c.width ≤ 64 → fits → s.cvBusy u = true →
      ∃ s', exec (.cvConfigWrite t u v) s = .next s' ∧ s.RefusedWith s' stUnitBusy))

/-- R427, R431, R433, R434: an idle check-value unit takes a running value that fits its width, and a length; of a
busy one the width is looked at first, as the range is at START and START_CONTINUE (log entry 9). START loads INIT and
the scan of a range that can be read begins; START_CONTINUE begins without loading; STOP halts at a line boundary and
saves the context; the end of a scan leaves its record with ALIVE one higher, and its event, unless the range lies
behind a hub link that is away; a poisoned line fails the scan. When the bytes are read, and START of an empty range,
are log entry 97. -/
def Obligations.CheckValueUnitsScanAndRecord : Prop :=
  let cfg := fun (s : State) (u : Fin 8) => cvCfg (s.obj (Reg.cvConfig u))
  let fed := fun (s : State) (u : Fin 8) (n : Nat) => crcFeed (cvCfg (s.obj (Reg.cvConfig u)))
    (s.obj (Reg.cvRunning u) % 2 ^ (cvCfg (s.obj (Reg.cvConfig u))).width) (s.read (s.obj (Reg.scanStart u)) n) % 2 ^ 64
  let failed := fun (s s' : State) (u : Fin 8) (l : Nat) => (s'.cv u).scanning = false ∧ s.FirstEvent s' 0x9002 u (l - l % 64)
    ∧ s'.obj (Reg.scansFailed u) = (s.obj (Reg.scansFailed u) + 1) % 2 ^ 64 ∧ s'.mem = s.mem
  (∀ (s : State) (t : Nat) (u : Fin 8) (v : Word64), s.answersRequests = true →
    (v.toNat < 2 ^ (cfg s u).width → s.cvBusy u = false →
      ∃ s', exec (.cvRunningWrite t u .register v) s = .next s' ∧ s'.answer = stOk ∧ s'.obj (Reg.cvRunning u) = v.toNat
        ∧ s.KeepsObjects s' [Reg.cvRunning u] ∧ s'.mem = s.mem)
    ∧ (2 ^ (cfg s u).width ≤ v.toNat →
      ∃ s', exec (.cvRunningWrite t u .register v) s = .next s' ∧ s.RefusedWith s' stInconsistent)
    ∧ (s.cvBusy u = false →
      ∃ s', exec (.cvRunningWrite t u .length v) s = .next s' ∧ s'.answer = stOk
        ∧ s'.obj (Reg.cvRunningLength u) = v.toNat ∧ s.KeepsObjects s' [Reg.cvRunningLength u] ∧ s'.mem = s.mem)
    ∧ (s.cvBusy u = true →
      ∃ s', exec (.cvRunningWrite t u .length v) s = .next s' ∧ s.RefusedWith s' stUnitBusy))
  ∧ (∀ (s : State) (t : Nat) (u : Fin 8), s.answersRequests = true → s.asleep = false →
    scannable (s.obj (Reg.scanStart u)) (s.obj (Reg.scanLength u)) = true →
    (s.cvBusy u = false → s.cvHolds u = false →
      (∃ s', exec (.scanStart t u) s = .next s' ∧ s'.answer = stOk ∧ (s'.cv u).scanning = true
        ∧ s'.obj (Reg.cvRunning u) = (cfg s u).init % 2 ^ 64 ∧ s'.obj (Reg.cvRunningLength u) = 0
        ∧ s.KeepsObjects s' [Reg.cvRunning u, Reg.cvRunningLength u] ∧ s'.mem = s.mem)
      ∧ (∃ s', exec (.scanStartContinue t u) s = .next s' ∧ s'.answer = stOk ∧ (s'.cv u).scanning = true
        ∧ s.KeepsObjects s' [] ∧ s'.mem = s.mem))
    ∧ (s.cvBusy u = true → (∃ s', exec (.scanStart t u) s = .next s' ∧ s.RefusedWith s' stUnitBusy)
      ∧ (∃ s', exec (.scanStartContinue t u) s = .next s' ∧ s.RefusedWith s' stUnitBusy)))
  ∧ (∀ (s : State) (t : Nat) (u : Fin 8), s.answersRequests = true → s.asleep = false →
    scannable (s.obj (Reg.scanStart u)) (s.obj (Reg.scanLength u)) = false →
    (∃ s', exec (.scanStart t u) s = .next s' ∧ s.RefusedWith s' stOutOfRange)
    ∧ (∃ s', exec (.scanStartContinue t u) s = .next s' ∧ s.RefusedWith s' stOutOfRange))
  ∧ (∀ (s : State) (t k : Nat) (u : Fin 8), s.answersRequests = true → s.asleep = false → (s.cv u).scanning = true →
    let start := s.obj (Reg.scanStart u)
    let len := s.obj (Reg.scanLength u)
    let stop := (start / 64 + k + 1) * 64
    stop < start + len →
    (s.poisoned start (stop - start) = [] →
      ∃ s', exec (.scanStop t u k) s = .next s' ∧ s'.answer = stOk ∧ (s'.cv u).scanning = false
        ∧ s'.obj (Reg.scanStart u) = stop % 2 ^ 64 ∧ s'.obj (Reg.scanLength u) = (len - (stop - start)) % 2 ^ 64
        ∧ s'.obj (Reg.cvRunning u) = fed s u (stop - start)
        ∧ s'.obj (Reg.scanSaved u) = s'.obj (Reg.cvRunning u) + 2 ^ 64 * s'.obj (Reg.cvRunningLength u) ∧ s'.mem = s.mem)
    ∧ (∀ l, (s.poisoned start (stop - start)).head? = some l →
      ∃ s', exec (.scanStop t u k) s = .next s' ∧ failed s s' u l))
  ∧ (∀ (s : State) (t : Nat) (u : Fin 8),
    let start := s.obj (Reg.scanStart u)
    let len := s.obj (Reg.scanLength u)
    ((s.cv u).scanning = true → s.held [(start, len)] = false → s.poisoned start len = [] →
      ∃ s', exec (.scanDone t u) s = .next s' ∧ (s'.cv u).scanning = false ∧ s'.obj (Reg.scanStart u) = (start + len) % 2 ^ 64
        ∧ s'.obj (Reg.scanLength u) = 0 ∧ s'.obj (Reg.cvRunning u) = fed s u len
        ∧ s'.obj (Reg.alive u) = (s.obj (Reg.alive u) + 1) % 256
        ∧ s'.obj (Reg.cvRecord u) % 2 ^ 64 = crcFinal (cfg s u) (fed s u len) % 2 ^ 64
        ∧ s.FirstEvent s' 0x9001 u (s'.obj (Reg.cvRecord u) % 2 ^ 64) ∧ s'.mem = s.mem)
    ∧ (∀ l, (s.cv u).scanning = true → s.held [(start, len)] = false → (s.poisoned start len).head? = some l →
      ∃ s', exec (.scanDone t u) s = .next s' ∧ failed s s' u l)
    ∧ ((s.cv u).scanning = false ∨ s.held [(start, len)] = true → exec (.scanDone t u) s = .next (s.tick t)))

/-- R410: a write of an object that the dictionary does not have is refused with NO_OBJECT; then one whose range is
not the object's, with TYPE_MISMATCH; then one of a read-only object with READ_ONLY; then one that comes by the bus
while BUS_WRITE_ENABLE is 0 with ACCESS_DENIED. A refused write changes nothing. A write of subindex 0x00 of an index
that is there is READ_ONLY as one byte and TYPE_MISMATCH else. A range of a domain object has to lie within it, and be
the whole of a write-only one, or of SHEET_DATA begin at 0; a write of part of an RW one, of at most 1,408 bytes, does
what a write of the whole does that leaves the other bytes as they are. That a LENGTH outside 1 to 1,408 is
TYPE_MISMATCH is the model's (log entry 9). R439, R461, R474: no write has any effect while the module is in reset,
before its management controller has booted, or while an EXTEST is loaded. The order is log entry 9. -/
def Obligations.WritesAreResolvedInOrder : Prop :=
  (∀ (c : Instr) (s : State) (t : Nat), requestAt c = some t → s.answersRequests = false → exec c s = .next (s.tick t))
  ∧ (∀ (s : State) (t : Nat) (ses : Fin 2) (idx : BitVec 16) (sub : Byte) (off : Word32) (data : List Byte),
    let o := idx.toNat * 256 + sub.toNat
    s.answersRequests = true → sub ≠ 0#8 →
    (dictFind o = none →
      ∃ s', exec (.registerWrite t ses idx sub off data) s = .next s' ∧ s.RefusedWith s' stNoObject)
    ∧ (∀ r, dictFind o = some r → r.dom = false → (off ≠ 0#32 ∨ data.length ≠ r.size) →
      ∃ s', exec (.registerWrite t ses idx sub off data) s = .next s' ∧ s.RefusedWith s' stTypeMismatch)
    ∧ (∀ r, dictFind o = some r → r.dom = false → off = 0#32 → data.length = r.size → 0 < r.size → r.size ≤ 1408 →
      (r.acc = .ro ∨ r.acc = .rl) →
      ∃ s', exec (.registerWrite t ses idx sub off data) s = .next s' ∧ s.RefusedWith s' stReadOnly)
    ∧ (∀ r, dictFind o = some r → r.dom = false → off = 0#32 → data.length = r.size → 0 < r.size → r.size ≤ 1408 →
      r.acc ≠ .ro → r.acc ≠ .rl → ses = 1 → s.obj Reg.busWriteEnable = 0 →
      ∃ s', exec (.registerWrite t ses idx sub off data) s = .next s' ∧ s.RefusedWith s' stAccessDenied))
  ∧ (∀ (s : State) (t : Nat) (ses : Fin 2) (idx : BitVec 16) (off : Word32) (data : List Byte), s.answersRequests = true →
    let refused := fun (st : Status) => ∃ s', exec (.registerWrite t ses idx 0#8 off data) s = .next s' ∧ s.RefusedWith s' st
    (dictIndexExists idx.toNat = false → refused stNoObject)
    ∧ (dictIndexExists idx.toNat = true → off = 0#32 → data.length = 1 → refused stReadOnly)
    ∧ (dictIndexExists idx.toNat = true → off ≠ 0#32 ∨ data.length ≠ 1 → refused stTypeMismatch))
  ∧ (∀ (s : State) (t : Nat) (ses : Fin 2) (idx : BitVec 16) (sub : Byte) (off : Word32) (data : List Byte) (r : ObjRow),
    let o := idx.toNat * 256 + sub.toNat
    let refused := fun (st : Status) => ∃ s', exec (.registerWrite t ses idx sub off data) s = .next s' ∧ s.RefusedWith s' st
    let len := data.length
    let fits := 1 ≤ len ∧ len ≤ 1408 ∧ off.toNat + len ≤ r.size
    s.answersRequests = true → sub ≠ 0#8 → dictFind o = some r → r.dom = true →
    (r.size ≠ 0 → r.acc ≠ .wo → ¬ fits → refused stTypeMismatch)
    ∧ (r.size ≠ 0 → r.acc = .wo → off ≠ 0#32 ∨ len ≠ r.size → refused stTypeMismatch)
    ∧ (r.size = 0 → off ≠ 0#32 ∨ len = 0 ∨ 1408 < len → refused stTypeMismatch)
    ∧ (fits → r.acc = .ro ∨ r.acc = .rl → refused stReadOnly)
    ∧ (fits → r.acc = .rw → ses = 1 → s.obj Reg.busWriteEnable = 0 → refused stAccessDenied)
    ∧ (fits → r.acc = .rw → r.size ≤ 1408 →
      let cur := bytesLE r.size (s.obj o)
      exec (.registerWrite t ses idx sub off data) s
        = exec (.registerWrite t ses idx sub 0#32 (cur.take off.toNat ++ data ++ cur.drop (off.toNat + len))) s))

/-- Tables 14.10, 15.11, 16.6 and 20.12, R202, R410: a write, which management takes, over the management port of an
object whose range its table gives is accepted when the number in its bytes, in network order, lies in the range, and
is stored with nothing else changed, or, of the time unit in an Intermission, kept until exit (R451); otherwise it is
refused with OUT_OF_RANGE. -/
def Obligations.RangedObjectsTakeTheirRange : Prop :=
  ∀ (s : State) (t : Nat) (data : List Byte) (row : Nat × Nat × Nat × Nat),
    row ∈ [(Reg.relockHoldMs, 2, 10, 10000), (Reg.calPeriodS, 4, 600, 86400), (Reg.calWaitMs, 2, 1000, 60000),
      (Reg.hostRetryUs, 2, 5, 1000), (Reg.hostRetryBudget, 1, 1, 7), (Reg.portFailoverMs, 4, 0, 10000),
      (Reg.jumpThresholdNs, 4, 50, 100000), (Reg.jumpHoldoverS, 2, 1, 3600), (Reg.servoBandwidthMhz, 2, 10, 1000),
      (Reg.wakePeriodMs, 2, 10, 10000), (Reg.scrubPeriodH, 2, 1, 168)] →
    s.answersRequests = true → data.length = row.2.1 →
    let c := Instr.registerWrite t 0 (BitVec.ofNat 16 (row.1 / 256)) (BitVec.ofNat 8 (row.1 % 256)) 0#32 data
    let v := ofBytesBE data
    let awake := [Reg.jumpThresholdNs, Reg.jumpHoldoverS, Reg.servoBandwidthMhz].contains row.1
    (v < row.2.2.1 ∨ row.2.2.2 < v → ∃ s', exec c s = .next s' ∧ s.RefusedWith s' stOutOfRange)
    ∧ (row.2.2.1 ≤ v → v ≤ row.2.2.2 → awake = true → s.asleep = true → exec c s = .next
      { s.tick t with answer := stOk, boot := { s.boot with atExit := s.boot.atExit ++ [(row.1, v)] } })
    ∧ (row.2.2.1 ≤ v → v ≤ row.2.2.2 → awake = false ∨ s.asleep = false → ∃ s', exec c s = .next s' ∧ s'.answer = stOk ∧ s'.obj row.1 = v
      ∧ s.KeepsObjects s' [row.1] ∧ s' = { s with now := s'.now, objs := s'.objs, answer := s'.answer })

/-- R446, R447, R216: a reset of each kind (POWER_ON by PWR_GOOD, PIN by RESET_N low for 10 µs or more, SOFT by
0x0000_00A5 written to RESET_REQUEST and taken by management, WATCHDOG) and a fall of PWR_GOOD return every object to
its reset value, but for the kind of the reset and the straps and link bits that the pins hold; every buffer, key,
session, stream and event is gone, and the module is in POWER_UP; VREQ is high-impedance while a pin holds it in reset
(R462). A RESET_N pulse below 1 µs is ignored; another value of RESET_REQUEST is refused. What a reset leaves of pins
and straps is log entry 103, the model's choice; that POWER_ON_RESET acts in every state is too. -/
def Obligations.EveryResetKindClearsTheModule : Prop :=
  let cleared := fun (s s' : State) (kind : Nat) =>
    s'.obj Reg.lastResetCause = kind ∧ s'.modState = modPowerUp
    ∧ (∀ o, o ∉ [Reg.lastResetCause, Reg.straps, Reg.busAddress, Reg.mgmtLinkState] → s'.obj o = objReset o)
    ∧ s'.memSt.buffers = [] ∧ (∀ k, s'.usage k = 0)
    ∧ s'.cipher = {} ∧ s'.jdp0 = {} ∧ s'.jdp1 = {} ∧ s'.ring = [] ∧ s'.events = 0 ∧ s'.streams = [] ∧ s'.eng = {}
    ∧ s'.failedEls = [] ∧ s'.scores = [] ∧ s'.pending = s.pending
  (∀ (s : State) (t : Nat),
    ∃ s', exec (.powerOnReset t) s = .next s' ∧ cleared s s' 1 ∧ s'.pins = { resetN := false, pwrGood := true })
  ∧ (∀ (s : State) (t lowNs : Nat), s.inReset = false → 10000 ≤ lowNs →
    ∃ s', exec (.pinReset t lowNs) s = .next s' ∧ cleared s s' 2
      ∧ s'.pins = { s.pins with resetN := false, vreqDriven := false })
  ∧ (∀ (s : State) (t lowNs : Nat), lowNs < 1000 → exec (.pinReset t lowNs) s = .next (s.tick t))
  ∧ (∀ (s : State) (t : Nat), s.answersRequests = true →
    ∃ s', exec (.softReset t 0x000000A5#32) s = .next s' ∧ cleared s s' 3 ∧ s'.answer = stOk
      ∧ s'.boot.released = (s.tick t).now ∧ s'.pins = s.pins ∧ s'.inReset = false)
  ∧ (∀ (s : State) (t : Nat) (v : Word32), s.answersRequests = true → v ≠ 0x000000A5#32 →
    ∃ s', exec (.softReset t v) s = .next s' ∧ s.RefusedWith s' stOutOfRange)
  ∧ (∀ (s : State) (t : Nat), s.inReset = false →
    ∃ s', exec (.watchdogReset t) s = .next s' ∧ cleared s s' 4 ∧ s'.boot.released = (s.tick t).now ∧ s'.pins = s.pins)
  ∧ (∀ (s : State) (t : Nat), s.pins.pwrGood = true → s.obj Reg.lastResetCause < 256 →
    ∃ s', exec (.pwrGoodFall t) s = .next s' ∧ cleared s s' (s.obj Reg.lastResetCause) ∧ s'.inReset = true
      ∧ s'.pins = { s.pins with pwrGood := false, vreqDriven := false })

/-- R439, R418, R447, R460: the steps of power-up. The release of RESET_N samples the straps and starts the count and
network time (R364); the draw of BOOT_ID, with VREQ driven from then on; the management controller's answer, with
RESET_DONE (subject the reset kind, value the BOOT_ID) as event 0, before events that came earlier (log entry 143);
the core out of reset; links trained; HBM trained, with which rehearsal begins: MODULE_STATE REHEARSAL, OUTCOME 1.
R439: a training step that has not finished by twice its instant (90 ms for the links, 120 ms for HBM) fails its
elements, with item 3, 10 or 4 of rehearsal, and the sequence goes on; before that instant nothing happens. R450:
links that retrain after an Intermission and have not come back 32 ms (hubs) or 44 ms (engines) after the wake fail.
The straps and the instant of RESET_DONE are log entry 103. -/
def Obligations.PowerUpReachesRehearsal : Prop :=
  ((∀ (s : State) (t : Nat) (straps : BitVec 3), s.pins.resetN = false → s.pins.pwrGood = true → s.boot.held = false →
    ∃ s', exec (.resetNReleased t straps) s = .next s' ∧ s'.pins.resetN = true ∧ s'.boot.released = (s.tick t).now ∧ s'.net = 0
      ∧ s'.obj Reg.straps = straps.toNat ∧ s'.obj Reg.busAddress = straps.toNat / 2
      ∧ bit (s'.obj Reg.mgmtLinkState) 1 = straps.getLsbD 0
      ∧ s.KeepsObjects s' [Reg.straps, Reg.busAddress, Reg.mgmtLinkState])
  ∧ (∀ (s : State) (t : Nat), s.inReset = false → s.boot.bootDrawn = false →
    ∃ s', exec (.bootIdDrawn t) s = .next s' ∧ s'.boot.bootDrawn = true ∧ s'.free = s.free + 1
      ∧ s'.obj Reg.bootId = Config.freeValue s.free % 2 ^ 32 ∧ s'.obj Reg.vreqCode = 30 ∧ s'.pins.vreqDriven = true
      ∧ s'.out = s.out ++ [.pin "VREQ_DRIVEN" 1, .pin "VREQ" 30]
      ∧ s.KeepsObjects s' [Reg.bootId, Reg.vreqCode])
  ∧ (∀ (s : State) (t : Nat), s.inReset = false → s.boot.bootDrawn = true → s.boot.mgmtUp = false →
    ∃ s', exec (.managementBootDone t) s = .next s' ∧ s'.boot.mgmtUp = true
      ∧ (s.ring.length ≤ 4000 → (∀ e ∈ s.ring, { e with seq := e.seq + 1 } ∈ s'.ring)
        ∧ ⟨0, 0x1801, s'.net, s.obj Reg.lastResetCause % 2 ^ 64, s.obj Reg.bootId % 2 ^ 64⟩ ∈ s'.ring))
  ∧ (∀ (s : State) (t : Nat), s.inReset = false → s.modState = modPowerUp → s.boot.bootDrawn = true →
    exec (.coreOutOfReset t) s = .next { s.tick t with boot := { s.boot with coreUp := true } })
  ∧ (∀ (s : State) (t : Nat), s.training = true ∨ s.retraining = true →
    exec (.linksTrained t) s = .next { s.tick t with boot := { s.boot with linksUp := true } })
  ∧ (∀ (s : State) (t : Nat), s.training = true → s.boot.linksUp = true →
    ∃ s', exec (.hbmTrained t) s = .next s' ∧ s'.modState = modRehearsal ∧ s'.outcome = 1
      ∧ s'.boot.rehearsalFrom = (s.tick t).now ∧ s.KeepsObjects s' [Reg.moduleState, Reg.rehearsalResult]))
  ∧ ((∀ (s : State) (t : Nat) (h : Fin 4), s.training = true → s.boot.linksUp = false →
    s.boot.released + 90000000 ≤ (s.tick t).now →
    ∃ s', exec (.trainingTimeout t (.links (BitVec.twoPow 4 h) 0#8)) s = .next s' ∧ s'.boot.linksUp = true
      ∧ s'.itemFailed 3 = true ∧ element 4 h ∈ s'.failedEls ∧ bit (s'.obj Reg.hubLinkState) h = false
      ∧ bit s'.memSt.failedHubs h = true)
  ∧ (∀ (s : State) (t : Nat) (e : Fin 8), s.training = true → s.boot.linksUp = false →
    s.boot.released + 90000000 ≤ (s.tick t).now →
    ∃ s', exec (.trainingTimeout t (.links 0#4 (BitVec.twoPow 8 e))) s = .next s' ∧ s'.boot.linksUp = true
      ∧ s'.itemFailed 10 = true ∧ element 8 e ∈ s'.failedEls ∧ s'.obj (Reg.engineState e) = 1)
  ∧ (∀ (s : State) (t : Nat) (k : Fin 24), s.training = true → s.boot.linksUp = true →
    s.boot.released + 120000000 ≤ (s.tick t).now →
    ∃ s', exec (.trainingTimeout t (.hbm (BitVec.twoPow 24 k))) s = .next s' ∧ s'.modState = modRehearsal
      ∧ s'.itemFailed 4 = true ∧ element 5 k ∈ s'.failedEls ∧ s'.outcome = 1)
  ∧ (∀ (s : State) (t : Nat) (u : TrainingStep), s.retraining = false → (s.tick t).now < s.boot.released + 90000000 →
    exec (.trainingTimeout t u) s = .next (s.tick t))
  ∧ (∀ (s : State) (t : Nat), s.retraining = true →
    (∀ h : Fin 4, s.boot.exitAt + 32000000 ≤ (s.tick t).now →
      ∃ s', exec (.trainingTimeout t (.links (BitVec.twoPow 4 h) 0#8)) s = .next s' ∧ bit s'.memSt.failedHubs h = true
        ∧ s'.modState = s.modState)
    ∧ (∀ e : Fin 8, s.boot.exitAt + 44000000 ≤ (s.tick t).now →
      ∃ s', exec (.trainingTimeout t (.links 0#4 (BitVec.twoPow 8 e))) s = .next s' ∧ s'.obj (Reg.engineState e) = 1
        ∧ s'.modState = s.modState)
    ∧ (∀ u : TrainingStep, (s.tick t).now < s.boot.exitAt + 32000000 → exec (.trainingTimeout t u) s = .next (s.tick t))))

/-- R440, R442: rehearsal in which nothing failed takes the module to READY with OUTCOME 2, FIRST_FATAL 0xFF and event
REHEARSAL_DONE, and HBM reads as zeros; lines that the memory test corrected are counted. One in which a fatal item
failed, items 3 and 4 with their hub link or stack, and item 6 or 7 beyond its limit too, takes it to SAFE with
SAFE_CAUSE 1, OUTCOME 4 and the item in FIRST_FATAL. One in which only degrading items failed, up to two tensor cells,
one cipher lane of a direction, engines or host lanes, takes what failed out of service and the module to READY with
OUTCOME 3. That these items fail the core die is log entry 87; findings are operands (log entry 7). -/
def Obligations.RehearsalEndsInReadyOrSafe : Prop :=
  let none_ : RehearsalFindings := ⟨0, 0, 0, [], 0, 0, 0, 0, 0, 0⟩
  let clean := fun (s : State) => s.inReset = false ∧ s.modState = modRehearsal ∧ s.failedItems = 0 ∧ bits (s.obj Reg.rehearsalResult) 79 16 = 0
  let degraded := fun (s' : State) (i : Nat) => s'.modState = modReady ∧ s'.outcome = 3 ∧ s'.firstFatal = 0xFF ∧ s'.itemFailed i = true
  let fatal := fun (s' : State) (i : Nat) => s'.modState = modSafe ∧ s'.obj Reg.safeCause = 1 ∧ s'.outcome = 4 ∧ s'.firstFatal = i
    ∧ s'.itemFailed i = true
  (∀ (s : State) (t : Nat), s.inReset = false → s.modState = modRehearsal → s.failedItems = 0 →
    ∃ s', exec (.rehearsalDone t none_) s = .next s' ∧ s'.modState = modReady ∧ s'.outcome = 2 ∧ s'.firstFatal = 0xFF
      ∧ s.FirstEvent s' 0x1802 2 0 ∧ (∀ a, a < 0x800000000000 → readByte s'.mem a = 0)
      ∧ (∀ a, 0x800000000000 ≤ a → readByte s'.mem a = readByte s.mem a))
  ∧ (∀ (s : State) (t n : Nat), clean s → 0 < n → ∃ s', exec (.rehearsalDone t { none_ with corrected := [n] }) s = .next s'
    ∧ s'.modState = modReady ∧ s'.outcome = 2 ∧ s'.obj Reg.hbmCorrected = (s.obj Reg.hbmCorrected + n) % 2 ^ 64)
  ∧ (∀ (s : State) (t : Nat) (i : Fin 13), i.val ∈ [0, 1, 2, 5, 8, 9, 12] → s.inReset = false → s.modState = modRehearsal →
    s.failedItems = 0 →
    ∃ s', exec (.rehearsalDone t { none_ with items := BitVec.twoPow 13 i }) s = .next s' ∧ fatal s' i
      ∧ element 0 0 ∈ s'.failedEls)
  ∧ (∀ (s : State) (t : Nat), clean s →
    (∀ h : Fin 4, ∃ s', exec (.rehearsalDone t { none_ with hubs := BitVec.twoPow 4 h }) s = .next s' ∧ fatal s' 3
      ∧ element 4 h ∈ s'.failedEls)
    ∧ (∀ k : Fin 24, ∃ s', exec (.rehearsalDone t { none_ with hbmStacks := BitVec.twoPow 24 k }) s = .next s' ∧ fatal s' 4
      ∧ element 5 k ∈ s'.failedEls)
    ∧ (∀ m : BitVec 16, m ≠ 0 → ∃ s', exec (.rehearsalDone t { none_ with cells := m }) s = .next s'
      ∧ (∀ n : Fin 16, m.getLsbD n = true → s'.cellInService n = false ∧ bit (s'.obj Reg.rehearsalResult) (16 + n.val) = true
        ∧ element 6 n ∈ s'.failedEls)
      ∧ ((setBitsOf 16 m.toNat).length ≤ 2 → degraded s' 6) ∧ (3 ≤ (setBitsOf 16 m.toNat).length → fatal s' 6))
    ∧ (∀ x y : BitVec 10, x ≠ 0 ∨ y ≠ 0 → ∃ s', exec (.rehearsalDone t { none_ with cipherTx := x, cipherRx := y }) s = .next s'
      ∧ (∀ n : Fin 10, (x.getLsbD n = true → s'.laneInService n = false ∧ element 7 n ∈ s'.failedEls)
        ∧ (y.getLsbD n = true → s'.laneInService (10 + n.val) = false ∧ element 7 (10 + n.val) ∈ s'.failedEls))
      ∧ ((setBitsOf 10 x.toNat).length ≤ 1 → (setBitsOf 10 y.toNat).length ≤ 1 → degraded s' 7)
      ∧ (2 ≤ (setBitsOf 10 x.toNat).length ∨ 2 ≤ (setBitsOf 10 y.toNat).length → fatal s' 7))
    ∧ (∀ e : Fin 8, ∃ s', exec (.rehearsalDone t { none_ with engineDsps := BitVec.twoPow 8 e }) s = .next s' ∧ degraded s' 10
      ∧ s'.obj (Reg.engineState e) = 1 ∧ bit (s'.obj Reg.rehearsalResult) (52 + e.val) = true ∧ element 8 e ∈ s'.failedEls)
    ∧ (∀ l : Fin 144, ∃ s', exec (.rehearsalDone t { none_ with lanes := BitVec.twoPow 144 l }) s = .next s' ∧ degraded s' 11
      ∧ bits (s'.obj (Reg.laneState l)) 3 0 = 3 ∧ bit (s'.obj Reg.rehearsalResult) (64 + l.val / 9) = true ∧ element 1 l ∈ s'.failedEls))

/-- R443: a write of 1 to SAFE_REQUEST that management takes takes the module to SAFE with cause 2 from POWER_UP,
REHEARSAL or READY, changes nothing in SAFE, and is refused with WRONG_STATE from ENTERING to EXITING; temperatures
above their limits for 1 ms take it there with cause 3. No ballast is left in SAFE, and every channel is DARK; a
rehearsal that was stopped has OUTCOME 5. That no ballast is left outside READY is log entry 100. -/
def Obligations.SafeStateIsEntered : Prop :=
  (∀ (s : State) (t : Nat), s.answersRequests = true →
    s.modState = modPowerUp ∨ s.modState = modRehearsal ∨ s.modState = modReady →
    ∃ s', exec (.safeRequest t 1#8) s = .next s' ∧ s'.answer = stOk ∧ s'.modState = modSafe ∧ s'.obj Reg.safeCause = 2
      ∧ s'.power.ballast = 0 ∧ s'.power.throttled = false ∧ s'.obj Reg.ballastNowDw = 0
      ∧ (∀ c : Fin 32, s'.chState c = chDark) ∧ (s.modState = modRehearsal → s.outcome = 1 → s'.outcome = 5))
  ∧ (∀ (s : State) (t : Nat), s.answersRequests = true → s.modState = modSafe →
    exec (.safeRequest t 1#8) s = .next { s.tick t with answer := stOk })
  ∧ (∀ (s : State) (t : Nat), s.answersRequests = true → s.asleep = true →
    ∃ s', exec (.safeRequest t 1#8) s = .next s' ∧ s.RefusedWith s' stWrongState)
  ∧ (∀ (s : State) (t : Nat) (v : Byte), s.answersRequests = true → v ≠ 1#8 →
    ∃ s', exec (.safeRequest t v) s = .next s' ∧ s.RefusedWith s' stOutOfRange)
  ∧ (∀ (s : State) (t a : Nat), s.boot.hotFrom = some a → a + 1000000 ≤ (s.tick t).now → s.inReset = false →
    s.modState = modPowerUp ∨ s.modState = modRehearsal ∨ s.modState = modReady →
    ∃ s', exec (.overtemperatureSafe t) s = .next s' ∧ s'.modState = modSafe ∧ s'.obj Reg.safeCause = 3
      ∧ s'.power.ballast = 0 ∧ (∀ c : Fin 32, s'.chState c = chDark))
  ∧ (∀ (s : State) (t : Nat), s.boot.hotFrom = none → exec (.overtemperatureSafe t) s = .next (s.tick t))

/-- R449, of the writes that management takes: ENTER in READY, with no slot ARMED or ACTIVE, PAGE_SWITCH_STATE IDLE
and no scan, starts entry; otherwise it is refused with WRONG_STATE or SLOT_BUSY, in that order, and changes nothing.
EXIT in INTERMISSION is a wake with source MGMT; in READY, SAFE, POWER_UP, REHEARSAL and EXITING it is refused. -/
def Obligations.IntermissionIsRequested : Prop :=
  (∀ (s : State) (t : Nat), s.answersRequests = true → s.modState ≠ modReady →
    ∃ s', exec (.intermissionEnter t) s = .next s' ∧ s.RefusedWith s' stWrongState)
  ∧ (∀ (s : State) (t : Nat), s.answersRequests = true → s.modState = modReady →
    (s.anySlot [slotArmed, slotActive] = true ∨ s.obj Reg.pageSwitchState ≠ 0 ∨ ∃ u : Fin 8, (s.cv u).scanning = true) →
    ∃ s', exec (.intermissionEnter t) s = .next s' ∧ s.RefusedWith s' stSlotBusy)
  ∧ (∀ (s : State) (t : Nat), s.answersRequests = true → s.modState = modReady → s.anySlot [slotArmed, slotActive] = false →
    s.obj Reg.pageSwitchState = 0 → (∀ u : Fin 8, (s.cv u).scanning = false) →
    ∃ s', exec (.intermissionEnter t) s = .next s' ∧ s'.answer = stOk ∧ s'.modState = modEntering
      ∧ s'.boot.enterAt = (s.tick t).now ∧ s'.boot.woken = false ∧ s'.power.ballast = 0)
  ∧ (∀ (s : State) (t : Nat) (k : Fin 2), s.answersRequests = true → s.modState = modIntermission → s.boot.woken = false →
    ∃ s', exec (.intermissionExit t k) s = .next s' ∧ s'.answer = stOk ∧ s'.modState = modExiting
      ∧ s'.boot.exitAt = (s.tick t).now ∧ s'.boot.woken = true
      ∧ bits (s'.obj Reg.lastWake) 67 64 = 4 ∧ bits (s'.obj Reg.lastWake) 75 68 = k ∧ bit (s'.obj Reg.lastWake) 77 = true)
  ∧ (∀ (s : State) (t : Nat) (k : Fin 2), s.answersRequests = true → s.modState ≠ modIntermission → s.modState ≠ modEntering →
    ∃ s', exec (.intermissionExit t k) s = .next s' ∧ s.RefusedWith s' stWrongState)

/-- R450, R451: 14 ms after ENTER the module is in INTERMISSION, without its sync objects and stream contexts, with
HBM as it was, one more Intermission counted and event INTERMISSION_ENTERED; a wake that came during entry starts exit
at once. 26 ms after the wake the module is READY, with event INTERMISSION_WOKEN of the wake's source and index, and
what was written meanwhile to a unit that stays awake takes effect. Exit requests the core rail at 0.750 V again, and
the links retrain. What is lost, and when, is log entry 88. -/
def Obligations.IntermissionEntryAndExitComplete : Prop :=
  (∀ (s : State) (t : Nat), s.modState = modEntering → s.boot.enterAt + 14000000 ≤ (s.tick t).now → s.boot.woken = false →
    ∃ s', exec (.intermissionEntered t) s = .next s' ∧ s'.modState = modIntermission
      ∧ s'.obj Reg.intermissions = (s.obj Reg.intermissions + 1) % 2 ^ 64
      ∧ (∃ q, ⟨q, 0x1804, s'.net, 0, 0⟩ ∈ s'.ring)
      ∧ (s.memSt.stores = [] → s.memSt.deferred = [] → s.FirstEvent s' 0x1804 0 0) ∧ s'.streams = [] ∧ (∀ o, s'.sync o = 0)
      ∧ (∀ a, a < 0x800000000000 → readByte s'.mem a = readByte s.mem a))
  ∧ (∀ (s : State) (t : Nat), s.modState = modEntering → s.boot.enterAt + 14000000 ≤ (s.tick t).now → s.boot.woken = true →
    ∃ s', exec (.intermissionEntered t) s = .next s' ∧ s'.modState = modExiting ∧ s'.boot.exitAt = (s.tick t).now
      ∧ s'.boot.linksUp = false ∧ s'.obj Reg.coreRailSetpointMv = 750 ∧ s'.obj Reg.vreqCode = 30)
  ∧ (∀ (s : State) (t : Nat), s.modState = modExiting → s.boot.exitAt + 26000000 ≤ (s.tick t).now →
    let exits := fun (s' : State) => exec (.intermissionWoken t) s = .next s' ∧ s'.modState = modReady ∧ s'.boot.atExit = []
    (s.boot.atExit = [] → ∃ s', exits s' ∧ s.FirstEvent s' 0x1805 (bits (s.obj Reg.lastWake) 67 64) (bits (s.obj Reg.lastWake) 75 68))
    ∧ (∀ v, s.boot.atExit = [(Reg.jumpThresholdNs, v)] → 50 ≤ v → v ≤ 100000 → ∃ s', exits s' ∧ s'.obj Reg.jumpThresholdNs = v)
    ∧ (∀ v, s.boot.atExit = [(Reg.timeMode, v)] → v ≤ 2 → s.servoBusy = false →
      ∃ s', exits s' ∧ s'.timeMode = v ∧ s'.timeState = tmFree))
  ∧ (∀ (s : State) (t : Nat), s.modState ≠ modEntering → exec (.intermissionEntered t) s = .next (s.tick t))
  ∧ (∀ (s : State) (t : Nat), s.modState ≠ modExiting → exec (.intermissionWoken t) s = .next (s.tick t))

/-- R452, R453: the baseline sample during entry wakes nothing; a channel whose power exceeds the threshold in this
sample and the last, and that was not active at the baseline, wakes the module if WAKE_ENABLE admits it, and so does a
port all of whose working lanes show a signal in this sample and the last (source 2, HOST_SIGNAL), where no channel
does; a sample in which nothing is active wakes nothing and is counted; a matched pattern wakes the module by its
port. The settings taken at ENTER and the baseline count are log entry 88. -/
def Obligations.WakeDetectionFollowsItsSamples : Prop :=
  (∀ (s : State) (t : Nat) (x : WakeSample), s.modState = modEntering → s.boot.baseTaken = false →
    s.boot.enterAt + 500000 ≤ (s.tick t).now →
    ∃ s', exec (.wakeSampleWindow t x) s = .next s' ∧ s'.boot.baseTaken = true ∧ s'.boot.woken = s.boot.woken
      ∧ (∀ c : Fin 32, bit s'.boot.blockedCh c
          = (bit s.boot.wake.channels c && decide (50 * s.boot.wake.threshold < x.rxCdbm.getD c (-100000))))
      ∧ s' = { s with now := s'.now, boot := s'.boot })
  ∧ (∀ (s : State) (t : Nat) (x : WakeSample), s.modState = modIntermission → s.boot.woken = false →
    s.boot.windowAt + 1000000 * s.boot.wake.period ≤ (s.tick t).now →
    (∀ c : Fin 32, bit s.boot.wake.channels c = true → x.rxCdbm.getD c (-100000) ≤ 50 * s.boot.wake.threshold) →
    x.lanes = 0#144 →
    ∃ s', exec (.wakeSampleWindow t x) s = .next s' ∧ s'.modState = modIntermission ∧ s'.boot.woken = false
      ∧ s'.obj Reg.wakeSamples = (s.obj Reg.wakeSamples + 1) % 2 ^ 64 ∧ s'.boot.blockedCh = 0)
  ∧ (∀ (s : State) (t : Nat) (x : WakeSample) (c : Fin 32), s.modState = modIntermission → s.boot.woken = false →
    s.boot.windowAt + 1000000 * s.boot.wake.period ≤ (s.tick t).now →
    bit s.boot.wake.enable 0 = true → bit s.boot.wake.channels c = true → bit s.boot.blockedCh c = false →
    bit s.boot.lastCh c = true → 50 * s.boot.wake.threshold < x.rxCdbm.getD c (-100000) →
    (∀ d : Fin 32, d < c → bit s.boot.lastCh d = false) →
    ∃ s', exec (.wakeSampleWindow t x) s = .next s' ∧ s'.modState = modExiting ∧ s'.boot.woken = true
      ∧ bits (s'.obj Reg.lastWake) 67 64 = 1 ∧ bits (s'.obj Reg.lastWake) 75 68 = c)
  ∧ (∀ (s : State) (t : Nat) (x : WakeSample) (p : Fin 16), s.modState = modIntermission → s.boot.woken = false →
    s.boot.windowAt + 1000000 * s.boot.wake.period ≤ (s.tick t).now →
    bit s.boot.wake.enable 1 = true → bit s.boot.wake.ports p = true → bit s.boot.blockedPorts p = false →
    bit s.boot.lastPorts p = true → (∀ i < 8, x.lanes.getLsbD (9 * p.val + i) = true) →
    (∀ d : Fin 16, d < p → bit s.boot.lastPorts d = false) →
    (bit s.boot.wake.enable 0 = false ∨ ∀ c : Fin 32, bit s.boot.lastCh c = false) →
    ∃ s', exec (.wakeSampleWindow t x) s = .next s' ∧ s'.modState = modExiting ∧ s'.boot.woken = true
      ∧ bits (s'.obj Reg.lastWake) 67 64 = 2 ∧ bits (s'.obj Reg.lastWake) 75 68 = p)
  ∧ (∀ (s : State) (t : Nat) (x : WakeSample) (p : Fin 16), s.modState = modIntermission → s.boot.woken = false →
    s.boot.windowAt + 1000000 * s.boot.wake.period ≤ (s.tick t).now →
    bit s.boot.wake.enable 1 = false ∨ bit s.boot.wake.ports p = false ∨ bit s.boot.blockedPorts p = true
      ∨ bit s.boot.lastPorts p = false ∨ (∃ i < 8, x.lanes.getLsbD (9 * p.val + i) = false) →
    (∀ d : Fin 16, d ≠ p → bit s.boot.lastPorts d = false) → (∀ c : Fin 32, bit s.boot.lastCh c = false) →
    ∃ s', exec (.wakeSampleWindow t x) s = .next s' ∧ s'.modState = modIntermission ∧ s'.boot.woken = false)
  ∧ (∀ (s : State) (t : Nat) (p : Fin 16), bit s.boot.wake.patterns p = true → bit s.boot.wake.enable 2 = true →
    s.modState = modIntermission → s.boot.woken = false →
    ∃ s', exec (.wakePatternMatch t p) s = .next s' ∧ s'.modState = modExiting ∧ s'.boot.woken = true
      ∧ bits (s'.obj Reg.lastWake) 67 64 = 3 ∧ bits (s'.obj Reg.lastWake) 75 68 = p)
  ∧ (∀ (s : State) (t : Nat) (p : Fin 16), s.modState = modReady ∨ s.modState = modSafe →
    exec (.wakePatternMatch t p) s = .next (s.tick t))

/-- R461, R465: the loss of a rail that the module cannot do without, while PWR_GOOD is high, puts it in reset,
RESET_N low or not, held until PWR_GOOD rises; the loss of an engine rail fails all eight engines; the core rail is
off, and its loss nothing, in an Intermission. An EXTEST instruction drives the pins only in SAFE and is BYPASS
elsewhere; IDCODE and SAMPLE/PRELOAD are loaded in every state; every other code is BYPASS. An EXTEST drives each pin
and pair whose enable cell is 1 from what the boundary register holds. A scan under an instruction that selects the
boundary register shows on TDO the levels that its cells capture, from the cell next to TDO on, and shifts TDI in, and
under an EXTEST the pins take the new cells; a scan under IDCODE shows 0xB3F3004D, and one under BYPASS a 0 before
what it shifts. That a load and the scans after it are one command, with the levels in its operand, is the model's
choice (log entry 145). The code of a rail loss is log entry 103. -/
def Obligations.RailsAndBoundaryScanAct : Prop :=
  let loaded := fun (s : State) (tap : Nat) => { s with pins := { s.pins with tap := tap } }
  let shown := fun (x : DrScan) => (List.range x.tdi.length).map (fun i =>
    if i < 501 then x.levels.getLsbD i else x.tdi.getD (i - 501) false)
  let cell := fun (x : DrScan) (i : Nat) =>
    if i + x.tdi.length < 501 then x.levels.getLsbD (i + x.tdi.length) else x.tdi.getD (i + x.tdi.length - 501) false
  (∀ (s : State) (t : Nat) (r : Fin 14), r.val + 1 ∈ [2, 4, 5, 6, 7, 8] ∨ r.val = 0 ∧ s.asleep = false →
    (s.pins.pwrGood = true → s.boot.held = false →
      ∃ s', exec (.railLoss t r) s = .next s' ∧ s'.boot.held = true ∧ s'.inReset = true ∧ s'.modState = modPowerUp
        ∧ s'.cipher = {})
    ∧ (s.pins.pwrGood = false ∨ s.boot.held = true → exec (.railLoss t r) s = .next (s.tick t)))
  ∧ (∀ (s : State) (t : Nat), s.asleep = true → exec (.railLoss t 0) s = .next (s.tick t))
  ∧ (∀ (s : State) (t : Nat) (r : Fin 14) (e : Fin 8), r.val + 1 ∈ [3, 9, 10, 11] → s.inReset = false →
    ∃ s', exec (.railLoss t r) s = .next s' ∧ s'.obj (Reg.engineState e) = 1)
  ∧ (∀ (s : State) (t : Nat) (l : TapLoad), l.code.toNat = 0x00 ∨ l.code.toNat = 0x03 ∨ l.code.toNat = 0x04 →
    (s.modState = modSafe → exec (.tapInstructionLoad t l) s = .next (l.scans.foldl State.drScan
      { loaded (s.tick t) l.code.toNat with out := s.out ++ boundaryOuts s.pins.boundary }))
    ∧ (s.modState ≠ modSafe → exec (.tapInstructionLoad t l) s = .next (l.scans.foldl State.drScan (loaded (s.tick t) 0xFF))))
  ∧ (∀ (s : State) (t : Nat) (x : List DrScan),
    exec (.tapInstructionLoad t ⟨0x01#8, x⟩) s = .next (x.foldl State.drScan (loaded (s.tick t) 0x01))
      ∧ exec (.tapInstructionLoad t ⟨0x02#8, x⟩) s = .next (x.foldl State.drScan (loaded (s.tick t) 0x02)))
  ∧ (∀ (s : State) (t : Nat) (l : TapLoad), 0x05 ≤ l.code.toNat →
    exec (.tapInstructionLoad t l) s = .next (l.scans.foldl State.drScan (loaded (s.tick t) 0xFF)))
  ∧ (∀ (s : State) (x : DrScan),
    (s.pins.tap = 0x02 → (s.drScan x).out = s.out ++ [.tdo (shown x)])
    ∧ (s.pins.tap ∈ [0x00, 0x03, 0x04] → (s.drScan x).out = s.out ++ .tdo (shown x) :: boundaryOuts (s.drScan x).pins.boundary)
    ∧ (s.pins.tap ∈ [0x00, 0x02, 0x03, 0x04] → ∀ i < 501, (s.drScan x).pins.boundary.getLsbD i = cell x i)
    ∧ (s.pins.tap = 0x01 → x.tdi.length = 32 →
      s.drScan x = { s with out := s.out ++ [.tdo ((List.range 32).map (fun i => bit 0xB3F3004D i))] })
    ∧ (s.pins.tap = 0xFF → s.drScan x = { s with out := s.out ++ [.tdo ((false :: x.tdi).take x.tdi.length)] })
    ∧ s.drScan x = { s with out := (s.drScan x).out, pins := { s.pins with boundary := (s.drScan x).pins.boundary } })
  ∧ (∀ (x : BitVec 501) (v : Bool),
    (∀ i : Fin 22, Output.boundary i v ∈ boundaryOuts x ↔ x.getLsbD (3 * i + 2) = true ∧ x.getLsbD (3 * i + 1) = v)
    ∧ (∀ j : Fin 145, Output.boundary (22 + j) v ∈ boundaryOuts x ↔ x.getLsbD (67 + 2 * j) = true ∧ x.getLsbD (66 + 2 * j) = v))
end

