-- ==== Sys2Proof/Laws/Tab.lean ====
section
/-! SUPPORT. What reading and writing a sparse table does: read after write, every other number
unchanged, and the canonical form kept. -/
namespace Sys2Proof

variable {α : Type}

theorem tget_terase_same (d : α) (t : Tab α) (i : Nat) : tget d (terase t i) i = d := by
  induction t with
  | nil => rfl
  | cons p r ih => obtain ⟨k, v⟩ := p; by_cases h : k = i <;> simp [terase, tget, h, ih]

theorem tget_terase_ne (d : α) (t : Tab α) {i j : Nat} (h : j ≠ i) :
    tget d (terase t i) j = tget d t j := by
  induction t with
  | nil => rfl
  | cons p r ih =>
    obtain ⟨k, v⟩ := p
    by_cases h1 : k = i
    · subst h1; simp [terase, tget, ih, Ne.symm h]
    · by_cases h2 : k = j
      · subst h2; simp [terase, tget, h1]
      · simp [terase, tget, h1, h2, ih]

theorem tget_tput_same (d : α) (t : Tab α) (i : Nat) (v : α) (h : ∀ p ∈ t, p.1 ≠ i) :
    tget d (tput t i v) i = v := by
  induction t with
  | nil => simp [tput, tget]
  | cons p r ih =>
    obtain ⟨k, w⟩ := p
    have hk : k ≠ i := h (k, w) (by simp)
    by_cases h1 : i < k
    · simp [tput, tget, h1]
    · simp [tput, tget, h1, hk]; exact ih fun p hp => h p (by simp [hp])

theorem tget_tput_ne (d : α) (t : Tab α) {i j : Nat} (v : α) (h : j ≠ i) :
    tget d (tput t i v) j = tget d t j := by
  induction t with
  | nil => simp [tput, tget, Ne.symm h]
  | cons p r ih =>
    obtain ⟨k, w⟩ := p
    by_cases h1 : i < k
    · simp [tput, tget, h1, Ne.symm h]
    · simp [tput, tget, h1, ih]

theorem terase_no (t : Tab α) (i : Nat) : ∀ p ∈ terase t i, p.1 ≠ i := by
  induction t with
  | nil => simp [terase]
  | cons p r ih =>
    obtain ⟨k, w⟩ := p
    by_cases h : k = i
    · simpa [terase, h] using ih
    · simp only [terase, h, if_false, List.mem_cons, forall_eq_or_imp]
      exact ⟨h, ih⟩

/-- Read after write: the value written. -/
@[simp] theorem tget_tset_same [DecidableEq α] (d : α) (t : Tab α) (i : Nat) (v : α) :
    tget d (tset d t i v) i = v := by
  unfold tset
  split
  · next h => rw [tget_terase_same, h]
  · exact tget_tput_same d _ i v (terase_no t i)

/-- A write leaves every other number alone. -/
theorem tget_tset_ne [DecidableEq α] (d : α) {d' : α} (t : Tab α) {i j : Nat} (v : α) (h : j ≠ i) :
    tget d (tset d' t i v) j = tget d t j := by
  unfold tset
  split
  · exact tget_terase_ne d t h
  · rw [tget_tput_ne d _ v h, tget_terase_ne d t h]

theorem tget_tset [DecidableEq α] (d : α) (t : Tab α) (i j : Nat) (v : α) :
    tget d (tset d t i v) j = if j = i then v else tget d t j := by
  split
  · next h => subst h; simp
  · next h => exact tget_tset_ne d t v h

theorem twf_mono [DecidableEq α] (d : α) {a b : Nat} (t : Tab α) (h : a ≤ b) (w : twf d b t = true) :
    twf d a t = true := by
  cases t with
  | nil => rfl
  | cons p r =>
    obtain ⟨k, v⟩ := p
    simp [twf] at w ⊢
    exact ⟨⟨by omega, w.1.2⟩, w.2⟩

theorem twf_terase [DecidableEq α] (d : α) (t : Tab α) (i lo : Nat) (w : twf d lo t = true) :
    twf d lo (terase t i) = true := by
  induction t generalizing lo with
  | nil => rfl
  | cons p r ih =>
    obtain ⟨k, v⟩ := p
    simp [twf] at w
    by_cases h : k = i
    · simp only [terase, h, if_true]
      subst h
      exact twf_mono d _ (by omega) (ih _ w.2)
    · simp only [terase, h, if_false, twf, Bool.and_eq_true, decide_eq_true_eq]
      exact ⟨⟨w.1.1, w.1.2⟩, ih _ w.2⟩

theorem twf_tput [DecidableEq α] (d : α) (t : Tab α) (i lo : Nat) (v : α) (hv : v ≠ d) (hlo : lo ≤ i)
    (hno : ∀ p ∈ t, p.1 ≠ i) (w : twf d lo t = true) : twf d lo (tput t i v) = true := by
  induction t generalizing lo with
  | nil => simp [tput, twf, hv, hlo]
  | cons p r ih =>
    obtain ⟨k, u⟩ := p
    simp [twf] at w
    have hk : k ≠ i := hno (k, u) (by simp)
    by_cases h : i < k
    · simp only [tput, h, if_true, twf, Bool.and_eq_true, decide_eq_true_eq]
      exact ⟨⟨hlo, hv⟩, ⟨⟨by omega, w.1.2⟩, w.2⟩⟩
    · simp only [tput, h, if_false, twf, Bool.and_eq_true, decide_eq_true_eq]
      exact ⟨⟨w.1.1, w.1.2⟩, ih _ (by omega) (fun p hp => hno p (by simp [hp])) w.2⟩

/-- Every write keeps the canonical form. -/
theorem twf_tset [DecidableEq α] (d : α) (t : Tab α) (i : Nat) (v : α) (w : twf d 0 t = true) :
    twf d 0 (tset d t i v) = true := by
  unfold tset
  split
  · exact twf_terase d t i 0 w
  · next h => exact twf_tput d _ i 0 v h (by omega) (terase_no t i) (twf_terase d t i 0 w)

theorem bytesLE_length (n : Nat) : ∀ v, (bytesLE n v).length = n := by
  induction n with
  | zero => intro v; rfl
  | succ n ih => intro v; simp [bytesLE, ih]

theorem ofBytesLE_bytesLE : ∀ (l : List Byte), bytesLE l.length (ofBytesLE l) = l := by
  intro l
  induction l with
  | nil => rfl
  | cons b r ih =>
    have hb : b.toNat < 256 := b.isLt
    have h1 : (b.toNat + 256 * ofBytesLE r) % 256 = b.toNat := by omega
    have h2 : (b.toNat + 256 * ofBytesLE r) / 256 = ofBytesLE r := by omega
    simp [bytesLE, ofBytesLE, h1, h2, ih]

theorem ofBytesLE_lt : ∀ (l : List Byte), ofBytesLE l < 256 ^ l.length := by
  intro l
  induction l with
  | nil => simp [ofBytesLE]
  | cons b r ih =>
    have hb : b.toNat < 256 := b.isLt
    simp only [ofBytesLE, List.length_cons, Nat.pow_succ]
    omega

end Sys2Proof
end

