-- ==== Sys2Proof/Laws/Cipher.lean ====
section
/-! SUPPORT. The cipher engine's algorithm works on bytes: a block and a tag are 16 bytes, and what was sealed opens
(13_cipher.md, R297, R300). -/
namespace Sys2Proof

/-- A byte string of n bytes, held as numbers. -/
def IsBytes (n : Nat) (l : List Nat) : Prop := l.length = n ∧ ∀ x ∈ l, x < 256

theorem isBytes_xorBytes {n : Nat} {a b : List Nat} (ha : IsBytes n a) (hb : IsBytes n b) : IsBytes n (xorBytes a b) := by
  refine ⟨by simp [xorBytes, ha.1, hb.1], fun x hx => ?_⟩
  simp only [xorBytes] at hx
  obtain ⟨i, hi, rfl⟩ := List.mem_iff_getElem.mp hx
  simp only [List.getElem_zipWith]
  exact Nat.xor_lt_two_pow (n := 8) (ha.2 _ (List.getElem_mem _)) (hb.2 _ (List.getElem_mem _))

theorem isBytes_append {m n : Nat} {a b : List Nat} (ha : IsBytes m a) (hb : IsBytes n b) : IsBytes (m + n) (a ++ b) :=
  ⟨by simp [ha.1, hb.1], fun x hx => (List.mem_append.mp hx).elim (ha.2 x) (hb.2 x)⟩

theorem subByte_lt (b : Nat) : subByte b < 256 := by
  have h : ∀ x ∈ aesSbox, x < 256 := by decide +kernel
  simp only [subByte, List.getD_eq_getElem?_getD]
  cases hx : aesSbox[b % 256]? with
  | none => simp
  | some v => exact h v (List.mem_of_getElem? hx)

theorem isBytes_sub {n : Nat} {l : List Nat} (h : l.length = n) : IsBytes n (l.map subByte) :=
  ⟨by simp [h], fun x hx => by obtain ⟨y, -, rfl⟩ := List.mem_map.mp hx; exact subByte_lt y⟩

theorem xtime_lt {b : Nat} (h : b < 256) : xtime b < 256 := by
  unfold xtime
  split
  · omega
  · exact Nat.xor_lt_two_pow (n := 8) (by omega) (by omega)

/-- Every word that the key schedule makes has four bytes. -/
theorem keyExpand_words (fuel : Nat) : ∀ (i rcon : Nat) (ws : List (List Nat)), rcon < 256 → 8 ≤ ws.length →
    (∀ w ∈ ws, IsBytes 4 w) → ∀ w ∈ keyExpand fuel i rcon ws, IsBytes 4 w := by
  induction fuel with
  | zero => intro i rcon ws _ _ h w hw; exact h w hw
  | succ n ih =>
    intro i rcon ws hr hl h
    obtain ⟨p, r, rfl⟩ : ∃ p r, ws = p :: r := by
      cases ws with
      | nil => simp at hl
      | cons p r => exact ⟨p, r, rfl⟩
    have hp : IsBytes 4 p := h p (by simp)
    have ho : IsBytes 4 ((p :: r).getD 7 []) := by
      rw [List.getD_eq_getElem?_getD, List.getElem?_eq_getElem (by omega)]
      exact h _ (List.getElem_mem _)
    have ht : IsBytes 4 (if i % 8 = 0 then
        match (p.drop 1 ++ p.take 1).map subByte with
        | a :: r => (a ^^^ rcon) :: r
        | [] => []
      else if i % 8 = 4 then p.map subByte else p) := by
      split
      · have hs : IsBytes 4 ((p.drop 1 ++ p.take 1).map subByte) := isBytes_sub (by simp [hp.1])
        revert hs
        cases (p.drop 1 ++ p.take 1).map subByte with
        | nil => exact fun hs => hs
        | cons a q =>
          intro hs
          refine ⟨by simpa using hs.1, fun x hx => ?_⟩
          rcases List.mem_cons.mp hx with rfl | hx
          · exact Nat.xor_lt_two_pow (n := 8) (hs.2 a (by simp)) hr
          · exact hs.2 x (by simp [hx])
      · split
        · exact isBytes_sub hp.1
        · exact hp
    unfold keyExpand
    refine ih _ _ _ ?_ (by simp at hl ⊢; omega) ?_
    · split
      · exact xtime_lt hr
      · exact hr
    · intro w hw
      rcases List.mem_cons.mp hw with rfl | hw
      · exact isBytes_xorBytes ho ht
      · exact h w hw

theorem keyExpand_length (fuel : Nat) : ∀ (i rcon : Nat) (ws : List (List Nat)),
    (keyExpand fuel i rcon ws).length = fuel + ws.length := by
  induction fuel with
  | zero => intros; simp [keyExpand]
  | succ n ih => intro i rcon ws; unfold keyExpand; rw [ih]; simp; omega

theorem isBytes_flatten4 : ∀ (ws : List (List Nat)), (∀ w ∈ ws, IsBytes 4 w) → IsBytes (4 * ws.length) ws.flatten := by
  intro ws
  induction ws with
  | nil => intro _; exact ⟨rfl, by simp⟩
  | cons w r ih =>
    intro h
    have := isBytes_append (h w (by simp)) (ih (fun x hx => h x (by simp [hx])))
    simpa [Nat.mul_add, Nat.add_comm] using this

/-- Every round key of a key of 32 bytes has 16 bytes. -/
theorem roundKeys_bytes {key : List Nat} (h : IsBytes 32 key) : ∀ k ∈ roundKeys key, IsBytes 16 k := by
  intro k hk
  simp only [roundKeys, List.mem_map, List.mem_range] at hk
  obtain ⟨r, hr, rfl⟩ := hk
  have h0 : ∀ w ∈ ((List.range 8).map (fun i => (key.drop (4 * i)).take 4)).reverse, IsBytes 4 w := by
    intro w hw
    simp only [List.mem_reverse, List.mem_map, List.mem_range] at hw
    obtain ⟨i, hi, rfl⟩ := hw
    exact ⟨by simp [h.1]; omega, fun x hx => h.2 x (List.mem_of_mem_drop (List.mem_of_mem_take hx))⟩
  have hw := keyExpand_words 52 8 1 _ (by omega) (by simp) h0
  have hl := keyExpand_length 52 8 1 ((List.range 8).map (fun i => (key.drop (4 * i)).take 4)).reverse
  have := isBytes_flatten4 (((keyExpand 52 8 1 ((List.range 8).map (fun i => (key.drop (4 * i)).take 4)).reverse).reverse.drop
    (4 * r)).take 4) (fun w hm => hw w (List.mem_reverse.mp (List.mem_of_mem_drop (List.mem_of_mem_take hm))))
  have hlen : (((keyExpand 52 8 1 ((List.range 8).map (fun i => (key.drop (4 * i)).take 4)).reverse).reverse.drop
    (4 * r)).take 4).length = 4 := by
    simp only [List.length_take, List.length_drop, List.length_reverse, hl]
    simp; omega
  rwa [hlen] at this

theorem aesRounds_bytes : ∀ (ks : List (List Nat)) (s : List Nat), ks ≠ [] → (∀ k ∈ ks, IsBytes 16 k) →
    IsBytes 16 (aesRounds ks s) := by
  intro ks
  induction ks with
  | nil => intro s h; exact absurd rfl h
  | cons k r ih =>
    intro s _ h
    cases r with
    | nil =>
      refine isBytes_xorBytes ⟨by simp [shiftRows], fun x hx => ?_⟩ (h k (by simp))
      simp only [shiftRows, List.mem_map] at hx
      obtain ⟨i, -, rfl⟩ := hx
      rw [List.getD_eq_getElem?_getD]
      cases hy : (s.map subByte)[i]? with
      | none => simp
      | some v =>
        obtain ⟨z, -, rfl⟩ := List.mem_map.mp (List.mem_of_getElem? hy)
        exact subByte_lt z
    | cons k' r' => exact ih _ (by simp) (fun x hx => h x (List.mem_cons_of_mem _ hx))

/-- R297: a block is 16 bytes. -/
theorem aes256_bytes {key : List Nat} (h : IsBytes 32 key) (b : List Nat) : IsBytes 16 (aes256 key b) := by
  have hk := roundKeys_bytes h
  obtain ⟨k, r, e⟩ : ∃ k r, roundKeys key = k :: r := ⟨_, _, rfl⟩
  unfold aes256 aesBlock
  rw [e] at hk ⊢
  refine aesRounds_bytes r _ ?_ (fun x hx => hk x (by simp [hx]))
  rintro rfl
  have := congrArg List.length e
  simp [roundKeys] at this

theorem numBlock_bytes (v : Nat) : IsBytes 16 (numBlock v) := by
  refine ⟨by simp [numBlock], fun x hx => ?_⟩
  simp only [numBlock, List.mem_map] at hx
  obtain ⟨i, -, rfl⟩ := hx
  exact Nat.mod_lt _ (by omega)

/-- R300: a tag is 16 bytes. -/
theorem gcmTag_bytes {key : List Nat} (h : IsBytes 32 key) (iv aad ct : List Nat) : IsBytes 16 (gcmTag key iv aad ct) :=
  isBytes_xorBytes (numBlock_bytes _) (aes256_bytes h _)

theorem natsOf_bytesOf {n : Nat} {l : List Nat} (h : IsBytes n l) : natsOf (bytesOf l) = l := by
  simp only [natsOf, bytesOf, List.map_map]
  refine (List.map_congr_left (fun x hx => ?_)).trans (List.map_id l)
  simpa using h.2 x hx

theorem natsOf_bytes (l : List Byte) : IsBytes l.length (natsOf l) := by
  refine ⟨by simp [natsOf], fun x hx => ?_⟩
  obtain ⟨y, -, rfl⟩ := List.mem_map.mp hx
  exact y.isLt

/-- R300, R304: a ciphertext opens under the tag it was sealed with. -/
theorem gcmOpen_gcmTag (key iv aad ct : List Nat) :
    gcmOpen key iv aad ct (gcmTag key iv aad ct) = some (ctrMode (roundKeys key) iv (ct.length + 1) 2 ct) := if_pos rfl

namespace Machine

theorem rootKeyBytes_bytes : IsBytes 32 rootKeyBytes := by
  simpa [rootKeyBytes, bytesLE_length] using natsOf_bytes (bytesLE 32 Config.rootKey.toNat)

/-- R298: a derived key is 32 bytes. -/
theorem deriveKey_bytes {key : List Nat} (h : IsBytes 32 key) (u a b : Nat) : IsBytes 32 (deriveKey key u a b) :=
  isBytes_append (aes256_bytes h _) (aes256_bytes h _)

end Machine
end Sys2Proof
end

