-- ==== Sys2Proof/Laws/Dict.lean ====
section
/-! SUPPORT. The object dictionary: a row found holds the object, and every reset value fits its object (R447, R476, R477). -/
namespace Sys2Proof

/-- A row that is found is a row of the dictionary and holds the object. -/
theorem dictFind_some {o : Nat} {r : ObjRow} (h : dictFind o = some r) : r ∈ dictRows ∧ r.holds o = true :=
  ⟨List.mem_of_find?_eq_some h, @List.find?_some _ (fun r : ObjRow => r.holds o) _ _ h⟩

theorem objBits_of_find {o : Nat} {r : ObjRow} (h : dictFind o = some r) : objBits o = 8 * r.size := by
  simp only [objBits, h]

theorem dictRows_reset : dictRows.all (fun r => decide (r.reset < 2 ^ (8 * r.size))) = true := by decide +kernel

/-- The rows of an index family have one size. -/
theorem size_of_index {i n : Nat} (hs : dictRows.all (fun r => !(decide (r.idx ≤ i) && decide (i < r.idx + r.nIdx)) || r.size == n) = true)
    {o : Nat} (hi : o / 256 = i) (h : dictFind o ≠ none) : objBits o = 8 * n := by
  obtain ⟨r, hr⟩ := Option.ne_none_iff_exists'.mp h
  obtain ⟨hm, hh⟩ := dictFind_some hr
  have := List.all_eq_true.mp hs r hm
  simp only [ObjRow.holds, hi, Bool.and_eq_true] at hh
  simp only [hh.1.1, Bool.and_self, Bool.not_true, Bool.false_or, beq_iff_eq] at this
  rw [objBits_of_find hr, this]

theorem mgmtLinkLocal_lt (mac : Nat) : mgmtLinkLocal mac < 2 ^ 128 := by
  refine Nat.lt_of_lt_of_le (ofBytesLE_lt _) ?_
  have : ∀ (l : List Byte), l.length = 6 → ([0xFE#8, 0x80#8, 0, 0, 0, 0, 0, 0] ++ l.take 3 ++ [0xFF#8, 0xFE#8] ++ l.drop 3).length = 16 := by
    intro l h; simp [h]
  rw [this]
  · decide
  · simp [bytesBE, bytesLE]

/-- Every reset value fits its object (R9, R447). -/
theorem objReset_lt (o : Nat) : objReset o < 2 ^ objBits o := by
  unfold objReset
  split
  · next h =>
    have : objBits o = 128 := by subst h; decide +kernel
    rw [this]; exact Config.serialNumber.isLt
  split
  · next h =>
    have : objBits o = 64 := by subst h; decide +kernel
    rw [this]; exact Nat.lt_trans Config.mgmtMac.isLt (by decide)
  split
  · next h =>
    have : objBits o = 128 := by subst h; decide +kernel
    rw [this]; exact mgmtLinkLocal_lt _
  split
  · next h =>
    rw [size_of_index (n := 8) (by decide +kernel) h.1 h.2]
    exact Nat.lt_trans (Config.portMac _).isLt (by decide)
  split
  · next h =>
    rw [size_of_index (n := 4) (by decide +kernel) h.1 h.2]
    exact (Config.txPathPs _).isLt
  split
  · next h =>
    rw [size_of_index (n := 4) (by decide +kernel) h.1 h.2]
    exact (Config.rxPathPs _).isLt
  · cases h : dictFind o with
    | none => exact Nat.two_pow_pos _
    | some r =>
      rw [objBits_of_find h]
      simpa using List.all_eq_true.mp dictRows_reset r (dictFind_some h).1

end Sys2Proof
end

