-- ==== Sys2Proof/Laws/State.lean ====
section
/-! SUPPORT. What each named update of the state leaves alone, field by field, and what it makes of the fields it
changes. -/
namespace Sys2Proof.Machine

variable (s : State)

@[simp] theorem State.tick_pending (t : Nat) : (s.tick t).pending = s.pending := rfl
@[simp] theorem State.tick_free (t : Nat) : (s.tick t).free = s.free := rfl
@[simp] theorem State.tick_objs (t : Nat) : (s.tick t).objs = s.objs := rfl
@[simp] theorem State.tick_mem (t : Nat) : (s.tick t).mem = s.mem := rfl
@[simp] theorem State.tick_poison (t : Nat) : (s.tick t).poison = s.poison := rfl
@[simp] theorem State.tick_out (t : Nat) : (s.tick t).out = s.out := rfl
@[simp] theorem State.tick_answer (t : Nat) : (s.tick t).answer = s.answer := rfl
@[simp] theorem State.tick_ring (t : Nat) : (s.tick t).ring = s.ring := rfl
@[simp] theorem State.tick_events (t : Nat) : (s.tick t).events = s.events := rfl
@[simp] theorem State.tick_scores (t : Nat) : (s.tick t).scores = s.scores := rfl
@[simp] theorem State.tick_failedEls (t : Nat) : (s.tick t).failedEls = s.failedEls := rfl
@[simp] theorem State.tick_tm (t : Nat) : (s.tick t).tm = s.tm := rfl
@[simp] theorem State.tick_site (t : Nat) : (s.tick t).site = s.site := rfl
@[simp] theorem State.tick_eng (t : Nat) : (s.tick t).eng = s.eng := rfl
@[simp] theorem State.tick_slot0 (t : Nat) : (s.tick t).slot0 = s.slot0 := rfl
@[simp] theorem State.tick_slot1 (t : Nat) : (s.tick t).slot1 = s.slot1 := rfl
@[simp] theorem State.tick_streams (t : Nat) : (s.tick t).streams = s.streams := rfl
@[simp] theorem State.tick_groups (t : Nat) : (s.tick t).groups = s.groups := rfl
@[simp] theorem State.tick_groupInfo (t : Nat) : (s.tick t).groupInfo = s.groupInfo := rfl
@[simp] theorem State.tick_opt (t : Nat) : (s.tick t).opt = s.opt := rfl
@[simp] theorem State.tick_damages (t : Nat) : (s.tick t).damages = s.damages := rfl
@[simp] theorem State.tick_landings (t : Nat) : (s.tick t).landings = s.landings := rfl
@[simp] theorem State.tick_memSt (t : Nat) : (s.tick t).memSt = s.memSt := rfl
@[simp] theorem State.tick_links (t : Nat) : (s.tick t).links = s.links := rfl
@[simp] theorem State.tick_framer (t : Nat) : (s.tick t).framer = s.framer := rfl
@[simp] theorem State.tick_routes (t : Nat) : (s.tick t).routes = s.routes := rfl
@[simp] theorem State.tick_chans (t : Nat) : (s.tick t).chans = s.chans := rfl
@[simp] theorem State.tick_foreign (t : Nat) : (s.tick t).foreign = s.foreign := rfl
@[simp] theorem State.tick_defects (t : Nat) : (s.tick t).defects = s.defects := rfl
@[simp] theorem State.tick_ports (t : Nat) : (s.tick t).ports = s.ports := rfl
@[simp] theorem State.tick_ringSt (t : Nat) : (s.tick t).ringSt = s.ringSt := rfl
@[simp] theorem State.tick_cipher (t : Nat) : (s.tick t).cipher = s.cipher := rfl
@[simp] theorem State.tick_optics (t : Nat) : (s.tick t).optics = s.optics := rfl
@[simp] theorem State.tick_engines (t : Nat) : (s.tick t).engines = s.engines := rfl
@[simp] theorem State.tick_monitor (t : Nat) : (s.tick t).monitor = s.monitor := rfl
@[simp] theorem State.tick_power (t : Nat) : (s.tick t).power = s.power := rfl
@[simp] theorem State.tick_cells (t : Nat) : (s.tick t).cells = s.cells := rfl
@[simp] theorem State.tick_jdp0 (t : Nat) : (s.tick t).jdp0 = s.jdp0 := rfl
@[simp] theorem State.tick_jdp1 (t : Nat) : (s.tick t).jdp1 = s.jdp1 := rfl
@[simp] theorem State.tick_mgmtChange (t : Nat) : (s.tick t).mgmtChange = s.mgmtChange := rfl
@[simp] theorem State.tick_cvs (t : Nat) : (s.tick t).cvs = s.cvs := rfl
@[simp] theorem State.tick_boot (t : Nat) : (s.tick t).boot = s.boot := rfl
@[simp] theorem State.tick_pins (t : Nat) : (s.tick t).pins = s.pins := rfl

@[simp] theorem State.setObj_pending (o v : Nat) : (s.setObj o v).pending = s.pending := rfl
@[simp] theorem State.setObj_now (o v : Nat) : (s.setObj o v).now = s.now := rfl
@[simp] theorem State.setObj_free (o v : Nat) : (s.setObj o v).free = s.free := rfl
@[simp] theorem State.setObj_mem (o v : Nat) : (s.setObj o v).mem = s.mem := rfl
@[simp] theorem State.setObj_poison (o v : Nat) : (s.setObj o v).poison = s.poison := rfl
@[simp] theorem State.setObj_out (o v : Nat) : (s.setObj o v).out = s.out := rfl
@[simp] theorem State.setObj_answer (o v : Nat) : (s.setObj o v).answer = s.answer := rfl
@[simp] theorem State.setObj_ring (o v : Nat) : (s.setObj o v).ring = s.ring := rfl
@[simp] theorem State.setObj_events (o v : Nat) : (s.setObj o v).events = s.events := rfl
@[simp] theorem State.setObj_scores (o v : Nat) : (s.setObj o v).scores = s.scores := rfl
@[simp] theorem State.setObj_failedEls (o v : Nat) : (s.setObj o v).failedEls = s.failedEls := rfl
@[simp] theorem State.setObj_tm (o v : Nat) : (s.setObj o v).tm = s.tm := rfl
@[simp] theorem State.setObj_site (o v : Nat) : (s.setObj o v).site = s.site := rfl
@[simp] theorem State.setObj_eng (o v : Nat) : (s.setObj o v).eng = s.eng := rfl
@[simp] theorem State.setObj_slot0 (o v : Nat) : (s.setObj o v).slot0 = s.slot0 := rfl
@[simp] theorem State.setObj_slot1 (o v : Nat) : (s.setObj o v).slot1 = s.slot1 := rfl
@[simp] theorem State.setObj_streams (o v : Nat) : (s.setObj o v).streams = s.streams := rfl
@[simp] theorem State.setObj_groups (o v : Nat) : (s.setObj o v).groups = s.groups := rfl
@[simp] theorem State.setObj_groupInfo (o v : Nat) : (s.setObj o v).groupInfo = s.groupInfo := rfl
@[simp] theorem State.setObj_opt (o v : Nat) : (s.setObj o v).opt = s.opt := rfl
@[simp] theorem State.setObj_damages (o v : Nat) : (s.setObj o v).damages = s.damages := rfl
@[simp] theorem State.setObj_landings (o v : Nat) : (s.setObj o v).landings = s.landings := rfl
@[simp] theorem State.setObj_memSt (o v : Nat) : (s.setObj o v).memSt = s.memSt := rfl
@[simp] theorem State.setObj_links (o v : Nat) : (s.setObj o v).links = s.links := rfl
@[simp] theorem State.setObj_framer (o v : Nat) : (s.setObj o v).framer = s.framer := rfl
@[simp] theorem State.setObj_routes (o v : Nat) : (s.setObj o v).routes = s.routes := rfl
@[simp] theorem State.setObj_chans (o v : Nat) : (s.setObj o v).chans = s.chans := rfl
@[simp] theorem State.setObj_foreign (o v : Nat) : (s.setObj o v).foreign = s.foreign := rfl
@[simp] theorem State.setObj_defects (o v : Nat) : (s.setObj o v).defects = s.defects := rfl
@[simp] theorem State.setObj_ports (o v : Nat) : (s.setObj o v).ports = s.ports := rfl
@[simp] theorem State.setObj_ringSt (o v : Nat) : (s.setObj o v).ringSt = s.ringSt := rfl
@[simp] theorem State.setObj_cipher (o v : Nat) : (s.setObj o v).cipher = s.cipher := rfl
@[simp] theorem State.setObj_optics (o v : Nat) : (s.setObj o v).optics = s.optics := rfl
@[simp] theorem State.setObj_engines (o v : Nat) : (s.setObj o v).engines = s.engines := rfl
@[simp] theorem State.setObj_monitor (o v : Nat) : (s.setObj o v).monitor = s.monitor := rfl
@[simp] theorem State.setObj_power (o v : Nat) : (s.setObj o v).power = s.power := rfl
@[simp] theorem State.setObj_cells (o v : Nat) : (s.setObj o v).cells = s.cells := rfl
@[simp] theorem State.setObj_jdp0 (o v : Nat) : (s.setObj o v).jdp0 = s.jdp0 := rfl
@[simp] theorem State.setObj_jdp1 (o v : Nat) : (s.setObj o v).jdp1 = s.jdp1 := rfl
@[simp] theorem State.setObj_mgmtChange (o v : Nat) : (s.setObj o v).mgmtChange = s.mgmtChange := rfl
@[simp] theorem State.setObj_cvs (o v : Nat) : (s.setObj o v).cvs = s.cvs := rfl
@[simp] theorem State.setObj_boot (o v : Nat) : (s.setObj o v).boot = s.boot := rfl
@[simp] theorem State.setObj_pins (o v : Nat) : (s.setObj o v).pins = s.pins := rfl

theorem State.bumpBy_eq (o n : Nat) : s.bumpBy o n =
    { s with objs := (s.bumpBy o n).objs } := rfl
@[simp] theorem State.bumpBy_pending (o n : Nat) : (s.bumpBy o n).pending = s.pending := by rw [State.bumpBy_eq]
@[simp] theorem State.bumpBy_now (o n : Nat) : (s.bumpBy o n).now = s.now := by rw [State.bumpBy_eq]
@[simp] theorem State.bumpBy_free (o n : Nat) : (s.bumpBy o n).free = s.free := by rw [State.bumpBy_eq]
@[simp] theorem State.bumpBy_mem (o n : Nat) : (s.bumpBy o n).mem = s.mem := by rw [State.bumpBy_eq]
@[simp] theorem State.bumpBy_poison (o n : Nat) : (s.bumpBy o n).poison = s.poison := by rw [State.bumpBy_eq]
@[simp] theorem State.bumpBy_out (o n : Nat) : (s.bumpBy o n).out = s.out := by rw [State.bumpBy_eq]
@[simp] theorem State.bumpBy_answer (o n : Nat) : (s.bumpBy o n).answer = s.answer := by rw [State.bumpBy_eq]
@[simp] theorem State.bumpBy_ring (o n : Nat) : (s.bumpBy o n).ring = s.ring := by rw [State.bumpBy_eq]
@[simp] theorem State.bumpBy_events (o n : Nat) : (s.bumpBy o n).events = s.events := by rw [State.bumpBy_eq]
@[simp] theorem State.bumpBy_scores (o n : Nat) : (s.bumpBy o n).scores = s.scores := by rw [State.bumpBy_eq]
@[simp] theorem State.bumpBy_failedEls (o n : Nat) : (s.bumpBy o n).failedEls = s.failedEls := by rw [State.bumpBy_eq]
@[simp] theorem State.bumpBy_tm (o n : Nat) : (s.bumpBy o n).tm = s.tm := by rw [State.bumpBy_eq]
@[simp] theorem State.bumpBy_site (o n : Nat) : (s.bumpBy o n).site = s.site := by rw [State.bumpBy_eq]
@[simp] theorem State.bumpBy_eng (o n : Nat) : (s.bumpBy o n).eng = s.eng := by rw [State.bumpBy_eq]
@[simp] theorem State.bumpBy_slot0 (o n : Nat) : (s.bumpBy o n).slot0 = s.slot0 := by rw [State.bumpBy_eq]
@[simp] theorem State.bumpBy_slot1 (o n : Nat) : (s.bumpBy o n).slot1 = s.slot1 := by rw [State.bumpBy_eq]
@[simp] theorem State.bumpBy_streams (o n : Nat) : (s.bumpBy o n).streams = s.streams := by rw [State.bumpBy_eq]
@[simp] theorem State.bumpBy_groups (o n : Nat) : (s.bumpBy o n).groups = s.groups := by rw [State.bumpBy_eq]
@[simp] theorem State.bumpBy_groupInfo (o n : Nat) : (s.bumpBy o n).groupInfo = s.groupInfo := by rw [State.bumpBy_eq]
@[simp] theorem State.bumpBy_opt (o n : Nat) : (s.bumpBy o n).opt = s.opt := by rw [State.bumpBy_eq]
@[simp] theorem State.bumpBy_damages (o n : Nat) : (s.bumpBy o n).damages = s.damages := by rw [State.bumpBy_eq]
@[simp] theorem State.bumpBy_landings (o n : Nat) : (s.bumpBy o n).landings = s.landings := by rw [State.bumpBy_eq]
@[simp] theorem State.bumpBy_memSt (o n : Nat) : (s.bumpBy o n).memSt = s.memSt := by rw [State.bumpBy_eq]
@[simp] theorem State.bumpBy_links (o n : Nat) : (s.bumpBy o n).links = s.links := by rw [State.bumpBy_eq]
@[simp] theorem State.bumpBy_framer (o n : Nat) : (s.bumpBy o n).framer = s.framer := by rw [State.bumpBy_eq]
@[simp] theorem State.bumpBy_routes (o n : Nat) : (s.bumpBy o n).routes = s.routes := by rw [State.bumpBy_eq]
@[simp] theorem State.bumpBy_chans (o n : Nat) : (s.bumpBy o n).chans = s.chans := by rw [State.bumpBy_eq]
@[simp] theorem State.bumpBy_foreign (o n : Nat) : (s.bumpBy o n).foreign = s.foreign := by rw [State.bumpBy_eq]
@[simp] theorem State.bumpBy_defects (o n : Nat) : (s.bumpBy o n).defects = s.defects := by rw [State.bumpBy_eq]
@[simp] theorem State.bumpBy_ports (o n : Nat) : (s.bumpBy o n).ports = s.ports := by rw [State.bumpBy_eq]
@[simp] theorem State.bumpBy_ringSt (o n : Nat) : (s.bumpBy o n).ringSt = s.ringSt := by rw [State.bumpBy_eq]
@[simp] theorem State.bumpBy_cipher (o n : Nat) : (s.bumpBy o n).cipher = s.cipher := by rw [State.bumpBy_eq]
@[simp] theorem State.bumpBy_optics (o n : Nat) : (s.bumpBy o n).optics = s.optics := by rw [State.bumpBy_eq]
@[simp] theorem State.bumpBy_engines (o n : Nat) : (s.bumpBy o n).engines = s.engines := by rw [State.bumpBy_eq]
@[simp] theorem State.bumpBy_monitor (o n : Nat) : (s.bumpBy o n).monitor = s.monitor := by rw [State.bumpBy_eq]
@[simp] theorem State.bumpBy_power (o n : Nat) : (s.bumpBy o n).power = s.power := by rw [State.bumpBy_eq]
@[simp] theorem State.bumpBy_cells (o n : Nat) : (s.bumpBy o n).cells = s.cells := by rw [State.bumpBy_eq]
@[simp] theorem State.bumpBy_jdp0 (o n : Nat) : (s.bumpBy o n).jdp0 = s.jdp0 := by rw [State.bumpBy_eq]
@[simp] theorem State.bumpBy_jdp1 (o n : Nat) : (s.bumpBy o n).jdp1 = s.jdp1 := by rw [State.bumpBy_eq]
@[simp] theorem State.bumpBy_mgmtChange (o n : Nat) : (s.bumpBy o n).mgmtChange = s.mgmtChange := by rw [State.bumpBy_eq]
@[simp] theorem State.bumpBy_cvs (o n : Nat) : (s.bumpBy o n).cvs = s.cvs := by rw [State.bumpBy_eq]
@[simp] theorem State.bumpBy_boot (o n : Nat) : (s.bumpBy o n).boot = s.boot := by rw [State.bumpBy_eq]
@[simp] theorem State.bumpBy_pins (o n : Nat) : (s.bumpBy o n).pins = s.pins := by rw [State.bumpBy_eq]

theorem State.bump_eq (o : Nat) : s.bump o =
    { s with objs := (s.bump o).objs } := rfl
@[simp] theorem State.bump_pending (o : Nat) : (s.bump o).pending = s.pending := by rw [State.bump_eq]
@[simp] theorem State.bump_now (o : Nat) : (s.bump o).now = s.now := by rw [State.bump_eq]
@[simp] theorem State.bump_free (o : Nat) : (s.bump o).free = s.free := by rw [State.bump_eq]
@[simp] theorem State.bump_mem (o : Nat) : (s.bump o).mem = s.mem := by rw [State.bump_eq]
@[simp] theorem State.bump_poison (o : Nat) : (s.bump o).poison = s.poison := by rw [State.bump_eq]
@[simp] theorem State.bump_out (o : Nat) : (s.bump o).out = s.out := by rw [State.bump_eq]
@[simp] theorem State.bump_answer (o : Nat) : (s.bump o).answer = s.answer := by rw [State.bump_eq]
@[simp] theorem State.bump_ring (o : Nat) : (s.bump o).ring = s.ring := by rw [State.bump_eq]
@[simp] theorem State.bump_events (o : Nat) : (s.bump o).events = s.events := by rw [State.bump_eq]
@[simp] theorem State.bump_scores (o : Nat) : (s.bump o).scores = s.scores := by rw [State.bump_eq]
@[simp] theorem State.bump_failedEls (o : Nat) : (s.bump o).failedEls = s.failedEls := by rw [State.bump_eq]
@[simp] theorem State.bump_tm (o : Nat) : (s.bump o).tm = s.tm := by rw [State.bump_eq]
@[simp] theorem State.bump_site (o : Nat) : (s.bump o).site = s.site := by rw [State.bump_eq]
@[simp] theorem State.bump_eng (o : Nat) : (s.bump o).eng = s.eng := by rw [State.bump_eq]
@[simp] theorem State.bump_slot0 (o : Nat) : (s.bump o).slot0 = s.slot0 := by rw [State.bump_eq]
@[simp] theorem State.bump_slot1 (o : Nat) : (s.bump o).slot1 = s.slot1 := by rw [State.bump_eq]
@[simp] theorem State.bump_streams (o : Nat) : (s.bump o).streams = s.streams := by rw [State.bump_eq]
@[simp] theorem State.bump_groups (o : Nat) : (s.bump o).groups = s.groups := by rw [State.bump_eq]
@[simp] theorem State.bump_groupInfo (o : Nat) : (s.bump o).groupInfo = s.groupInfo := by rw [State.bump_eq]
@[simp] theorem State.bump_opt (o : Nat) : (s.bump o).opt = s.opt := by rw [State.bump_eq]
@[simp] theorem State.bump_damages (o : Nat) : (s.bump o).damages = s.damages := by rw [State.bump_eq]
@[simp] theorem State.bump_landings (o : Nat) : (s.bump o).landings = s.landings := by rw [State.bump_eq]
@[simp] theorem State.bump_memSt (o : Nat) : (s.bump o).memSt = s.memSt := by rw [State.bump_eq]
@[simp] theorem State.bump_links (o : Nat) : (s.bump o).links = s.links := by rw [State.bump_eq]
@[simp] theorem State.bump_framer (o : Nat) : (s.bump o).framer = s.framer := by rw [State.bump_eq]
@[simp] theorem State.bump_routes (o : Nat) : (s.bump o).routes = s.routes := by rw [State.bump_eq]
@[simp] theorem State.bump_chans (o : Nat) : (s.bump o).chans = s.chans := by rw [State.bump_eq]
@[simp] theorem State.bump_foreign (o : Nat) : (s.bump o).foreign = s.foreign := by rw [State.bump_eq]
@[simp] theorem State.bump_defects (o : Nat) : (s.bump o).defects = s.defects := by rw [State.bump_eq]
@[simp] theorem State.bump_ports (o : Nat) : (s.bump o).ports = s.ports := by rw [State.bump_eq]
@[simp] theorem State.bump_ringSt (o : Nat) : (s.bump o).ringSt = s.ringSt := by rw [State.bump_eq]
@[simp] theorem State.bump_cipher (o : Nat) : (s.bump o).cipher = s.cipher := by rw [State.bump_eq]
@[simp] theorem State.bump_optics (o : Nat) : (s.bump o).optics = s.optics := by rw [State.bump_eq]
@[simp] theorem State.bump_engines (o : Nat) : (s.bump o).engines = s.engines := by rw [State.bump_eq]
@[simp] theorem State.bump_monitor (o : Nat) : (s.bump o).monitor = s.monitor := by rw [State.bump_eq]
@[simp] theorem State.bump_power (o : Nat) : (s.bump o).power = s.power := by rw [State.bump_eq]
@[simp] theorem State.bump_cells (o : Nat) : (s.bump o).cells = s.cells := by rw [State.bump_eq]
@[simp] theorem State.bump_jdp0 (o : Nat) : (s.bump o).jdp0 = s.jdp0 := by rw [State.bump_eq]
@[simp] theorem State.bump_jdp1 (o : Nat) : (s.bump o).jdp1 = s.jdp1 := by rw [State.bump_eq]
@[simp] theorem State.bump_mgmtChange (o : Nat) : (s.bump o).mgmtChange = s.mgmtChange := by rw [State.bump_eq]
@[simp] theorem State.bump_cvs (o : Nat) : (s.bump o).cvs = s.cvs := by rw [State.bump_eq]
@[simp] theorem State.bump_boot (o : Nat) : (s.bump o).boot = s.boot := by rw [State.bump_eq]
@[simp] theorem State.bump_pins (o : Nat) : (s.bump o).pins = s.pins := by rw [State.bump_eq]

@[simp] theorem State.emit_pending (x : Output) : (s.emit x).pending = s.pending := rfl
@[simp] theorem State.emit_now (x : Output) : (s.emit x).now = s.now := rfl
@[simp] theorem State.emit_free (x : Output) : (s.emit x).free = s.free := rfl
@[simp] theorem State.emit_objs (x : Output) : (s.emit x).objs = s.objs := rfl
@[simp] theorem State.emit_mem (x : Output) : (s.emit x).mem = s.mem := rfl
@[simp] theorem State.emit_poison (x : Output) : (s.emit x).poison = s.poison := rfl
@[simp] theorem State.emit_answer (x : Output) : (s.emit x).answer = s.answer := rfl
@[simp] theorem State.emit_ring (x : Output) : (s.emit x).ring = s.ring := rfl
@[simp] theorem State.emit_events (x : Output) : (s.emit x).events = s.events := rfl
@[simp] theorem State.emit_scores (x : Output) : (s.emit x).scores = s.scores := rfl
@[simp] theorem State.emit_failedEls (x : Output) : (s.emit x).failedEls = s.failedEls := rfl
@[simp] theorem State.emit_tm (x : Output) : (s.emit x).tm = s.tm := rfl
@[simp] theorem State.emit_site (x : Output) : (s.emit x).site = s.site := rfl
@[simp] theorem State.emit_eng (x : Output) : (s.emit x).eng = s.eng := rfl
@[simp] theorem State.emit_slot0 (x : Output) : (s.emit x).slot0 = s.slot0 := rfl
@[simp] theorem State.emit_slot1 (x : Output) : (s.emit x).slot1 = s.slot1 := rfl
@[simp] theorem State.emit_streams (x : Output) : (s.emit x).streams = s.streams := rfl
@[simp] theorem State.emit_groups (x : Output) : (s.emit x).groups = s.groups := rfl
@[simp] theorem State.emit_groupInfo (x : Output) : (s.emit x).groupInfo = s.groupInfo := rfl
@[simp] theorem State.emit_opt (x : Output) : (s.emit x).opt = s.opt := rfl
@[simp] theorem State.emit_damages (x : Output) : (s.emit x).damages = s.damages := rfl
@[simp] theorem State.emit_landings (x : Output) : (s.emit x).landings = s.landings := rfl
@[simp] theorem State.emit_memSt (x : Output) : (s.emit x).memSt = s.memSt := rfl
@[simp] theorem State.emit_links (x : Output) : (s.emit x).links = s.links := rfl
@[simp] theorem State.emit_framer (x : Output) : (s.emit x).framer = s.framer := rfl
@[simp] theorem State.emit_routes (x : Output) : (s.emit x).routes = s.routes := rfl
@[simp] theorem State.emit_chans (x : Output) : (s.emit x).chans = s.chans := rfl
@[simp] theorem State.emit_foreign (x : Output) : (s.emit x).foreign = s.foreign := rfl
@[simp] theorem State.emit_defects (x : Output) : (s.emit x).defects = s.defects := rfl
@[simp] theorem State.emit_ports (x : Output) : (s.emit x).ports = s.ports := rfl
@[simp] theorem State.emit_ringSt (x : Output) : (s.emit x).ringSt = s.ringSt := rfl
@[simp] theorem State.emit_cipher (x : Output) : (s.emit x).cipher = s.cipher := rfl
@[simp] theorem State.emit_optics (x : Output) : (s.emit x).optics = s.optics := rfl
@[simp] theorem State.emit_engines (x : Output) : (s.emit x).engines = s.engines := rfl
@[simp] theorem State.emit_monitor (x : Output) : (s.emit x).monitor = s.monitor := rfl
@[simp] theorem State.emit_power (x : Output) : (s.emit x).power = s.power := rfl
@[simp] theorem State.emit_cells (x : Output) : (s.emit x).cells = s.cells := rfl
@[simp] theorem State.emit_jdp0 (x : Output) : (s.emit x).jdp0 = s.jdp0 := rfl
@[simp] theorem State.emit_jdp1 (x : Output) : (s.emit x).jdp1 = s.jdp1 := rfl
@[simp] theorem State.emit_mgmtChange (x : Output) : (s.emit x).mgmtChange = s.mgmtChange := rfl
@[simp] theorem State.emit_cvs (x : Output) : (s.emit x).cvs = s.cvs := rfl
@[simp] theorem State.emit_boot (x : Output) : (s.emit x).boot = s.boot := rfl
@[simp] theorem State.emit_pins (x : Output) : (s.emit x).pins = s.pins := rfl

@[simp] theorem State.takeFree_pending : (s.takeFree.2).pending = s.pending := rfl
@[simp] theorem State.takeFree_now : (s.takeFree.2).now = s.now := rfl
@[simp] theorem State.takeFree_objs : (s.takeFree.2).objs = s.objs := rfl
@[simp] theorem State.takeFree_mem : (s.takeFree.2).mem = s.mem := rfl
@[simp] theorem State.takeFree_poison : (s.takeFree.2).poison = s.poison := rfl
@[simp] theorem State.takeFree_out : (s.takeFree.2).out = s.out := rfl
@[simp] theorem State.takeFree_answer : (s.takeFree.2).answer = s.answer := rfl
@[simp] theorem State.takeFree_ring : (s.takeFree.2).ring = s.ring := rfl
@[simp] theorem State.takeFree_events : (s.takeFree.2).events = s.events := rfl
@[simp] theorem State.takeFree_scores : (s.takeFree.2).scores = s.scores := rfl
@[simp] theorem State.takeFree_failedEls : (s.takeFree.2).failedEls = s.failedEls := rfl
@[simp] theorem State.takeFree_tm : (s.takeFree.2).tm = s.tm := rfl
@[simp] theorem State.takeFree_site : (s.takeFree.2).site = s.site := rfl
@[simp] theorem State.takeFree_eng : (s.takeFree.2).eng = s.eng := rfl
@[simp] theorem State.takeFree_slot0 : (s.takeFree.2).slot0 = s.slot0 := rfl
@[simp] theorem State.takeFree_slot1 : (s.takeFree.2).slot1 = s.slot1 := rfl
@[simp] theorem State.takeFree_streams : (s.takeFree.2).streams = s.streams := rfl
@[simp] theorem State.takeFree_groups : (s.takeFree.2).groups = s.groups := rfl
@[simp] theorem State.takeFree_groupInfo : (s.takeFree.2).groupInfo = s.groupInfo := rfl
@[simp] theorem State.takeFree_opt : (s.takeFree.2).opt = s.opt := rfl
@[simp] theorem State.takeFree_damages : (s.takeFree.2).damages = s.damages := rfl
@[simp] theorem State.takeFree_landings : (s.takeFree.2).landings = s.landings := rfl
@[simp] theorem State.takeFree_memSt : (s.takeFree.2).memSt = s.memSt := rfl
@[simp] theorem State.takeFree_links : (s.takeFree.2).links = s.links := rfl
@[simp] theorem State.takeFree_framer : (s.takeFree.2).framer = s.framer := rfl
@[simp] theorem State.takeFree_routes : (s.takeFree.2).routes = s.routes := rfl
@[simp] theorem State.takeFree_chans : (s.takeFree.2).chans = s.chans := rfl
@[simp] theorem State.takeFree_foreign : (s.takeFree.2).foreign = s.foreign := rfl
@[simp] theorem State.takeFree_defects : (s.takeFree.2).defects = s.defects := rfl
@[simp] theorem State.takeFree_ports : (s.takeFree.2).ports = s.ports := rfl
@[simp] theorem State.takeFree_ringSt : (s.takeFree.2).ringSt = s.ringSt := rfl
@[simp] theorem State.takeFree_cipher : (s.takeFree.2).cipher = s.cipher := rfl
@[simp] theorem State.takeFree_optics : (s.takeFree.2).optics = s.optics := rfl
@[simp] theorem State.takeFree_engines : (s.takeFree.2).engines = s.engines := rfl
@[simp] theorem State.takeFree_monitor : (s.takeFree.2).monitor = s.monitor := rfl
@[simp] theorem State.takeFree_power : (s.takeFree.2).power = s.power := rfl
@[simp] theorem State.takeFree_cells : (s.takeFree.2).cells = s.cells := rfl
@[simp] theorem State.takeFree_jdp0 : (s.takeFree.2).jdp0 = s.jdp0 := rfl
@[simp] theorem State.takeFree_jdp1 : (s.takeFree.2).jdp1 = s.jdp1 := rfl
@[simp] theorem State.takeFree_mgmtChange : (s.takeFree.2).mgmtChange = s.mgmtChange := rfl
@[simp] theorem State.takeFree_cvs : (s.takeFree.2).cvs = s.cvs := rfl
@[simp] theorem State.takeFree_boot : (s.takeFree.2).boot = s.boot := rfl
@[simp] theorem State.takeFree_pins : (s.takeFree.2).pins = s.pins := rfl

@[simp] theorem State.reply_pending (r : Status) : (State.reply (r, s)).pending = s.pending := rfl
@[simp] theorem State.reply_now (r : Status) : (State.reply (r, s)).now = s.now := rfl
@[simp] theorem State.reply_free (r : Status) : (State.reply (r, s)).free = s.free := rfl
@[simp] theorem State.reply_objs (r : Status) : (State.reply (r, s)).objs = s.objs := rfl
@[simp] theorem State.reply_mem (r : Status) : (State.reply (r, s)).mem = s.mem := rfl
@[simp] theorem State.reply_poison (r : Status) : (State.reply (r, s)).poison = s.poison := rfl
@[simp] theorem State.reply_out (r : Status) : (State.reply (r, s)).out = s.out := rfl
@[simp] theorem State.reply_ring (r : Status) : (State.reply (r, s)).ring = s.ring := rfl
@[simp] theorem State.reply_events (r : Status) : (State.reply (r, s)).events = s.events := rfl
@[simp] theorem State.reply_scores (r : Status) : (State.reply (r, s)).scores = s.scores := rfl
@[simp] theorem State.reply_failedEls (r : Status) : (State.reply (r, s)).failedEls = s.failedEls := rfl
@[simp] theorem State.reply_tm (r : Status) : (State.reply (r, s)).tm = s.tm := rfl
@[simp] theorem State.reply_site (r : Status) : (State.reply (r, s)).site = s.site := rfl
@[simp] theorem State.reply_eng (r : Status) : (State.reply (r, s)).eng = s.eng := rfl
@[simp] theorem State.reply_slot0 (r : Status) : (State.reply (r, s)).slot0 = s.slot0 := rfl
@[simp] theorem State.reply_slot1 (r : Status) : (State.reply (r, s)).slot1 = s.slot1 := rfl
@[simp] theorem State.reply_streams (r : Status) : (State.reply (r, s)).streams = s.streams := rfl
@[simp] theorem State.reply_groups (r : Status) : (State.reply (r, s)).groups = s.groups := rfl
@[simp] theorem State.reply_groupInfo (r : Status) : (State.reply (r, s)).groupInfo = s.groupInfo := rfl
@[simp] theorem State.reply_opt (r : Status) : (State.reply (r, s)).opt = s.opt := rfl
@[simp] theorem State.reply_damages (r : Status) : (State.reply (r, s)).damages = s.damages := rfl
@[simp] theorem State.reply_landings (r : Status) : (State.reply (r, s)).landings = s.landings := rfl
@[simp] theorem State.reply_memSt (r : Status) : (State.reply (r, s)).memSt = s.memSt := rfl
@[simp] theorem State.reply_links (r : Status) : (State.reply (r, s)).links = s.links := rfl
@[simp] theorem State.reply_framer (r : Status) : (State.reply (r, s)).framer = s.framer := rfl
@[simp] theorem State.reply_routes (r : Status) : (State.reply (r, s)).routes = s.routes := rfl
@[simp] theorem State.reply_chans (r : Status) : (State.reply (r, s)).chans = s.chans := rfl
@[simp] theorem State.reply_foreign (r : Status) : (State.reply (r, s)).foreign = s.foreign := rfl
@[simp] theorem State.reply_defects (r : Status) : (State.reply (r, s)).defects = s.defects := rfl
@[simp] theorem State.reply_ports (r : Status) : (State.reply (r, s)).ports = s.ports := rfl
@[simp] theorem State.reply_ringSt (r : Status) : (State.reply (r, s)).ringSt = s.ringSt := rfl
@[simp] theorem State.reply_cipher (r : Status) : (State.reply (r, s)).cipher = s.cipher := rfl
@[simp] theorem State.reply_optics (r : Status) : (State.reply (r, s)).optics = s.optics := rfl
@[simp] theorem State.reply_engines (r : Status) : (State.reply (r, s)).engines = s.engines := rfl
@[simp] theorem State.reply_monitor (r : Status) : (State.reply (r, s)).monitor = s.monitor := rfl
@[simp] theorem State.reply_power (r : Status) : (State.reply (r, s)).power = s.power := rfl
@[simp] theorem State.reply_cells (r : Status) : (State.reply (r, s)).cells = s.cells := rfl
@[simp] theorem State.reply_jdp0 (r : Status) : (State.reply (r, s)).jdp0 = s.jdp0 := rfl
@[simp] theorem State.reply_jdp1 (r : Status) : (State.reply (r, s)).jdp1 = s.jdp1 := rfl
@[simp] theorem State.reply_mgmtChange (r : Status) : (State.reply (r, s)).mgmtChange = s.mgmtChange := rfl
@[simp] theorem State.reply_cvs (r : Status) : (State.reply (r, s)).cvs = s.cvs := rfl
@[simp] theorem State.reply_boot (r : Status) : (State.reply (r, s)).boot = s.boot := rfl
@[simp] theorem State.reply_pins (r : Status) : (State.reply (r, s)).pins = s.pins := rfl

theorem State.event_eq (c u v : Nat) : s.event c u v =
    { s with objs := (s.event c u v).objs, ring := (s.event c u v).ring, events := (s.event c u v).events } := rfl
@[simp] theorem State.event_pending (c u v : Nat) : (s.event c u v).pending = s.pending := by rw [State.event_eq]
@[simp] theorem State.event_now (c u v : Nat) : (s.event c u v).now = s.now := by rw [State.event_eq]
@[simp] theorem State.event_free (c u v : Nat) : (s.event c u v).free = s.free := by rw [State.event_eq]
@[simp] theorem State.event_mem (c u v : Nat) : (s.event c u v).mem = s.mem := by rw [State.event_eq]
@[simp] theorem State.event_poison (c u v : Nat) : (s.event c u v).poison = s.poison := by rw [State.event_eq]
@[simp] theorem State.event_out (c u v : Nat) : (s.event c u v).out = s.out := by rw [State.event_eq]
@[simp] theorem State.event_answer (c u v : Nat) : (s.event c u v).answer = s.answer := by rw [State.event_eq]
@[simp] theorem State.event_scores (c u v : Nat) : (s.event c u v).scores = s.scores := by rw [State.event_eq]
@[simp] theorem State.event_failedEls (c u v : Nat) : (s.event c u v).failedEls = s.failedEls := by rw [State.event_eq]
@[simp] theorem State.event_tm (c u v : Nat) : (s.event c u v).tm = s.tm := by rw [State.event_eq]
@[simp] theorem State.event_site (c u v : Nat) : (s.event c u v).site = s.site := by rw [State.event_eq]
@[simp] theorem State.event_eng (c u v : Nat) : (s.event c u v).eng = s.eng := by rw [State.event_eq]
@[simp] theorem State.event_slot0 (c u v : Nat) : (s.event c u v).slot0 = s.slot0 := by rw [State.event_eq]
@[simp] theorem State.event_slot1 (c u v : Nat) : (s.event c u v).slot1 = s.slot1 := by rw [State.event_eq]
@[simp] theorem State.event_streams (c u v : Nat) : (s.event c u v).streams = s.streams := by rw [State.event_eq]
@[simp] theorem State.event_groups (c u v : Nat) : (s.event c u v).groups = s.groups := by rw [State.event_eq]
@[simp] theorem State.event_groupInfo (c u v : Nat) : (s.event c u v).groupInfo = s.groupInfo := by rw [State.event_eq]
@[simp] theorem State.event_opt (c u v : Nat) : (s.event c u v).opt = s.opt := by rw [State.event_eq]
@[simp] theorem State.event_damages (c u v : Nat) : (s.event c u v).damages = s.damages := by rw [State.event_eq]
@[simp] theorem State.event_landings (c u v : Nat) : (s.event c u v).landings = s.landings := by rw [State.event_eq]
@[simp] theorem State.event_memSt (c u v : Nat) : (s.event c u v).memSt = s.memSt := by rw [State.event_eq]
@[simp] theorem State.event_links (c u v : Nat) : (s.event c u v).links = s.links := by rw [State.event_eq]
@[simp] theorem State.event_framer (c u v : Nat) : (s.event c u v).framer = s.framer := by rw [State.event_eq]
@[simp] theorem State.event_routes (c u v : Nat) : (s.event c u v).routes = s.routes := by rw [State.event_eq]
@[simp] theorem State.event_chans (c u v : Nat) : (s.event c u v).chans = s.chans := by rw [State.event_eq]
@[simp] theorem State.event_foreign (c u v : Nat) : (s.event c u v).foreign = s.foreign := by rw [State.event_eq]
@[simp] theorem State.event_defects (c u v : Nat) : (s.event c u v).defects = s.defects := by rw [State.event_eq]
@[simp] theorem State.event_ports (c u v : Nat) : (s.event c u v).ports = s.ports := by rw [State.event_eq]
@[simp] theorem State.event_ringSt (c u v : Nat) : (s.event c u v).ringSt = s.ringSt := by rw [State.event_eq]
@[simp] theorem State.event_cipher (c u v : Nat) : (s.event c u v).cipher = s.cipher := by rw [State.event_eq]
@[simp] theorem State.event_optics (c u v : Nat) : (s.event c u v).optics = s.optics := by rw [State.event_eq]
@[simp] theorem State.event_engines (c u v : Nat) : (s.event c u v).engines = s.engines := by rw [State.event_eq]
@[simp] theorem State.event_monitor (c u v : Nat) : (s.event c u v).monitor = s.monitor := by rw [State.event_eq]
@[simp] theorem State.event_power (c u v : Nat) : (s.event c u v).power = s.power := by rw [State.event_eq]
@[simp] theorem State.event_cells (c u v : Nat) : (s.event c u v).cells = s.cells := by rw [State.event_eq]
@[simp] theorem State.event_jdp0 (c u v : Nat) : (s.event c u v).jdp0 = s.jdp0 := by rw [State.event_eq]
@[simp] theorem State.event_jdp1 (c u v : Nat) : (s.event c u v).jdp1 = s.jdp1 := by rw [State.event_eq]
@[simp] theorem State.event_mgmtChange (c u v : Nat) : (s.event c u v).mgmtChange = s.mgmtChange := by rw [State.event_eq]
@[simp] theorem State.event_cvs (c u v : Nat) : (s.event c u v).cvs = s.cvs := by rw [State.event_eq]
@[simp] theorem State.event_boot (c u v : Nat) : (s.event c u v).boot = s.boot := by rw [State.event_eq]
@[simp] theorem State.event_pins (c u v : Nat) : (s.event c u v).pins = s.pins := by rw [State.event_eq]

@[simp] theorem State.write_pending (a : Nat) (bs : List Byte) : (s.write a bs).pending = s.pending := rfl
@[simp] theorem State.write_now (a : Nat) (bs : List Byte) : (s.write a bs).now = s.now := rfl
@[simp] theorem State.write_free (a : Nat) (bs : List Byte) : (s.write a bs).free = s.free := rfl
@[simp] theorem State.write_objs (a : Nat) (bs : List Byte) : (s.write a bs).objs = s.objs := rfl
@[simp] theorem State.write_out (a : Nat) (bs : List Byte) : (s.write a bs).out = s.out := rfl
@[simp] theorem State.write_answer (a : Nat) (bs : List Byte) : (s.write a bs).answer = s.answer := rfl
@[simp] theorem State.write_ring (a : Nat) (bs : List Byte) : (s.write a bs).ring = s.ring := rfl
@[simp] theorem State.write_events (a : Nat) (bs : List Byte) : (s.write a bs).events = s.events := rfl
@[simp] theorem State.write_scores (a : Nat) (bs : List Byte) : (s.write a bs).scores = s.scores := rfl
@[simp] theorem State.write_failedEls (a : Nat) (bs : List Byte) : (s.write a bs).failedEls = s.failedEls := rfl
@[simp] theorem State.write_tm (a : Nat) (bs : List Byte) : (s.write a bs).tm = s.tm := rfl
@[simp] theorem State.write_site (a : Nat) (bs : List Byte) : (s.write a bs).site = s.site := rfl
@[simp] theorem State.write_eng (a : Nat) (bs : List Byte) : (s.write a bs).eng = s.eng := rfl
@[simp] theorem State.write_slot0 (a : Nat) (bs : List Byte) : (s.write a bs).slot0 = s.slot0 := rfl
@[simp] theorem State.write_slot1 (a : Nat) (bs : List Byte) : (s.write a bs).slot1 = s.slot1 := rfl
@[simp] theorem State.write_streams (a : Nat) (bs : List Byte) : (s.write a bs).streams = s.streams := rfl
@[simp] theorem State.write_groups (a : Nat) (bs : List Byte) : (s.write a bs).groups = s.groups := rfl
@[simp] theorem State.write_groupInfo (a : Nat) (bs : List Byte) : (s.write a bs).groupInfo = s.groupInfo := rfl
@[simp] theorem State.write_opt (a : Nat) (bs : List Byte) : (s.write a bs).opt = s.opt := rfl
@[simp] theorem State.write_damages (a : Nat) (bs : List Byte) : (s.write a bs).damages = s.damages := rfl
@[simp] theorem State.write_landings (a : Nat) (bs : List Byte) : (s.write a bs).landings = s.landings := rfl
@[simp] theorem State.write_memSt (a : Nat) (bs : List Byte) : (s.write a bs).memSt = s.memSt := rfl
@[simp] theorem State.write_links (a : Nat) (bs : List Byte) : (s.write a bs).links = s.links := rfl
@[simp] theorem State.write_framer (a : Nat) (bs : List Byte) : (s.write a bs).framer = s.framer := rfl
@[simp] theorem State.write_routes (a : Nat) (bs : List Byte) : (s.write a bs).routes = s.routes := rfl
@[simp] theorem State.write_chans (a : Nat) (bs : List Byte) : (s.write a bs).chans = s.chans := rfl
@[simp] theorem State.write_foreign (a : Nat) (bs : List Byte) : (s.write a bs).foreign = s.foreign := rfl
@[simp] theorem State.write_defects (a : Nat) (bs : List Byte) : (s.write a bs).defects = s.defects := rfl
@[simp] theorem State.write_ports (a : Nat) (bs : List Byte) : (s.write a bs).ports = s.ports := rfl
@[simp] theorem State.write_ringSt (a : Nat) (bs : List Byte) : (s.write a bs).ringSt = s.ringSt := rfl
@[simp] theorem State.write_cipher (a : Nat) (bs : List Byte) : (s.write a bs).cipher = s.cipher := rfl
@[simp] theorem State.write_optics (a : Nat) (bs : List Byte) : (s.write a bs).optics = s.optics := rfl
@[simp] theorem State.write_engines (a : Nat) (bs : List Byte) : (s.write a bs).engines = s.engines := rfl
@[simp] theorem State.write_monitor (a : Nat) (bs : List Byte) : (s.write a bs).monitor = s.monitor := rfl
@[simp] theorem State.write_power (a : Nat) (bs : List Byte) : (s.write a bs).power = s.power := rfl
@[simp] theorem State.write_cells (a : Nat) (bs : List Byte) : (s.write a bs).cells = s.cells := rfl
@[simp] theorem State.write_jdp0 (a : Nat) (bs : List Byte) : (s.write a bs).jdp0 = s.jdp0 := rfl
@[simp] theorem State.write_jdp1 (a : Nat) (bs : List Byte) : (s.write a bs).jdp1 = s.jdp1 := rfl
@[simp] theorem State.write_mgmtChange (a : Nat) (bs : List Byte) : (s.write a bs).mgmtChange = s.mgmtChange := rfl
@[simp] theorem State.write_cvs (a : Nat) (bs : List Byte) : (s.write a bs).cvs = s.cvs := rfl
@[simp] theorem State.write_boot (a : Nat) (bs : List Byte) : (s.write a bs).boot = s.boot := rfl
@[simp] theorem State.write_pins (a : Nat) (bs : List Byte) : (s.write a bs).pins = s.pins := rfl

@[simp] theorem State.setStream_pending (i : Nat) (x : StreamCtx) : (s.setStream i x).pending = s.pending := rfl
@[simp] theorem State.setStream_now (i : Nat) (x : StreamCtx) : (s.setStream i x).now = s.now := rfl
@[simp] theorem State.setStream_free (i : Nat) (x : StreamCtx) : (s.setStream i x).free = s.free := rfl
@[simp] theorem State.setStream_objs (i : Nat) (x : StreamCtx) : (s.setStream i x).objs = s.objs := rfl
@[simp] theorem State.setStream_mem (i : Nat) (x : StreamCtx) : (s.setStream i x).mem = s.mem := rfl
@[simp] theorem State.setStream_poison (i : Nat) (x : StreamCtx) : (s.setStream i x).poison = s.poison := rfl
@[simp] theorem State.setStream_out (i : Nat) (x : StreamCtx) : (s.setStream i x).out = s.out := rfl
@[simp] theorem State.setStream_answer (i : Nat) (x : StreamCtx) : (s.setStream i x).answer = s.answer := rfl
@[simp] theorem State.setStream_ring (i : Nat) (x : StreamCtx) : (s.setStream i x).ring = s.ring := rfl
@[simp] theorem State.setStream_events (i : Nat) (x : StreamCtx) : (s.setStream i x).events = s.events := rfl
@[simp] theorem State.setStream_scores (i : Nat) (x : StreamCtx) : (s.setStream i x).scores = s.scores := rfl
@[simp] theorem State.setStream_failedEls (i : Nat) (x : StreamCtx) : (s.setStream i x).failedEls = s.failedEls := rfl
@[simp] theorem State.setStream_tm (i : Nat) (x : StreamCtx) : (s.setStream i x).tm = s.tm := rfl
@[simp] theorem State.setStream_site (i : Nat) (x : StreamCtx) : (s.setStream i x).site = s.site := rfl
@[simp] theorem State.setStream_eng (i : Nat) (x : StreamCtx) : (s.setStream i x).eng = s.eng := rfl
@[simp] theorem State.setStream_slot0 (i : Nat) (x : StreamCtx) : (s.setStream i x).slot0 = s.slot0 := rfl
@[simp] theorem State.setStream_slot1 (i : Nat) (x : StreamCtx) : (s.setStream i x).slot1 = s.slot1 := rfl
@[simp] theorem State.setStream_groups (i : Nat) (x : StreamCtx) : (s.setStream i x).groups = s.groups := rfl
@[simp] theorem State.setStream_groupInfo (i : Nat) (x : StreamCtx) : (s.setStream i x).groupInfo = s.groupInfo := rfl
@[simp] theorem State.setStream_opt (i : Nat) (x : StreamCtx) : (s.setStream i x).opt = s.opt := rfl
@[simp] theorem State.setStream_damages (i : Nat) (x : StreamCtx) : (s.setStream i x).damages = s.damages := rfl
@[simp] theorem State.setStream_landings (i : Nat) (x : StreamCtx) : (s.setStream i x).landings = s.landings := rfl
@[simp] theorem State.setStream_memSt (i : Nat) (x : StreamCtx) : (s.setStream i x).memSt = s.memSt := rfl
@[simp] theorem State.setStream_links (i : Nat) (x : StreamCtx) : (s.setStream i x).links = s.links := rfl
@[simp] theorem State.setStream_framer (i : Nat) (x : StreamCtx) : (s.setStream i x).framer = s.framer := rfl
@[simp] theorem State.setStream_routes (i : Nat) (x : StreamCtx) : (s.setStream i x).routes = s.routes := rfl
@[simp] theorem State.setStream_chans (i : Nat) (x : StreamCtx) : (s.setStream i x).chans = s.chans := rfl
@[simp] theorem State.setStream_foreign (i : Nat) (x : StreamCtx) : (s.setStream i x).foreign = s.foreign := rfl
@[simp] theorem State.setStream_defects (i : Nat) (x : StreamCtx) : (s.setStream i x).defects = s.defects := rfl
@[simp] theorem State.setStream_ports (i : Nat) (x : StreamCtx) : (s.setStream i x).ports = s.ports := rfl
@[simp] theorem State.setStream_ringSt (i : Nat) (x : StreamCtx) : (s.setStream i x).ringSt = s.ringSt := rfl
@[simp] theorem State.setStream_cipher (i : Nat) (x : StreamCtx) : (s.setStream i x).cipher = s.cipher := rfl
@[simp] theorem State.setStream_optics (i : Nat) (x : StreamCtx) : (s.setStream i x).optics = s.optics := rfl
@[simp] theorem State.setStream_engines (i : Nat) (x : StreamCtx) : (s.setStream i x).engines = s.engines := rfl
@[simp] theorem State.setStream_monitor (i : Nat) (x : StreamCtx) : (s.setStream i x).monitor = s.monitor := rfl
@[simp] theorem State.setStream_power (i : Nat) (x : StreamCtx) : (s.setStream i x).power = s.power := rfl
@[simp] theorem State.setStream_cells (i : Nat) (x : StreamCtx) : (s.setStream i x).cells = s.cells := rfl
@[simp] theorem State.setStream_jdp0 (i : Nat) (x : StreamCtx) : (s.setStream i x).jdp0 = s.jdp0 := rfl
@[simp] theorem State.setStream_jdp1 (i : Nat) (x : StreamCtx) : (s.setStream i x).jdp1 = s.jdp1 := rfl
@[simp] theorem State.setStream_mgmtChange (i : Nat) (x : StreamCtx) : (s.setStream i x).mgmtChange = s.mgmtChange := rfl
@[simp] theorem State.setStream_cvs (i : Nat) (x : StreamCtx) : (s.setStream i x).cvs = s.cvs := rfl
@[simp] theorem State.setStream_boot (i : Nat) (x : StreamCtx) : (s.setStream i x).boot = s.boot := rfl
@[simp] theorem State.setStream_pins (i : Nat) (x : StreamCtx) : (s.setStream i x).pins = s.pins := rfl

@[simp] theorem State.setLink_pending (i : Nat) (x : LinkSt) : (s.setLink i x).pending = s.pending := rfl
@[simp] theorem State.setLink_now (i : Nat) (x : LinkSt) : (s.setLink i x).now = s.now := rfl
@[simp] theorem State.setLink_free (i : Nat) (x : LinkSt) : (s.setLink i x).free = s.free := rfl
@[simp] theorem State.setLink_objs (i : Nat) (x : LinkSt) : (s.setLink i x).objs = s.objs := rfl
@[simp] theorem State.setLink_mem (i : Nat) (x : LinkSt) : (s.setLink i x).mem = s.mem := rfl
@[simp] theorem State.setLink_poison (i : Nat) (x : LinkSt) : (s.setLink i x).poison = s.poison := rfl
@[simp] theorem State.setLink_out (i : Nat) (x : LinkSt) : (s.setLink i x).out = s.out := rfl
@[simp] theorem State.setLink_answer (i : Nat) (x : LinkSt) : (s.setLink i x).answer = s.answer := rfl
@[simp] theorem State.setLink_ring (i : Nat) (x : LinkSt) : (s.setLink i x).ring = s.ring := rfl
@[simp] theorem State.setLink_events (i : Nat) (x : LinkSt) : (s.setLink i x).events = s.events := rfl
@[simp] theorem State.setLink_scores (i : Nat) (x : LinkSt) : (s.setLink i x).scores = s.scores := rfl
@[simp] theorem State.setLink_failedEls (i : Nat) (x : LinkSt) : (s.setLink i x).failedEls = s.failedEls := rfl
@[simp] theorem State.setLink_tm (i : Nat) (x : LinkSt) : (s.setLink i x).tm = s.tm := rfl
@[simp] theorem State.setLink_site (i : Nat) (x : LinkSt) : (s.setLink i x).site = s.site := rfl
@[simp] theorem State.setLink_eng (i : Nat) (x : LinkSt) : (s.setLink i x).eng = s.eng := rfl
@[simp] theorem State.setLink_slot0 (i : Nat) (x : LinkSt) : (s.setLink i x).slot0 = s.slot0 := rfl
@[simp] theorem State.setLink_slot1 (i : Nat) (x : LinkSt) : (s.setLink i x).slot1 = s.slot1 := rfl
@[simp] theorem State.setLink_streams (i : Nat) (x : LinkSt) : (s.setLink i x).streams = s.streams := rfl
@[simp] theorem State.setLink_groups (i : Nat) (x : LinkSt) : (s.setLink i x).groups = s.groups := rfl
@[simp] theorem State.setLink_groupInfo (i : Nat) (x : LinkSt) : (s.setLink i x).groupInfo = s.groupInfo := rfl
@[simp] theorem State.setLink_opt (i : Nat) (x : LinkSt) : (s.setLink i x).opt = s.opt := rfl
@[simp] theorem State.setLink_damages (i : Nat) (x : LinkSt) : (s.setLink i x).damages = s.damages := rfl
@[simp] theorem State.setLink_landings (i : Nat) (x : LinkSt) : (s.setLink i x).landings = s.landings := rfl
@[simp] theorem State.setLink_memSt (i : Nat) (x : LinkSt) : (s.setLink i x).memSt = s.memSt := rfl
@[simp] theorem State.setLink_framer (i : Nat) (x : LinkSt) : (s.setLink i x).framer = s.framer := rfl
@[simp] theorem State.setLink_routes (i : Nat) (x : LinkSt) : (s.setLink i x).routes = s.routes := rfl
@[simp] theorem State.setLink_chans (i : Nat) (x : LinkSt) : (s.setLink i x).chans = s.chans := rfl
@[simp] theorem State.setLink_foreign (i : Nat) (x : LinkSt) : (s.setLink i x).foreign = s.foreign := rfl
@[simp] theorem State.setLink_defects (i : Nat) (x : LinkSt) : (s.setLink i x).defects = s.defects := rfl
@[simp] theorem State.setLink_ports (i : Nat) (x : LinkSt) : (s.setLink i x).ports = s.ports := rfl
@[simp] theorem State.setLink_ringSt (i : Nat) (x : LinkSt) : (s.setLink i x).ringSt = s.ringSt := rfl
@[simp] theorem State.setLink_cipher (i : Nat) (x : LinkSt) : (s.setLink i x).cipher = s.cipher := rfl
@[simp] theorem State.setLink_optics (i : Nat) (x : LinkSt) : (s.setLink i x).optics = s.optics := rfl
@[simp] theorem State.setLink_engines (i : Nat) (x : LinkSt) : (s.setLink i x).engines = s.engines := rfl
@[simp] theorem State.setLink_monitor (i : Nat) (x : LinkSt) : (s.setLink i x).monitor = s.monitor := rfl
@[simp] theorem State.setLink_power (i : Nat) (x : LinkSt) : (s.setLink i x).power = s.power := rfl
@[simp] theorem State.setLink_cells (i : Nat) (x : LinkSt) : (s.setLink i x).cells = s.cells := rfl
@[simp] theorem State.setLink_jdp0 (i : Nat) (x : LinkSt) : (s.setLink i x).jdp0 = s.jdp0 := rfl
@[simp] theorem State.setLink_jdp1 (i : Nat) (x : LinkSt) : (s.setLink i x).jdp1 = s.jdp1 := rfl
@[simp] theorem State.setLink_mgmtChange (i : Nat) (x : LinkSt) : (s.setLink i x).mgmtChange = s.mgmtChange := rfl
@[simp] theorem State.setLink_cvs (i : Nat) (x : LinkSt) : (s.setLink i x).cvs = s.cvs := rfl
@[simp] theorem State.setLink_boot (i : Nat) (x : LinkSt) : (s.setLink i x).boot = s.boot := rfl
@[simp] theorem State.setLink_pins (i : Nat) (x : LinkSt) : (s.setLink i x).pins = s.pins := rfl

@[simp] theorem State.setRoute_pending (i : Nat) (x : RouteSt) : (s.setRoute i x).pending = s.pending := rfl
@[simp] theorem State.setRoute_now (i : Nat) (x : RouteSt) : (s.setRoute i x).now = s.now := rfl
@[simp] theorem State.setRoute_free (i : Nat) (x : RouteSt) : (s.setRoute i x).free = s.free := rfl
@[simp] theorem State.setRoute_objs (i : Nat) (x : RouteSt) : (s.setRoute i x).objs = s.objs := rfl
@[simp] theorem State.setRoute_mem (i : Nat) (x : RouteSt) : (s.setRoute i x).mem = s.mem := rfl
@[simp] theorem State.setRoute_poison (i : Nat) (x : RouteSt) : (s.setRoute i x).poison = s.poison := rfl
@[simp] theorem State.setRoute_out (i : Nat) (x : RouteSt) : (s.setRoute i x).out = s.out := rfl
@[simp] theorem State.setRoute_answer (i : Nat) (x : RouteSt) : (s.setRoute i x).answer = s.answer := rfl
@[simp] theorem State.setRoute_ring (i : Nat) (x : RouteSt) : (s.setRoute i x).ring = s.ring := rfl
@[simp] theorem State.setRoute_events (i : Nat) (x : RouteSt) : (s.setRoute i x).events = s.events := rfl
@[simp] theorem State.setRoute_scores (i : Nat) (x : RouteSt) : (s.setRoute i x).scores = s.scores := rfl
@[simp] theorem State.setRoute_failedEls (i : Nat) (x : RouteSt) : (s.setRoute i x).failedEls = s.failedEls := rfl
@[simp] theorem State.setRoute_tm (i : Nat) (x : RouteSt) : (s.setRoute i x).tm = s.tm := rfl
@[simp] theorem State.setRoute_site (i : Nat) (x : RouteSt) : (s.setRoute i x).site = s.site := rfl
@[simp] theorem State.setRoute_eng (i : Nat) (x : RouteSt) : (s.setRoute i x).eng = s.eng := rfl
@[simp] theorem State.setRoute_slot0 (i : Nat) (x : RouteSt) : (s.setRoute i x).slot0 = s.slot0 := rfl
@[simp] theorem State.setRoute_slot1 (i : Nat) (x : RouteSt) : (s.setRoute i x).slot1 = s.slot1 := rfl
@[simp] theorem State.setRoute_streams (i : Nat) (x : RouteSt) : (s.setRoute i x).streams = s.streams := rfl
@[simp] theorem State.setRoute_groups (i : Nat) (x : RouteSt) : (s.setRoute i x).groups = s.groups := rfl
@[simp] theorem State.setRoute_groupInfo (i : Nat) (x : RouteSt) : (s.setRoute i x).groupInfo = s.groupInfo := rfl
@[simp] theorem State.setRoute_opt (i : Nat) (x : RouteSt) : (s.setRoute i x).opt = s.opt := rfl
@[simp] theorem State.setRoute_damages (i : Nat) (x : RouteSt) : (s.setRoute i x).damages = s.damages := rfl
@[simp] theorem State.setRoute_landings (i : Nat) (x : RouteSt) : (s.setRoute i x).landings = s.landings := rfl
@[simp] theorem State.setRoute_memSt (i : Nat) (x : RouteSt) : (s.setRoute i x).memSt = s.memSt := rfl
@[simp] theorem State.setRoute_links (i : Nat) (x : RouteSt) : (s.setRoute i x).links = s.links := rfl
@[simp] theorem State.setRoute_framer (i : Nat) (x : RouteSt) : (s.setRoute i x).framer = s.framer := rfl
@[simp] theorem State.setRoute_chans (i : Nat) (x : RouteSt) : (s.setRoute i x).chans = s.chans := rfl
@[simp] theorem State.setRoute_foreign (i : Nat) (x : RouteSt) : (s.setRoute i x).foreign = s.foreign := rfl
@[simp] theorem State.setRoute_defects (i : Nat) (x : RouteSt) : (s.setRoute i x).defects = s.defects := rfl
@[simp] theorem State.setRoute_ports (i : Nat) (x : RouteSt) : (s.setRoute i x).ports = s.ports := rfl
@[simp] theorem State.setRoute_ringSt (i : Nat) (x : RouteSt) : (s.setRoute i x).ringSt = s.ringSt := rfl
@[simp] theorem State.setRoute_cipher (i : Nat) (x : RouteSt) : (s.setRoute i x).cipher = s.cipher := rfl
@[simp] theorem State.setRoute_optics (i : Nat) (x : RouteSt) : (s.setRoute i x).optics = s.optics := rfl
@[simp] theorem State.setRoute_engines (i : Nat) (x : RouteSt) : (s.setRoute i x).engines = s.engines := rfl
@[simp] theorem State.setRoute_monitor (i : Nat) (x : RouteSt) : (s.setRoute i x).monitor = s.monitor := rfl
@[simp] theorem State.setRoute_power (i : Nat) (x : RouteSt) : (s.setRoute i x).power = s.power := rfl
@[simp] theorem State.setRoute_cells (i : Nat) (x : RouteSt) : (s.setRoute i x).cells = s.cells := rfl
@[simp] theorem State.setRoute_jdp0 (i : Nat) (x : RouteSt) : (s.setRoute i x).jdp0 = s.jdp0 := rfl
@[simp] theorem State.setRoute_jdp1 (i : Nat) (x : RouteSt) : (s.setRoute i x).jdp1 = s.jdp1 := rfl
@[simp] theorem State.setRoute_mgmtChange (i : Nat) (x : RouteSt) : (s.setRoute i x).mgmtChange = s.mgmtChange := rfl
@[simp] theorem State.setRoute_cvs (i : Nat) (x : RouteSt) : (s.setRoute i x).cvs = s.cvs := rfl
@[simp] theorem State.setRoute_boot (i : Nat) (x : RouteSt) : (s.setRoute i x).boot = s.boot := rfl
@[simp] theorem State.setRoute_pins (i : Nat) (x : RouteSt) : (s.setRoute i x).pins = s.pins := rfl

@[simp] theorem State.setChan_pending (i : Nat) (x : ChannelSt) : (s.setChan i x).pending = s.pending := rfl
@[simp] theorem State.setChan_now (i : Nat) (x : ChannelSt) : (s.setChan i x).now = s.now := rfl
@[simp] theorem State.setChan_free (i : Nat) (x : ChannelSt) : (s.setChan i x).free = s.free := rfl
@[simp] theorem State.setChan_objs (i : Nat) (x : ChannelSt) : (s.setChan i x).objs = s.objs := rfl
@[simp] theorem State.setChan_mem (i : Nat) (x : ChannelSt) : (s.setChan i x).mem = s.mem := rfl
@[simp] theorem State.setChan_poison (i : Nat) (x : ChannelSt) : (s.setChan i x).poison = s.poison := rfl
@[simp] theorem State.setChan_out (i : Nat) (x : ChannelSt) : (s.setChan i x).out = s.out := rfl
@[simp] theorem State.setChan_answer (i : Nat) (x : ChannelSt) : (s.setChan i x).answer = s.answer := rfl
@[simp] theorem State.setChan_ring (i : Nat) (x : ChannelSt) : (s.setChan i x).ring = s.ring := rfl
@[simp] theorem State.setChan_events (i : Nat) (x : ChannelSt) : (s.setChan i x).events = s.events := rfl
@[simp] theorem State.setChan_scores (i : Nat) (x : ChannelSt) : (s.setChan i x).scores = s.scores := rfl
@[simp] theorem State.setChan_failedEls (i : Nat) (x : ChannelSt) : (s.setChan i x).failedEls = s.failedEls := rfl
@[simp] theorem State.setChan_tm (i : Nat) (x : ChannelSt) : (s.setChan i x).tm = s.tm := rfl
@[simp] theorem State.setChan_site (i : Nat) (x : ChannelSt) : (s.setChan i x).site = s.site := rfl
@[simp] theorem State.setChan_eng (i : Nat) (x : ChannelSt) : (s.setChan i x).eng = s.eng := rfl
@[simp] theorem State.setChan_slot0 (i : Nat) (x : ChannelSt) : (s.setChan i x).slot0 = s.slot0 := rfl
@[simp] theorem State.setChan_slot1 (i : Nat) (x : ChannelSt) : (s.setChan i x).slot1 = s.slot1 := rfl
@[simp] theorem State.setChan_streams (i : Nat) (x : ChannelSt) : (s.setChan i x).streams = s.streams := rfl
@[simp] theorem State.setChan_groups (i : Nat) (x : ChannelSt) : (s.setChan i x).groups = s.groups := rfl
@[simp] theorem State.setChan_groupInfo (i : Nat) (x : ChannelSt) : (s.setChan i x).groupInfo = s.groupInfo := rfl
@[simp] theorem State.setChan_opt (i : Nat) (x : ChannelSt) : (s.setChan i x).opt = s.opt := rfl
@[simp] theorem State.setChan_damages (i : Nat) (x : ChannelSt) : (s.setChan i x).damages = s.damages := rfl
@[simp] theorem State.setChan_landings (i : Nat) (x : ChannelSt) : (s.setChan i x).landings = s.landings := rfl
@[simp] theorem State.setChan_memSt (i : Nat) (x : ChannelSt) : (s.setChan i x).memSt = s.memSt := rfl
@[simp] theorem State.setChan_links (i : Nat) (x : ChannelSt) : (s.setChan i x).links = s.links := rfl
@[simp] theorem State.setChan_framer (i : Nat) (x : ChannelSt) : (s.setChan i x).framer = s.framer := rfl
@[simp] theorem State.setChan_routes (i : Nat) (x : ChannelSt) : (s.setChan i x).routes = s.routes := rfl
@[simp] theorem State.setChan_foreign (i : Nat) (x : ChannelSt) : (s.setChan i x).foreign = s.foreign := rfl
@[simp] theorem State.setChan_defects (i : Nat) (x : ChannelSt) : (s.setChan i x).defects = s.defects := rfl
@[simp] theorem State.setChan_ports (i : Nat) (x : ChannelSt) : (s.setChan i x).ports = s.ports := rfl
@[simp] theorem State.setChan_ringSt (i : Nat) (x : ChannelSt) : (s.setChan i x).ringSt = s.ringSt := rfl
@[simp] theorem State.setChan_cipher (i : Nat) (x : ChannelSt) : (s.setChan i x).cipher = s.cipher := rfl
@[simp] theorem State.setChan_optics (i : Nat) (x : ChannelSt) : (s.setChan i x).optics = s.optics := rfl
@[simp] theorem State.setChan_engines (i : Nat) (x : ChannelSt) : (s.setChan i x).engines = s.engines := rfl
@[simp] theorem State.setChan_monitor (i : Nat) (x : ChannelSt) : (s.setChan i x).monitor = s.monitor := rfl
@[simp] theorem State.setChan_power (i : Nat) (x : ChannelSt) : (s.setChan i x).power = s.power := rfl
@[simp] theorem State.setChan_cells (i : Nat) (x : ChannelSt) : (s.setChan i x).cells = s.cells := rfl
@[simp] theorem State.setChan_jdp0 (i : Nat) (x : ChannelSt) : (s.setChan i x).jdp0 = s.jdp0 := rfl
@[simp] theorem State.setChan_jdp1 (i : Nat) (x : ChannelSt) : (s.setChan i x).jdp1 = s.jdp1 := rfl
@[simp] theorem State.setChan_mgmtChange (i : Nat) (x : ChannelSt) : (s.setChan i x).mgmtChange = s.mgmtChange := rfl
@[simp] theorem State.setChan_cvs (i : Nat) (x : ChannelSt) : (s.setChan i x).cvs = s.cvs := rfl
@[simp] theorem State.setChan_boot (i : Nat) (x : ChannelSt) : (s.setChan i x).boot = s.boot := rfl
@[simp] theorem State.setChan_pins (i : Nat) (x : ChannelSt) : (s.setChan i x).pins = s.pins := rfl

@[simp] theorem State.setOptic_pending (i : Nat) (x : OpticSt) : (s.setOptic i x).pending = s.pending := rfl
@[simp] theorem State.setOptic_now (i : Nat) (x : OpticSt) : (s.setOptic i x).now = s.now := rfl
@[simp] theorem State.setOptic_free (i : Nat) (x : OpticSt) : (s.setOptic i x).free = s.free := rfl
@[simp] theorem State.setOptic_objs (i : Nat) (x : OpticSt) : (s.setOptic i x).objs = s.objs := rfl
@[simp] theorem State.setOptic_mem (i : Nat) (x : OpticSt) : (s.setOptic i x).mem = s.mem := rfl
@[simp] theorem State.setOptic_poison (i : Nat) (x : OpticSt) : (s.setOptic i x).poison = s.poison := rfl
@[simp] theorem State.setOptic_out (i : Nat) (x : OpticSt) : (s.setOptic i x).out = s.out := rfl
@[simp] theorem State.setOptic_answer (i : Nat) (x : OpticSt) : (s.setOptic i x).answer = s.answer := rfl
@[simp] theorem State.setOptic_ring (i : Nat) (x : OpticSt) : (s.setOptic i x).ring = s.ring := rfl
@[simp] theorem State.setOptic_events (i : Nat) (x : OpticSt) : (s.setOptic i x).events = s.events := rfl
@[simp] theorem State.setOptic_scores (i : Nat) (x : OpticSt) : (s.setOptic i x).scores = s.scores := rfl
@[simp] theorem State.setOptic_failedEls (i : Nat) (x : OpticSt) : (s.setOptic i x).failedEls = s.failedEls := rfl
@[simp] theorem State.setOptic_tm (i : Nat) (x : OpticSt) : (s.setOptic i x).tm = s.tm := rfl
@[simp] theorem State.setOptic_site (i : Nat) (x : OpticSt) : (s.setOptic i x).site = s.site := rfl
@[simp] theorem State.setOptic_eng (i : Nat) (x : OpticSt) : (s.setOptic i x).eng = s.eng := rfl
@[simp] theorem State.setOptic_slot0 (i : Nat) (x : OpticSt) : (s.setOptic i x).slot0 = s.slot0 := rfl
@[simp] theorem State.setOptic_slot1 (i : Nat) (x : OpticSt) : (s.setOptic i x).slot1 = s.slot1 := rfl
@[simp] theorem State.setOptic_streams (i : Nat) (x : OpticSt) : (s.setOptic i x).streams = s.streams := rfl
@[simp] theorem State.setOptic_groups (i : Nat) (x : OpticSt) : (s.setOptic i x).groups = s.groups := rfl
@[simp] theorem State.setOptic_groupInfo (i : Nat) (x : OpticSt) : (s.setOptic i x).groupInfo = s.groupInfo := rfl
@[simp] theorem State.setOptic_opt (i : Nat) (x : OpticSt) : (s.setOptic i x).opt = s.opt := rfl
@[simp] theorem State.setOptic_damages (i : Nat) (x : OpticSt) : (s.setOptic i x).damages = s.damages := rfl
@[simp] theorem State.setOptic_landings (i : Nat) (x : OpticSt) : (s.setOptic i x).landings = s.landings := rfl
@[simp] theorem State.setOptic_memSt (i : Nat) (x : OpticSt) : (s.setOptic i x).memSt = s.memSt := rfl
@[simp] theorem State.setOptic_links (i : Nat) (x : OpticSt) : (s.setOptic i x).links = s.links := rfl
@[simp] theorem State.setOptic_framer (i : Nat) (x : OpticSt) : (s.setOptic i x).framer = s.framer := rfl
@[simp] theorem State.setOptic_routes (i : Nat) (x : OpticSt) : (s.setOptic i x).routes = s.routes := rfl
@[simp] theorem State.setOptic_chans (i : Nat) (x : OpticSt) : (s.setOptic i x).chans = s.chans := rfl
@[simp] theorem State.setOptic_foreign (i : Nat) (x : OpticSt) : (s.setOptic i x).foreign = s.foreign := rfl
@[simp] theorem State.setOptic_defects (i : Nat) (x : OpticSt) : (s.setOptic i x).defects = s.defects := rfl
@[simp] theorem State.setOptic_ports (i : Nat) (x : OpticSt) : (s.setOptic i x).ports = s.ports := rfl
@[simp] theorem State.setOptic_ringSt (i : Nat) (x : OpticSt) : (s.setOptic i x).ringSt = s.ringSt := rfl
@[simp] theorem State.setOptic_cipher (i : Nat) (x : OpticSt) : (s.setOptic i x).cipher = s.cipher := rfl
@[simp] theorem State.setOptic_engines (i : Nat) (x : OpticSt) : (s.setOptic i x).engines = s.engines := rfl
@[simp] theorem State.setOptic_monitor (i : Nat) (x : OpticSt) : (s.setOptic i x).monitor = s.monitor := rfl
@[simp] theorem State.setOptic_power (i : Nat) (x : OpticSt) : (s.setOptic i x).power = s.power := rfl
@[simp] theorem State.setOptic_cells (i : Nat) (x : OpticSt) : (s.setOptic i x).cells = s.cells := rfl
@[simp] theorem State.setOptic_jdp0 (i : Nat) (x : OpticSt) : (s.setOptic i x).jdp0 = s.jdp0 := rfl
@[simp] theorem State.setOptic_jdp1 (i : Nat) (x : OpticSt) : (s.setOptic i x).jdp1 = s.jdp1 := rfl
@[simp] theorem State.setOptic_mgmtChange (i : Nat) (x : OpticSt) : (s.setOptic i x).mgmtChange = s.mgmtChange := rfl
@[simp] theorem State.setOptic_cvs (i : Nat) (x : OpticSt) : (s.setOptic i x).cvs = s.cvs := rfl
@[simp] theorem State.setOptic_boot (i : Nat) (x : OpticSt) : (s.setOptic i x).boot = s.boot := rfl
@[simp] theorem State.setOptic_pins (i : Nat) (x : OpticSt) : (s.setOptic i x).pins = s.pins := rfl

@[simp] theorem State.setEngineSt_pending (i : Nat) (x : EngineSt) : (s.setEngineSt i x).pending = s.pending := rfl
@[simp] theorem State.setEngineSt_now (i : Nat) (x : EngineSt) : (s.setEngineSt i x).now = s.now := rfl
@[simp] theorem State.setEngineSt_free (i : Nat) (x : EngineSt) : (s.setEngineSt i x).free = s.free := rfl
@[simp] theorem State.setEngineSt_objs (i : Nat) (x : EngineSt) : (s.setEngineSt i x).objs = s.objs := rfl
@[simp] theorem State.setEngineSt_mem (i : Nat) (x : EngineSt) : (s.setEngineSt i x).mem = s.mem := rfl
@[simp] theorem State.setEngineSt_poison (i : Nat) (x : EngineSt) : (s.setEngineSt i x).poison = s.poison := rfl
@[simp] theorem State.setEngineSt_out (i : Nat) (x : EngineSt) : (s.setEngineSt i x).out = s.out := rfl
@[simp] theorem State.setEngineSt_answer (i : Nat) (x : EngineSt) : (s.setEngineSt i x).answer = s.answer := rfl
@[simp] theorem State.setEngineSt_ring (i : Nat) (x : EngineSt) : (s.setEngineSt i x).ring = s.ring := rfl
@[simp] theorem State.setEngineSt_events (i : Nat) (x : EngineSt) : (s.setEngineSt i x).events = s.events := rfl
@[simp] theorem State.setEngineSt_scores (i : Nat) (x : EngineSt) : (s.setEngineSt i x).scores = s.scores := rfl
@[simp] theorem State.setEngineSt_failedEls (i : Nat) (x : EngineSt) : (s.setEngineSt i x).failedEls = s.failedEls := rfl
@[simp] theorem State.setEngineSt_tm (i : Nat) (x : EngineSt) : (s.setEngineSt i x).tm = s.tm := rfl
@[simp] theorem State.setEngineSt_site (i : Nat) (x : EngineSt) : (s.setEngineSt i x).site = s.site := rfl
@[simp] theorem State.setEngineSt_eng (i : Nat) (x : EngineSt) : (s.setEngineSt i x).eng = s.eng := rfl
@[simp] theorem State.setEngineSt_slot0 (i : Nat) (x : EngineSt) : (s.setEngineSt i x).slot0 = s.slot0 := rfl
@[simp] theorem State.setEngineSt_slot1 (i : Nat) (x : EngineSt) : (s.setEngineSt i x).slot1 = s.slot1 := rfl
@[simp] theorem State.setEngineSt_streams (i : Nat) (x : EngineSt) : (s.setEngineSt i x).streams = s.streams := rfl
@[simp] theorem State.setEngineSt_groups (i : Nat) (x : EngineSt) : (s.setEngineSt i x).groups = s.groups := rfl
@[simp] theorem State.setEngineSt_groupInfo (i : Nat) (x : EngineSt) : (s.setEngineSt i x).groupInfo = s.groupInfo := rfl
@[simp] theorem State.setEngineSt_opt (i : Nat) (x : EngineSt) : (s.setEngineSt i x).opt = s.opt := rfl
@[simp] theorem State.setEngineSt_damages (i : Nat) (x : EngineSt) : (s.setEngineSt i x).damages = s.damages := rfl
@[simp] theorem State.setEngineSt_landings (i : Nat) (x : EngineSt) : (s.setEngineSt i x).landings = s.landings := rfl
@[simp] theorem State.setEngineSt_memSt (i : Nat) (x : EngineSt) : (s.setEngineSt i x).memSt = s.memSt := rfl
@[simp] theorem State.setEngineSt_links (i : Nat) (x : EngineSt) : (s.setEngineSt i x).links = s.links := rfl
@[simp] theorem State.setEngineSt_framer (i : Nat) (x : EngineSt) : (s.setEngineSt i x).framer = s.framer := rfl
@[simp] theorem State.setEngineSt_routes (i : Nat) (x : EngineSt) : (s.setEngineSt i x).routes = s.routes := rfl
@[simp] theorem State.setEngineSt_chans (i : Nat) (x : EngineSt) : (s.setEngineSt i x).chans = s.chans := rfl
@[simp] theorem State.setEngineSt_foreign (i : Nat) (x : EngineSt) : (s.setEngineSt i x).foreign = s.foreign := rfl
@[simp] theorem State.setEngineSt_defects (i : Nat) (x : EngineSt) : (s.setEngineSt i x).defects = s.defects := rfl
@[simp] theorem State.setEngineSt_ports (i : Nat) (x : EngineSt) : (s.setEngineSt i x).ports = s.ports := rfl
@[simp] theorem State.setEngineSt_ringSt (i : Nat) (x : EngineSt) : (s.setEngineSt i x).ringSt = s.ringSt := rfl
@[simp] theorem State.setEngineSt_cipher (i : Nat) (x : EngineSt) : (s.setEngineSt i x).cipher = s.cipher := rfl
@[simp] theorem State.setEngineSt_optics (i : Nat) (x : EngineSt) : (s.setEngineSt i x).optics = s.optics := rfl
@[simp] theorem State.setEngineSt_monitor (i : Nat) (x : EngineSt) : (s.setEngineSt i x).monitor = s.monitor := rfl
@[simp] theorem State.setEngineSt_power (i : Nat) (x : EngineSt) : (s.setEngineSt i x).power = s.power := rfl
@[simp] theorem State.setEngineSt_cells (i : Nat) (x : EngineSt) : (s.setEngineSt i x).cells = s.cells := rfl
@[simp] theorem State.setEngineSt_jdp0 (i : Nat) (x : EngineSt) : (s.setEngineSt i x).jdp0 = s.jdp0 := rfl
@[simp] theorem State.setEngineSt_jdp1 (i : Nat) (x : EngineSt) : (s.setEngineSt i x).jdp1 = s.jdp1 := rfl
@[simp] theorem State.setEngineSt_mgmtChange (i : Nat) (x : EngineSt) : (s.setEngineSt i x).mgmtChange = s.mgmtChange := rfl
@[simp] theorem State.setEngineSt_cvs (i : Nat) (x : EngineSt) : (s.setEngineSt i x).cvs = s.cvs := rfl
@[simp] theorem State.setEngineSt_boot (i : Nat) (x : EngineSt) : (s.setEngineSt i x).boot = s.boot := rfl
@[simp] theorem State.setEngineSt_pins (i : Nat) (x : EngineSt) : (s.setEngineSt i x).pins = s.pins := rfl

@[simp] theorem State.setPort_pending (i : Nat) (x : PortSt) : (s.setPort i x).pending = s.pending := rfl
@[simp] theorem State.setPort_now (i : Nat) (x : PortSt) : (s.setPort i x).now = s.now := rfl
@[simp] theorem State.setPort_free (i : Nat) (x : PortSt) : (s.setPort i x).free = s.free := rfl
@[simp] theorem State.setPort_objs (i : Nat) (x : PortSt) : (s.setPort i x).objs = s.objs := rfl
@[simp] theorem State.setPort_mem (i : Nat) (x : PortSt) : (s.setPort i x).mem = s.mem := rfl
@[simp] theorem State.setPort_poison (i : Nat) (x : PortSt) : (s.setPort i x).poison = s.poison := rfl
@[simp] theorem State.setPort_out (i : Nat) (x : PortSt) : (s.setPort i x).out = s.out := rfl
@[simp] theorem State.setPort_answer (i : Nat) (x : PortSt) : (s.setPort i x).answer = s.answer := rfl
@[simp] theorem State.setPort_ring (i : Nat) (x : PortSt) : (s.setPort i x).ring = s.ring := rfl
@[simp] theorem State.setPort_events (i : Nat) (x : PortSt) : (s.setPort i x).events = s.events := rfl
@[simp] theorem State.setPort_scores (i : Nat) (x : PortSt) : (s.setPort i x).scores = s.scores := rfl
@[simp] theorem State.setPort_failedEls (i : Nat) (x : PortSt) : (s.setPort i x).failedEls = s.failedEls := rfl
@[simp] theorem State.setPort_tm (i : Nat) (x : PortSt) : (s.setPort i x).tm = s.tm := rfl
@[simp] theorem State.setPort_site (i : Nat) (x : PortSt) : (s.setPort i x).site = s.site := rfl
@[simp] theorem State.setPort_eng (i : Nat) (x : PortSt) : (s.setPort i x).eng = s.eng := rfl
@[simp] theorem State.setPort_slot0 (i : Nat) (x : PortSt) : (s.setPort i x).slot0 = s.slot0 := rfl
@[simp] theorem State.setPort_slot1 (i : Nat) (x : PortSt) : (s.setPort i x).slot1 = s.slot1 := rfl
@[simp] theorem State.setPort_streams (i : Nat) (x : PortSt) : (s.setPort i x).streams = s.streams := rfl
@[simp] theorem State.setPort_groups (i : Nat) (x : PortSt) : (s.setPort i x).groups = s.groups := rfl
@[simp] theorem State.setPort_groupInfo (i : Nat) (x : PortSt) : (s.setPort i x).groupInfo = s.groupInfo := rfl
@[simp] theorem State.setPort_opt (i : Nat) (x : PortSt) : (s.setPort i x).opt = s.opt := rfl
@[simp] theorem State.setPort_damages (i : Nat) (x : PortSt) : (s.setPort i x).damages = s.damages := rfl
@[simp] theorem State.setPort_landings (i : Nat) (x : PortSt) : (s.setPort i x).landings = s.landings := rfl
@[simp] theorem State.setPort_memSt (i : Nat) (x : PortSt) : (s.setPort i x).memSt = s.memSt := rfl
@[simp] theorem State.setPort_links (i : Nat) (x : PortSt) : (s.setPort i x).links = s.links := rfl
@[simp] theorem State.setPort_framer (i : Nat) (x : PortSt) : (s.setPort i x).framer = s.framer := rfl
@[simp] theorem State.setPort_routes (i : Nat) (x : PortSt) : (s.setPort i x).routes = s.routes := rfl
@[simp] theorem State.setPort_chans (i : Nat) (x : PortSt) : (s.setPort i x).chans = s.chans := rfl
@[simp] theorem State.setPort_foreign (i : Nat) (x : PortSt) : (s.setPort i x).foreign = s.foreign := rfl
@[simp] theorem State.setPort_defects (i : Nat) (x : PortSt) : (s.setPort i x).defects = s.defects := rfl
@[simp] theorem State.setPort_ringSt (i : Nat) (x : PortSt) : (s.setPort i x).ringSt = s.ringSt := rfl
@[simp] theorem State.setPort_cipher (i : Nat) (x : PortSt) : (s.setPort i x).cipher = s.cipher := rfl
@[simp] theorem State.setPort_optics (i : Nat) (x : PortSt) : (s.setPort i x).optics = s.optics := rfl
@[simp] theorem State.setPort_engines (i : Nat) (x : PortSt) : (s.setPort i x).engines = s.engines := rfl
@[simp] theorem State.setPort_monitor (i : Nat) (x : PortSt) : (s.setPort i x).monitor = s.monitor := rfl
@[simp] theorem State.setPort_power (i : Nat) (x : PortSt) : (s.setPort i x).power = s.power := rfl
@[simp] theorem State.setPort_cells (i : Nat) (x : PortSt) : (s.setPort i x).cells = s.cells := rfl
@[simp] theorem State.setPort_jdp0 (i : Nat) (x : PortSt) : (s.setPort i x).jdp0 = s.jdp0 := rfl
@[simp] theorem State.setPort_jdp1 (i : Nat) (x : PortSt) : (s.setPort i x).jdp1 = s.jdp1 := rfl
@[simp] theorem State.setPort_mgmtChange (i : Nat) (x : PortSt) : (s.setPort i x).mgmtChange = s.mgmtChange := rfl
@[simp] theorem State.setPort_cvs (i : Nat) (x : PortSt) : (s.setPort i x).cvs = s.cvs := rfl
@[simp] theorem State.setPort_boot (i : Nat) (x : PortSt) : (s.setPort i x).boot = s.boot := rfl
@[simp] theorem State.setPort_pins (i : Nat) (x : PortSt) : (s.setPort i x).pins = s.pins := rfl

@[simp] theorem State.setPair_pending (i : Nat) (x : PairSt) : (s.setPair i x).pending = s.pending := rfl
@[simp] theorem State.setPair_now (i : Nat) (x : PairSt) : (s.setPair i x).now = s.now := rfl
@[simp] theorem State.setPair_free (i : Nat) (x : PairSt) : (s.setPair i x).free = s.free := rfl
@[simp] theorem State.setPair_objs (i : Nat) (x : PairSt) : (s.setPair i x).objs = s.objs := rfl
@[simp] theorem State.setPair_mem (i : Nat) (x : PairSt) : (s.setPair i x).mem = s.mem := rfl
@[simp] theorem State.setPair_poison (i : Nat) (x : PairSt) : (s.setPair i x).poison = s.poison := rfl
@[simp] theorem State.setPair_out (i : Nat) (x : PairSt) : (s.setPair i x).out = s.out := rfl
@[simp] theorem State.setPair_answer (i : Nat) (x : PairSt) : (s.setPair i x).answer = s.answer := rfl
@[simp] theorem State.setPair_ring (i : Nat) (x : PairSt) : (s.setPair i x).ring = s.ring := rfl
@[simp] theorem State.setPair_events (i : Nat) (x : PairSt) : (s.setPair i x).events = s.events := rfl
@[simp] theorem State.setPair_scores (i : Nat) (x : PairSt) : (s.setPair i x).scores = s.scores := rfl
@[simp] theorem State.setPair_failedEls (i : Nat) (x : PairSt) : (s.setPair i x).failedEls = s.failedEls := rfl
@[simp] theorem State.setPair_tm (i : Nat) (x : PairSt) : (s.setPair i x).tm = s.tm := rfl
@[simp] theorem State.setPair_site (i : Nat) (x : PairSt) : (s.setPair i x).site = s.site := rfl
@[simp] theorem State.setPair_eng (i : Nat) (x : PairSt) : (s.setPair i x).eng = s.eng := rfl
@[simp] theorem State.setPair_slot0 (i : Nat) (x : PairSt) : (s.setPair i x).slot0 = s.slot0 := rfl
@[simp] theorem State.setPair_slot1 (i : Nat) (x : PairSt) : (s.setPair i x).slot1 = s.slot1 := rfl
@[simp] theorem State.setPair_streams (i : Nat) (x : PairSt) : (s.setPair i x).streams = s.streams := rfl
@[simp] theorem State.setPair_groups (i : Nat) (x : PairSt) : (s.setPair i x).groups = s.groups := rfl
@[simp] theorem State.setPair_groupInfo (i : Nat) (x : PairSt) : (s.setPair i x).groupInfo = s.groupInfo := rfl
@[simp] theorem State.setPair_opt (i : Nat) (x : PairSt) : (s.setPair i x).opt = s.opt := rfl
@[simp] theorem State.setPair_damages (i : Nat) (x : PairSt) : (s.setPair i x).damages = s.damages := rfl
@[simp] theorem State.setPair_landings (i : Nat) (x : PairSt) : (s.setPair i x).landings = s.landings := rfl
@[simp] theorem State.setPair_memSt (i : Nat) (x : PairSt) : (s.setPair i x).memSt = s.memSt := rfl
@[simp] theorem State.setPair_links (i : Nat) (x : PairSt) : (s.setPair i x).links = s.links := rfl
@[simp] theorem State.setPair_framer (i : Nat) (x : PairSt) : (s.setPair i x).framer = s.framer := rfl
@[simp] theorem State.setPair_routes (i : Nat) (x : PairSt) : (s.setPair i x).routes = s.routes := rfl
@[simp] theorem State.setPair_chans (i : Nat) (x : PairSt) : (s.setPair i x).chans = s.chans := rfl
@[simp] theorem State.setPair_foreign (i : Nat) (x : PairSt) : (s.setPair i x).foreign = s.foreign := rfl
@[simp] theorem State.setPair_defects (i : Nat) (x : PairSt) : (s.setPair i x).defects = s.defects := rfl
@[simp] theorem State.setPair_ports (i : Nat) (x : PairSt) : (s.setPair i x).ports = s.ports := rfl
@[simp] theorem State.setPair_ringSt (i : Nat) (x : PairSt) : (s.setPair i x).ringSt = s.ringSt := rfl
@[simp] theorem State.setPair_optics (i : Nat) (x : PairSt) : (s.setPair i x).optics = s.optics := rfl
@[simp] theorem State.setPair_engines (i : Nat) (x : PairSt) : (s.setPair i x).engines = s.engines := rfl
@[simp] theorem State.setPair_monitor (i : Nat) (x : PairSt) : (s.setPair i x).monitor = s.monitor := rfl
@[simp] theorem State.setPair_power (i : Nat) (x : PairSt) : (s.setPair i x).power = s.power := rfl
@[simp] theorem State.setPair_cells (i : Nat) (x : PairSt) : (s.setPair i x).cells = s.cells := rfl
@[simp] theorem State.setPair_jdp0 (i : Nat) (x : PairSt) : (s.setPair i x).jdp0 = s.jdp0 := rfl
@[simp] theorem State.setPair_jdp1 (i : Nat) (x : PairSt) : (s.setPair i x).jdp1 = s.jdp1 := rfl
@[simp] theorem State.setPair_mgmtChange (i : Nat) (x : PairSt) : (s.setPair i x).mgmtChange = s.mgmtChange := rfl
@[simp] theorem State.setPair_cvs (i : Nat) (x : PairSt) : (s.setPair i x).cvs = s.cvs := rfl
@[simp] theorem State.setPair_boot (i : Nat) (x : PairSt) : (s.setPair i x).boot = s.boot := rfl
@[simp] theorem State.setPair_pins (i : Nat) (x : PairSt) : (s.setPair i x).pins = s.pins := rfl

@[simp] theorem State.setCv_pending (i : Nat) (x : CvSt) : (s.setCv i x).pending = s.pending := rfl
@[simp] theorem State.setCv_now (i : Nat) (x : CvSt) : (s.setCv i x).now = s.now := rfl
@[simp] theorem State.setCv_free (i : Nat) (x : CvSt) : (s.setCv i x).free = s.free := rfl
@[simp] theorem State.setCv_objs (i : Nat) (x : CvSt) : (s.setCv i x).objs = s.objs := rfl
@[simp] theorem State.setCv_mem (i : Nat) (x : CvSt) : (s.setCv i x).mem = s.mem := rfl
@[simp] theorem State.setCv_poison (i : Nat) (x : CvSt) : (s.setCv i x).poison = s.poison := rfl
@[simp] theorem State.setCv_out (i : Nat) (x : CvSt) : (s.setCv i x).out = s.out := rfl
@[simp] theorem State.setCv_answer (i : Nat) (x : CvSt) : (s.setCv i x).answer = s.answer := rfl
@[simp] theorem State.setCv_ring (i : Nat) (x : CvSt) : (s.setCv i x).ring = s.ring := rfl
@[simp] theorem State.setCv_events (i : Nat) (x : CvSt) : (s.setCv i x).events = s.events := rfl
@[simp] theorem State.setCv_scores (i : Nat) (x : CvSt) : (s.setCv i x).scores = s.scores := rfl
@[simp] theorem State.setCv_failedEls (i : Nat) (x : CvSt) : (s.setCv i x).failedEls = s.failedEls := rfl
@[simp] theorem State.setCv_tm (i : Nat) (x : CvSt) : (s.setCv i x).tm = s.tm := rfl
@[simp] theorem State.setCv_site (i : Nat) (x : CvSt) : (s.setCv i x).site = s.site := rfl
@[simp] theorem State.setCv_eng (i : Nat) (x : CvSt) : (s.setCv i x).eng = s.eng := rfl
@[simp] theorem State.setCv_slot0 (i : Nat) (x : CvSt) : (s.setCv i x).slot0 = s.slot0 := rfl
@[simp] theorem State.setCv_slot1 (i : Nat) (x : CvSt) : (s.setCv i x).slot1 = s.slot1 := rfl
@[simp] theorem State.setCv_streams (i : Nat) (x : CvSt) : (s.setCv i x).streams = s.streams := rfl
@[simp] theorem State.setCv_groups (i : Nat) (x : CvSt) : (s.setCv i x).groups = s.groups := rfl
@[simp] theorem State.setCv_groupInfo (i : Nat) (x : CvSt) : (s.setCv i x).groupInfo = s.groupInfo := rfl
@[simp] theorem State.setCv_opt (i : Nat) (x : CvSt) : (s.setCv i x).opt = s.opt := rfl
@[simp] theorem State.setCv_damages (i : Nat) (x : CvSt) : (s.setCv i x).damages = s.damages := rfl
@[simp] theorem State.setCv_landings (i : Nat) (x : CvSt) : (s.setCv i x).landings = s.landings := rfl
@[simp] theorem State.setCv_memSt (i : Nat) (x : CvSt) : (s.setCv i x).memSt = s.memSt := rfl
@[simp] theorem State.setCv_links (i : Nat) (x : CvSt) : (s.setCv i x).links = s.links := rfl
@[simp] theorem State.setCv_framer (i : Nat) (x : CvSt) : (s.setCv i x).framer = s.framer := rfl
@[simp] theorem State.setCv_routes (i : Nat) (x : CvSt) : (s.setCv i x).routes = s.routes := rfl
@[simp] theorem State.setCv_chans (i : Nat) (x : CvSt) : (s.setCv i x).chans = s.chans := rfl
@[simp] theorem State.setCv_foreign (i : Nat) (x : CvSt) : (s.setCv i x).foreign = s.foreign := rfl
@[simp] theorem State.setCv_defects (i : Nat) (x : CvSt) : (s.setCv i x).defects = s.defects := rfl
@[simp] theorem State.setCv_ports (i : Nat) (x : CvSt) : (s.setCv i x).ports = s.ports := rfl
@[simp] theorem State.setCv_ringSt (i : Nat) (x : CvSt) : (s.setCv i x).ringSt = s.ringSt := rfl
@[simp] theorem State.setCv_cipher (i : Nat) (x : CvSt) : (s.setCv i x).cipher = s.cipher := rfl
@[simp] theorem State.setCv_optics (i : Nat) (x : CvSt) : (s.setCv i x).optics = s.optics := rfl
@[simp] theorem State.setCv_engines (i : Nat) (x : CvSt) : (s.setCv i x).engines = s.engines := rfl
@[simp] theorem State.setCv_monitor (i : Nat) (x : CvSt) : (s.setCv i x).monitor = s.monitor := rfl
@[simp] theorem State.setCv_power (i : Nat) (x : CvSt) : (s.setCv i x).power = s.power := rfl
@[simp] theorem State.setCv_cells (i : Nat) (x : CvSt) : (s.setCv i x).cells = s.cells := rfl
@[simp] theorem State.setCv_jdp0 (i : Nat) (x : CvSt) : (s.setCv i x).jdp0 = s.jdp0 := rfl
@[simp] theorem State.setCv_jdp1 (i : Nat) (x : CvSt) : (s.setCv i x).jdp1 = s.jdp1 := rfl
@[simp] theorem State.setCv_mgmtChange (i : Nat) (x : CvSt) : (s.setCv i x).mgmtChange = s.mgmtChange := rfl
@[simp] theorem State.setCv_boot (i : Nat) (x : CvSt) : (s.setCv i x).boot = s.boot := rfl
@[simp] theorem State.setCv_pins (i : Nat) (x : CvSt) : (s.setCv i x).pins = s.pins := rfl

@[simp] theorem State.setGroupInst_pending (i : Nat) (x : Option Instance) : (s.setGroupInst i x).pending = s.pending := rfl
@[simp] theorem State.setGroupInst_now (i : Nat) (x : Option Instance) : (s.setGroupInst i x).now = s.now := rfl
@[simp] theorem State.setGroupInst_free (i : Nat) (x : Option Instance) : (s.setGroupInst i x).free = s.free := rfl
@[simp] theorem State.setGroupInst_objs (i : Nat) (x : Option Instance) : (s.setGroupInst i x).objs = s.objs := rfl
@[simp] theorem State.setGroupInst_mem (i : Nat) (x : Option Instance) : (s.setGroupInst i x).mem = s.mem := rfl
@[simp] theorem State.setGroupInst_poison (i : Nat) (x : Option Instance) : (s.setGroupInst i x).poison = s.poison := rfl
@[simp] theorem State.setGroupInst_out (i : Nat) (x : Option Instance) : (s.setGroupInst i x).out = s.out := rfl
@[simp] theorem State.setGroupInst_answer (i : Nat) (x : Option Instance) : (s.setGroupInst i x).answer = s.answer := rfl
@[simp] theorem State.setGroupInst_ring (i : Nat) (x : Option Instance) : (s.setGroupInst i x).ring = s.ring := rfl
@[simp] theorem State.setGroupInst_events (i : Nat) (x : Option Instance) : (s.setGroupInst i x).events = s.events := rfl
@[simp] theorem State.setGroupInst_scores (i : Nat) (x : Option Instance) : (s.setGroupInst i x).scores = s.scores := rfl
@[simp] theorem State.setGroupInst_failedEls (i : Nat) (x : Option Instance) : (s.setGroupInst i x).failedEls = s.failedEls := rfl
@[simp] theorem State.setGroupInst_tm (i : Nat) (x : Option Instance) : (s.setGroupInst i x).tm = s.tm := rfl
@[simp] theorem State.setGroupInst_site (i : Nat) (x : Option Instance) : (s.setGroupInst i x).site = s.site := rfl
@[simp] theorem State.setGroupInst_eng (i : Nat) (x : Option Instance) : (s.setGroupInst i x).eng = s.eng := rfl
@[simp] theorem State.setGroupInst_slot0 (i : Nat) (x : Option Instance) : (s.setGroupInst i x).slot0 = s.slot0 := rfl
@[simp] theorem State.setGroupInst_slot1 (i : Nat) (x : Option Instance) : (s.setGroupInst i x).slot1 = s.slot1 := rfl
@[simp] theorem State.setGroupInst_streams (i : Nat) (x : Option Instance) : (s.setGroupInst i x).streams = s.streams := rfl
@[simp] theorem State.setGroupInst_groupInfo (i : Nat) (x : Option Instance) : (s.setGroupInst i x).groupInfo = s.groupInfo := rfl
@[simp] theorem State.setGroupInst_opt (i : Nat) (x : Option Instance) : (s.setGroupInst i x).opt = s.opt := rfl
@[simp] theorem State.setGroupInst_damages (i : Nat) (x : Option Instance) : (s.setGroupInst i x).damages = s.damages := rfl
@[simp] theorem State.setGroupInst_landings (i : Nat) (x : Option Instance) : (s.setGroupInst i x).landings = s.landings := rfl
@[simp] theorem State.setGroupInst_memSt (i : Nat) (x : Option Instance) : (s.setGroupInst i x).memSt = s.memSt := rfl
@[simp] theorem State.setGroupInst_links (i : Nat) (x : Option Instance) : (s.setGroupInst i x).links = s.links := rfl
@[simp] theorem State.setGroupInst_framer (i : Nat) (x : Option Instance) : (s.setGroupInst i x).framer = s.framer := rfl
@[simp] theorem State.setGroupInst_routes (i : Nat) (x : Option Instance) : (s.setGroupInst i x).routes = s.routes := rfl
@[simp] theorem State.setGroupInst_chans (i : Nat) (x : Option Instance) : (s.setGroupInst i x).chans = s.chans := rfl
@[simp] theorem State.setGroupInst_foreign (i : Nat) (x : Option Instance) : (s.setGroupInst i x).foreign = s.foreign := rfl
@[simp] theorem State.setGroupInst_defects (i : Nat) (x : Option Instance) : (s.setGroupInst i x).defects = s.defects := rfl
@[simp] theorem State.setGroupInst_ports (i : Nat) (x : Option Instance) : (s.setGroupInst i x).ports = s.ports := rfl
@[simp] theorem State.setGroupInst_ringSt (i : Nat) (x : Option Instance) : (s.setGroupInst i x).ringSt = s.ringSt := rfl
@[simp] theorem State.setGroupInst_cipher (i : Nat) (x : Option Instance) : (s.setGroupInst i x).cipher = s.cipher := rfl
@[simp] theorem State.setGroupInst_optics (i : Nat) (x : Option Instance) : (s.setGroupInst i x).optics = s.optics := rfl
@[simp] theorem State.setGroupInst_engines (i : Nat) (x : Option Instance) : (s.setGroupInst i x).engines = s.engines := rfl
@[simp] theorem State.setGroupInst_monitor (i : Nat) (x : Option Instance) : (s.setGroupInst i x).monitor = s.monitor := rfl
@[simp] theorem State.setGroupInst_power (i : Nat) (x : Option Instance) : (s.setGroupInst i x).power = s.power := rfl
@[simp] theorem State.setGroupInst_cells (i : Nat) (x : Option Instance) : (s.setGroupInst i x).cells = s.cells := rfl
@[simp] theorem State.setGroupInst_jdp0 (i : Nat) (x : Option Instance) : (s.setGroupInst i x).jdp0 = s.jdp0 := rfl
@[simp] theorem State.setGroupInst_jdp1 (i : Nat) (x : Option Instance) : (s.setGroupInst i x).jdp1 = s.jdp1 := rfl
@[simp] theorem State.setGroupInst_mgmtChange (i : Nat) (x : Option Instance) : (s.setGroupInst i x).mgmtChange = s.mgmtChange := rfl
@[simp] theorem State.setGroupInst_cvs (i : Nat) (x : Option Instance) : (s.setGroupInst i x).cvs = s.cvs := rfl
@[simp] theorem State.setGroupInst_boot (i : Nat) (x : Option Instance) : (s.setGroupInst i x).boot = s.boot := rfl
@[simp] theorem State.setGroupInst_pins (i : Nat) (x : Option Instance) : (s.setGroupInst i x).pins = s.pins := rfl

@[simp] theorem State.setSync_pending (i v : Nat) : (s.setSync i v).pending = s.pending := rfl
@[simp] theorem State.setSync_now (i v : Nat) : (s.setSync i v).now = s.now := rfl
@[simp] theorem State.setSync_free (i v : Nat) : (s.setSync i v).free = s.free := rfl
@[simp] theorem State.setSync_objs (i v : Nat) : (s.setSync i v).objs = s.objs := rfl
@[simp] theorem State.setSync_mem (i v : Nat) : (s.setSync i v).mem = s.mem := rfl
@[simp] theorem State.setSync_poison (i v : Nat) : (s.setSync i v).poison = s.poison := rfl
@[simp] theorem State.setSync_out (i v : Nat) : (s.setSync i v).out = s.out := rfl
@[simp] theorem State.setSync_answer (i v : Nat) : (s.setSync i v).answer = s.answer := rfl
@[simp] theorem State.setSync_ring (i v : Nat) : (s.setSync i v).ring = s.ring := rfl
@[simp] theorem State.setSync_events (i v : Nat) : (s.setSync i v).events = s.events := rfl
@[simp] theorem State.setSync_scores (i v : Nat) : (s.setSync i v).scores = s.scores := rfl
@[simp] theorem State.setSync_failedEls (i v : Nat) : (s.setSync i v).failedEls = s.failedEls := rfl
@[simp] theorem State.setSync_tm (i v : Nat) : (s.setSync i v).tm = s.tm := rfl
@[simp] theorem State.setSync_site (i v : Nat) : (s.setSync i v).site = s.site := rfl
@[simp] theorem State.setSync_slot0 (i v : Nat) : (s.setSync i v).slot0 = s.slot0 := rfl
@[simp] theorem State.setSync_slot1 (i v : Nat) : (s.setSync i v).slot1 = s.slot1 := rfl
@[simp] theorem State.setSync_streams (i v : Nat) : (s.setSync i v).streams = s.streams := rfl
@[simp] theorem State.setSync_groups (i v : Nat) : (s.setSync i v).groups = s.groups := rfl
@[simp] theorem State.setSync_groupInfo (i v : Nat) : (s.setSync i v).groupInfo = s.groupInfo := rfl
@[simp] theorem State.setSync_opt (i v : Nat) : (s.setSync i v).opt = s.opt := rfl
@[simp] theorem State.setSync_damages (i v : Nat) : (s.setSync i v).damages = s.damages := rfl
@[simp] theorem State.setSync_landings (i v : Nat) : (s.setSync i v).landings = s.landings := rfl
@[simp] theorem State.setSync_memSt (i v : Nat) : (s.setSync i v).memSt = s.memSt := rfl
@[simp] theorem State.setSync_links (i v : Nat) : (s.setSync i v).links = s.links := rfl
@[simp] theorem State.setSync_framer (i v : Nat) : (s.setSync i v).framer = s.framer := rfl
@[simp] theorem State.setSync_routes (i v : Nat) : (s.setSync i v).routes = s.routes := rfl
@[simp] theorem State.setSync_chans (i v : Nat) : (s.setSync i v).chans = s.chans := rfl
@[simp] theorem State.setSync_foreign (i v : Nat) : (s.setSync i v).foreign = s.foreign := rfl
@[simp] theorem State.setSync_defects (i v : Nat) : (s.setSync i v).defects = s.defects := rfl
@[simp] theorem State.setSync_ports (i v : Nat) : (s.setSync i v).ports = s.ports := rfl
@[simp] theorem State.setSync_ringSt (i v : Nat) : (s.setSync i v).ringSt = s.ringSt := rfl
@[simp] theorem State.setSync_cipher (i v : Nat) : (s.setSync i v).cipher = s.cipher := rfl
@[simp] theorem State.setSync_optics (i v : Nat) : (s.setSync i v).optics = s.optics := rfl
@[simp] theorem State.setSync_engines (i v : Nat) : (s.setSync i v).engines = s.engines := rfl
@[simp] theorem State.setSync_monitor (i v : Nat) : (s.setSync i v).monitor = s.monitor := rfl
@[simp] theorem State.setSync_power (i v : Nat) : (s.setSync i v).power = s.power := rfl
@[simp] theorem State.setSync_cells (i v : Nat) : (s.setSync i v).cells = s.cells := rfl
@[simp] theorem State.setSync_jdp0 (i v : Nat) : (s.setSync i v).jdp0 = s.jdp0 := rfl
@[simp] theorem State.setSync_jdp1 (i v : Nat) : (s.setSync i v).jdp1 = s.jdp1 := rfl
@[simp] theorem State.setSync_mgmtChange (i v : Nat) : (s.setSync i v).mgmtChange = s.mgmtChange := rfl
@[simp] theorem State.setSync_cvs (i v : Nat) : (s.setSync i v).cvs = s.cvs := rfl
@[simp] theorem State.setSync_boot (i v : Nat) : (s.setSync i v).boot = s.boot := rfl
@[simp] theorem State.setSync_pins (i v : Nat) : (s.setSync i v).pins = s.pins := rfl

/-! ### Objects -/

@[simp] theorem State.obj_tick (t o : Nat) : (s.tick t).obj o = s.obj o := rfl
@[simp] theorem State.obj_emit (x : Output) (o : Nat) : (s.emit x).obj o = s.obj o := rfl
@[simp] theorem State.obj_reply (r : Status) (o : Nat) : (State.reply (r, s)).obj o = s.obj o := rfl
@[simp] theorem State.answer_reply (r : Status) : (State.reply (r, s)).answer = r := rfl
@[simp] theorem State.now_tick (t : Nat) : (s.tick t).now = max s.now t := rfl
@[simp] theorem State.obj_write (a : Nat) (bs : List Byte) (o : Nat) : (s.write a bs).obj o = s.obj o := rfl
@[simp] theorem State.obj_setSync (i v o : Nat) : (s.setSync i v).obj o = s.obj o := rfl

/-- A stored object reads as the value written, cut to its width. -/
@[simp] theorem State.obj_setObj_same (o v : Nat) : (s.setObj o v).obj o = v % 2 ^ objBits o := by
  simp [State.obj, State.setObj]

/-- Storing an object leaves every other object alone. -/
theorem State.obj_setObj_ne {o p : Nat} (v : Nat) (h : p ≠ o) : (s.setObj o v).obj p = s.obj p := by
  simp [State.obj, State.setObj, tget_tset_ne _ _ _ h]

theorem State.obj_setObj (o p v : Nat) : (s.setObj o v).obj p = if p = o then v % 2 ^ objBits o else s.obj p := by
  split
  · next h => subst h; simp
  · next h => exact State.obj_setObj_ne s v h

@[simp] theorem State.obj_bump_same (o : Nat) : (s.bump o).obj o = (s.obj o + 1) % 2 ^ objBits o := by
  simp [State.bump, State.bumpBy]

theorem State.obj_bump_ne {o p : Nat} (h : p ≠ o) : (s.bump o).obj p = s.obj p := by
  simp [State.bump, State.bumpBy, State.obj_setObj_ne _ _ h]

theorem State.obj_bumpBy_ne {o p : Nat} (n : Nat) (h : p ≠ o) : (s.bumpBy o n).obj p = s.obj p := by
  simp [State.bumpBy, State.obj_setObj_ne _ _ h]

@[simp] theorem State.net_setObj (o v : Nat) : (s.setObj o v).net = s.net := rfl
@[simp] theorem State.net_bump (o : Nat) : (s.bump o).net = s.net := by rw [State.bump_eq]; rfl
@[simp] theorem State.net_event (c u v : Nat) : (s.event c u v).net = s.net := by rw [State.event_eq]; rfl

/-! ### Events -/

/-- The newest record of the ring after an event: its sequence, code, time, subject and value. -/
@[simp] theorem State.event_head (c u v : Nat) :
    (s.event c u v).ring.head? = some ⟨s.obj Reg.eventWriteSeq, c, s.net, u % 2 ^ 64, v % 2 ^ 64⟩ := rfl

@[simp] theorem State.event_events (c u v : Nat) : (s.event c u v).events = s.events + 1 := rfl

/-- An event changes no object but the sequence of the ring. -/
theorem State.obj_event_ne {p : Nat} (c u v : Nat) (h : p ≠ Reg.eventWriteSeq) : (s.event c u v).obj p = s.obj p := by
  unfold State.event
  rw [State.obj_bump_ne _ h]
  rfl

/-! ### Memory -/

/-- A byte written reads back. -/
@[simp] theorem readByte_writeByte_same (m : List Host.Cell) (a : Nat) (b : Byte) : readByte (writeByte m a b) a = b := by
  simp [readByte, writeByte]

/-- A byte written leaves every other byte alone. -/
theorem readByte_writeByte_ne (m : List Host.Cell) {a x : Nat} (b : Byte) (h : x ≠ a) :
    readByte (writeByte m a b) x = readByte m x := tget_tset_ne _ _ _ h

theorem wf_writeByte {m : List Host.Cell} (a : Nat) (b : Byte) (h : Memory.wf m) : Memory.wf (writeByte m a b) :=
  twf_tset _ _ _ _ h

/-- A stretch of bytes written keeps the canonical form. -/
theorem wf_writeCells {m : List Host.Cell} (a : Nat) (bs : List Byte) (h : Memory.wf m) : Memory.wf (writeCells m a bs) := by
  induction bs generalizing m a with
  | nil => exact h
  | cons b r ih => exact ih (a + 1) (wf_writeByte a b h)

/-- A stretch of bytes written leaves every byte outside it alone. -/
theorem readByte_writeCells_out (m : List Host.Cell) (a : Nat) (bs : List Byte) {x : Nat} (h : x < a ∨ a + bs.length ≤ x) :
    readByte (writeCells m a bs) x = readByte m x := by
  induction bs generalizing m a with
  | nil => rfl
  | cons b r ih =>
    simp only [List.length_cons] at h
    rw [writeCells, ih _ _ (by omega), readByte_writeByte_ne m b (by omega)]

/-- A stretch of bytes written reads back. -/
theorem readByte_writeCells_in (m : List Host.Cell) (a : Nat) (bs : List Byte) {i : Nat} (h : i < bs.length) :
    readByte (writeCells m a bs) (a + i) = bs[i] := by
  induction bs generalizing m a i with
  | nil => simp at h
  | cons b r ih =>
    cases i with
    | zero => rw [writeCells, Nat.add_zero, readByte_writeCells_out _ _ _ (by omega)]; simp
    | succ k =>
      have := ih (writeByte m a b) (a + 1) (i := k) (by simpa using h)
      rw [writeCells, show a + (k + 1) = a + 1 + k by omega]
      simpa using this

/-- Memory with some of its cells taken out keeps the canonical form. -/
theorem twf_filter {α : Type} [DecidableEq α] (d : α) (f : Nat × α → Bool) (t : Tab α) (lo : Nat) (h : twf d lo t = true) :
    twf d lo (t.filter f) = true := by
  induction t generalizing lo with
  | nil => rfl
  | cons p r ih =>
    obtain ⟨k, v⟩ := p
    simp [twf] at h
    rw [List.filter_cons]
    split
    · simp only [twf, Bool.and_eq_true, decide_eq_true_eq]
      exact ⟨⟨h.1.1, h.1.2⟩, ih _ h.2⟩
    · exact twf_mono d _ (by omega) (ih _ h.2)

theorem wf_write (a : Nat) (bs : List Byte) (h : Memory.wf s.mem) : Memory.wf (s.write a bs).mem := wf_writeCells a bs h

theorem State.freeBytes_mem (n : Nat) : (State.freeBytes n s).2.mem = s.mem := by
  induction n generalizing s with
  | zero => rfl
  | succ n ih => simp only [State.freeBytes]; rw [ih]; rfl

theorem State.freeBytes_length (n : Nat) : (State.freeBytes n s).1.length = n := by
  induction n generalizing s with
  | zero => rfl
  | succ n ih => simp only [State.freeBytes, List.length_cons]; rw [ih]

/-- An area that becomes invalid keeps the canonical form. -/
theorem wf_invalidate (a n : Nat) (h : Memory.wf s.mem) : Memory.wf (s.invalidate a n).mem := by
  unfold State.invalidate
  exact wf_writeCells _ _ (by rw [State.freeBytes_mem]; exact h)

/-- Only the area that becomes invalid changes. -/
theorem readByte_invalidate_out (a n : Nat) {x : Nat} (h : x < a ∨ a + n ≤ x) :
    readByte (s.invalidate a n).mem x = readByte s.mem x := by
  unfold State.invalidate
  simp only
  rw [readByte_writeCells_out _ _ _ (by rw [State.freeBytes_length]; exact h), State.freeBytes_mem]

/-- Memory after reset is in its canonical form. -/
theorem wf_reset : Memory.wf State.reset.mem := rfl

/-! ### Tables of the chapters -/

@[simp] theorem State.stream_setStream_same (i : Nat) (x : StreamCtx) : (s.setStream i x).stream i = x := by simp [State.stream, State.setStream]
theorem State.stream_setStream_ne {i j : Nat} (x : StreamCtx) (h : j ≠ i) : (s.setStream i x).stream j = s.stream j := by
  simp [State.stream, State.setStream, tget_tset_ne _ _ _ h]
@[simp] theorem State.obj_setStream (i : Nat) (x : StreamCtx) (o : Nat) : (s.setStream i x).obj o = s.obj o := rfl
@[simp] theorem State.link_setLink_same (i : Nat) (x : LinkSt) : (s.setLink i x).link i = x := by simp [State.link, State.setLink]
theorem State.link_setLink_ne {i j : Nat} (x : LinkSt) (h : j ≠ i) : (s.setLink i x).link j = s.link j := by
  simp [State.link, State.setLink, tget_tset_ne _ _ _ h]
@[simp] theorem State.obj_setLink (i : Nat) (x : LinkSt) (o : Nat) : (s.setLink i x).obj o = s.obj o := rfl
@[simp] theorem State.route_setRoute_same (i : Nat) (x : RouteSt) : (s.setRoute i x).route i = x := by simp [State.route, State.setRoute]
theorem State.route_setRoute_ne {i j : Nat} (x : RouteSt) (h : j ≠ i) : (s.setRoute i x).route j = s.route j := by
  simp [State.route, State.setRoute, tget_tset_ne _ _ _ h]
@[simp] theorem State.obj_setRoute (i : Nat) (x : RouteSt) (o : Nat) : (s.setRoute i x).obj o = s.obj o := rfl
@[simp] theorem State.chan_setChan_same (i : Nat) (x : ChannelSt) : (s.setChan i x).chan i = x := by simp [State.chan, State.setChan]
theorem State.chan_setChan_ne {i j : Nat} (x : ChannelSt) (h : j ≠ i) : (s.setChan i x).chan j = s.chan j := by
  simp [State.chan, State.setChan, tget_tset_ne _ _ _ h]
@[simp] theorem State.obj_setChan (i : Nat) (x : ChannelSt) (o : Nat) : (s.setChan i x).obj o = s.obj o := rfl
@[simp] theorem State.optic_setOptic_same (i : Nat) (x : OpticSt) : (s.setOptic i x).optic i = x := by simp [State.optic, State.setOptic]
theorem State.optic_setOptic_ne {i j : Nat} (x : OpticSt) (h : j ≠ i) : (s.setOptic i x).optic j = s.optic j := by
  simp [State.optic, State.setOptic, tget_tset_ne _ _ _ h]
@[simp] theorem State.obj_setOptic (i : Nat) (x : OpticSt) (o : Nat) : (s.setOptic i x).obj o = s.obj o := rfl
@[simp] theorem State.engineSt_setEngineSt_same (i : Nat) (x : EngineSt) : (s.setEngineSt i x).engineSt i = x := by simp [State.engineSt, State.setEngineSt]
theorem State.engineSt_setEngineSt_ne {i j : Nat} (x : EngineSt) (h : j ≠ i) : (s.setEngineSt i x).engineSt j = s.engineSt j := by
  simp [State.engineSt, State.setEngineSt, tget_tset_ne _ _ _ h]
@[simp] theorem State.obj_setEngineSt (i : Nat) (x : EngineSt) (o : Nat) : (s.setEngineSt i x).obj o = s.obj o := rfl
@[simp] theorem State.port_setPort_same (i : Nat) (x : PortSt) : (s.setPort i x).port i = x := by simp [State.port, State.setPort]
theorem State.port_setPort_ne {i j : Nat} (x : PortSt) (h : j ≠ i) : (s.setPort i x).port j = s.port j := by
  simp [State.port, State.setPort, tget_tset_ne _ _ _ h]
@[simp] theorem State.obj_setPort (i : Nat) (x : PortSt) (o : Nat) : (s.setPort i x).obj o = s.obj o := rfl
@[simp] theorem State.pair_setPair_same (i : Nat) (x : PairSt) : (s.setPair i x).pair i = x := by simp [State.pair, State.setPair]
theorem State.pair_setPair_ne {i j : Nat} (x : PairSt) (h : j ≠ i) : (s.setPair i x).pair j = s.pair j := by
  simp [State.pair, State.setPair, tget_tset_ne _ _ _ h]
@[simp] theorem State.obj_setPair (i : Nat) (x : PairSt) (o : Nat) : (s.setPair i x).obj o = s.obj o := rfl
@[simp] theorem State.cv_setCv_same (i : Nat) (x : CvSt) : (s.setCv i x).cv i = x := by simp [State.cv, State.setCv]
theorem State.cv_setCv_ne {i j : Nat} (x : CvSt) (h : j ≠ i) : (s.setCv i x).cv j = s.cv j := by
  simp [State.cv, State.setCv, tget_tset_ne _ _ _ h]
@[simp] theorem State.obj_setCv (i : Nat) (x : CvSt) (o : Nat) : (s.setCv i x).obj o = s.obj o := rfl
@[simp] theorem State.groupInst_setGroupInst_same (i : Nat) (x : Option Instance) : (s.setGroupInst i x).groupInst i = x := by simp [State.groupInst, State.setGroupInst]
theorem State.groupInst_setGroupInst_ne {i j : Nat} (x : Option Instance) (h : j ≠ i) : (s.setGroupInst i x).groupInst j = s.groupInst j := by
  simp [State.groupInst, State.setGroupInst, tget_tset_ne _ _ _ h]
@[simp] theorem State.obj_setGroupInst (i : Nat) (x : Option Instance) (o : Nat) : (s.setGroupInst i x).obj o = s.obj o := rfl
@[simp] theorem State.sync_setSync_same (i v : Nat) : (s.setSync i v).sync i = v := by simp [State.sync, State.setSync]
theorem State.sync_setSync_ne {i j : Nat} (v : Nat) (h : j ≠ i) : (s.setSync i v).sync j = s.sync j := by
  simp [State.sync, State.setSync, tget_tset_ne _ _ _ h]

/-! ### Health -/

/-- Events of a change of health touch the ring, the count of events and the ring's sequence only. -/
theorem State.healthEvents_eq (b : State) (es : List Nat) : s.healthEvents b es =
    { s with objs := (s.healthEvents b es).objs, ring := (s.healthEvents b es).ring,
             events := (s.healthEvents b es).events } := by
  unfold State.healthEvents
  induction es generalizing s with
  | nil => rfl
  | cons e r ih =>
    rw [List.foldl_cons]
    split
    · exact ih s
    · rw [ih]; rfl

theorem State.points_eq (e n : Nat) : s.points e n =
    { s with objs := (s.points e n).objs, ring := (s.points e n).ring, events := (s.points e n).events,
             scores := tset 0 s.scores e (min (tget 0 s.scores e + n) 0xFFFFFFFF) } :=
  State.healthEvents_eq _ _ _

theorem State.failElement_eq (e : Nat) : s.failElement e =
    { s with objs := (s.failElement e).objs, ring := (s.failElement e).ring, events := (s.failElement e).events,
             failedEls := (s.failElement e).failedEls } := by
  unfold State.failElement
  split
  · rfl
  · rw [State.healthEvents_eq]

@[simp] theorem State.healthEvents_pending (b : State) (es : List Nat) : (s.healthEvents b es).pending = s.pending := by rw [State.healthEvents_eq]
@[simp] theorem State.healthEvents_now (b : State) (es : List Nat) : (s.healthEvents b es).now = s.now := by rw [State.healthEvents_eq]
@[simp] theorem State.healthEvents_free (b : State) (es : List Nat) : (s.healthEvents b es).free = s.free := by rw [State.healthEvents_eq]
@[simp] theorem State.healthEvents_mem (b : State) (es : List Nat) : (s.healthEvents b es).mem = s.mem := by rw [State.healthEvents_eq]
@[simp] theorem State.healthEvents_poison (b : State) (es : List Nat) : (s.healthEvents b es).poison = s.poison := by rw [State.healthEvents_eq]
@[simp] theorem State.healthEvents_out (b : State) (es : List Nat) : (s.healthEvents b es).out = s.out := by rw [State.healthEvents_eq]
@[simp] theorem State.healthEvents_answer (b : State) (es : List Nat) : (s.healthEvents b es).answer = s.answer := by rw [State.healthEvents_eq]
@[simp] theorem State.healthEvents_scores (b : State) (es : List Nat) : (s.healthEvents b es).scores = s.scores := by rw [State.healthEvents_eq]
@[simp] theorem State.healthEvents_failedEls (b : State) (es : List Nat) : (s.healthEvents b es).failedEls = s.failedEls := by rw [State.healthEvents_eq]
@[simp] theorem State.healthEvents_tm (b : State) (es : List Nat) : (s.healthEvents b es).tm = s.tm := by rw [State.healthEvents_eq]
@[simp] theorem State.healthEvents_site (b : State) (es : List Nat) : (s.healthEvents b es).site = s.site := by rw [State.healthEvents_eq]
@[simp] theorem State.healthEvents_eng (b : State) (es : List Nat) : (s.healthEvents b es).eng = s.eng := by rw [State.healthEvents_eq]
@[simp] theorem State.healthEvents_slot0 (b : State) (es : List Nat) : (s.healthEvents b es).slot0 = s.slot0 := by rw [State.healthEvents_eq]
@[simp] theorem State.healthEvents_slot1 (b : State) (es : List Nat) : (s.healthEvents b es).slot1 = s.slot1 := by rw [State.healthEvents_eq]
@[simp] theorem State.healthEvents_streams (b : State) (es : List Nat) : (s.healthEvents b es).streams = s.streams := by rw [State.healthEvents_eq]
@[simp] theorem State.healthEvents_groups (b : State) (es : List Nat) : (s.healthEvents b es).groups = s.groups := by rw [State.healthEvents_eq]
@[simp] theorem State.healthEvents_groupInfo (b : State) (es : List Nat) : (s.healthEvents b es).groupInfo = s.groupInfo := by rw [State.healthEvents_eq]
@[simp] theorem State.healthEvents_opt (b : State) (es : List Nat) : (s.healthEvents b es).opt = s.opt := by rw [State.healthEvents_eq]
@[simp] theorem State.healthEvents_damages (b : State) (es : List Nat) : (s.healthEvents b es).damages = s.damages := by rw [State.healthEvents_eq]
@[simp] theorem State.healthEvents_landings (b : State) (es : List Nat) : (s.healthEvents b es).landings = s.landings := by rw [State.healthEvents_eq]
@[simp] theorem State.healthEvents_memSt (b : State) (es : List Nat) : (s.healthEvents b es).memSt = s.memSt := by rw [State.healthEvents_eq]
@[simp] theorem State.healthEvents_links (b : State) (es : List Nat) : (s.healthEvents b es).links = s.links := by rw [State.healthEvents_eq]
@[simp] theorem State.healthEvents_framer (b : State) (es : List Nat) : (s.healthEvents b es).framer = s.framer := by rw [State.healthEvents_eq]
@[simp] theorem State.healthEvents_routes (b : State) (es : List Nat) : (s.healthEvents b es).routes = s.routes := by rw [State.healthEvents_eq]
@[simp] theorem State.healthEvents_chans (b : State) (es : List Nat) : (s.healthEvents b es).chans = s.chans := by rw [State.healthEvents_eq]
@[simp] theorem State.healthEvents_foreign (b : State) (es : List Nat) : (s.healthEvents b es).foreign = s.foreign := by rw [State.healthEvents_eq]
@[simp] theorem State.healthEvents_defects (b : State) (es : List Nat) : (s.healthEvents b es).defects = s.defects := by rw [State.healthEvents_eq]
@[simp] theorem State.healthEvents_ports (b : State) (es : List Nat) : (s.healthEvents b es).ports = s.ports := by rw [State.healthEvents_eq]
@[simp] theorem State.healthEvents_ringSt (b : State) (es : List Nat) : (s.healthEvents b es).ringSt = s.ringSt := by rw [State.healthEvents_eq]
@[simp] theorem State.healthEvents_cipher (b : State) (es : List Nat) : (s.healthEvents b es).cipher = s.cipher := by rw [State.healthEvents_eq]
@[simp] theorem State.healthEvents_optics (b : State) (es : List Nat) : (s.healthEvents b es).optics = s.optics := by rw [State.healthEvents_eq]
@[simp] theorem State.healthEvents_engines (b : State) (es : List Nat) : (s.healthEvents b es).engines = s.engines := by rw [State.healthEvents_eq]
@[simp] theorem State.healthEvents_monitor (b : State) (es : List Nat) : (s.healthEvents b es).monitor = s.monitor := by rw [State.healthEvents_eq]
@[simp] theorem State.healthEvents_power (b : State) (es : List Nat) : (s.healthEvents b es).power = s.power := by rw [State.healthEvents_eq]
@[simp] theorem State.healthEvents_cells (b : State) (es : List Nat) : (s.healthEvents b es).cells = s.cells := by rw [State.healthEvents_eq]
@[simp] theorem State.healthEvents_jdp0 (b : State) (es : List Nat) : (s.healthEvents b es).jdp0 = s.jdp0 := by rw [State.healthEvents_eq]
@[simp] theorem State.healthEvents_jdp1 (b : State) (es : List Nat) : (s.healthEvents b es).jdp1 = s.jdp1 := by rw [State.healthEvents_eq]
@[simp] theorem State.healthEvents_mgmtChange (b : State) (es : List Nat) : (s.healthEvents b es).mgmtChange = s.mgmtChange := by rw [State.healthEvents_eq]
@[simp] theorem State.healthEvents_cvs (b : State) (es : List Nat) : (s.healthEvents b es).cvs = s.cvs := by rw [State.healthEvents_eq]
@[simp] theorem State.healthEvents_boot (b : State) (es : List Nat) : (s.healthEvents b es).boot = s.boot := by rw [State.healthEvents_eq]
@[simp] theorem State.healthEvents_pins (b : State) (es : List Nat) : (s.healthEvents b es).pins = s.pins := by rw [State.healthEvents_eq]
@[simp] theorem State.points_pending (e n : Nat) : (s.points e n).pending = s.pending := by rw [State.points_eq]
@[simp] theorem State.failElement_pending (e : Nat) : (s.failElement e).pending = s.pending := by rw [State.failElement_eq]
@[simp] theorem State.points_now (e n : Nat) : (s.points e n).now = s.now := by rw [State.points_eq]
@[simp] theorem State.failElement_now (e : Nat) : (s.failElement e).now = s.now := by rw [State.failElement_eq]
@[simp] theorem State.points_free (e n : Nat) : (s.points e n).free = s.free := by rw [State.points_eq]
@[simp] theorem State.failElement_free (e : Nat) : (s.failElement e).free = s.free := by rw [State.failElement_eq]
@[simp] theorem State.points_mem (e n : Nat) : (s.points e n).mem = s.mem := by rw [State.points_eq]
@[simp] theorem State.failElement_mem (e : Nat) : (s.failElement e).mem = s.mem := by rw [State.failElement_eq]
@[simp] theorem State.points_poison (e n : Nat) : (s.points e n).poison = s.poison := by rw [State.points_eq]
@[simp] theorem State.failElement_poison (e : Nat) : (s.failElement e).poison = s.poison := by rw [State.failElement_eq]
@[simp] theorem State.points_out (e n : Nat) : (s.points e n).out = s.out := by rw [State.points_eq]
@[simp] theorem State.failElement_out (e : Nat) : (s.failElement e).out = s.out := by rw [State.failElement_eq]
@[simp] theorem State.points_answer (e n : Nat) : (s.points e n).answer = s.answer := by rw [State.points_eq]
@[simp] theorem State.failElement_answer (e : Nat) : (s.failElement e).answer = s.answer := by rw [State.failElement_eq]
@[simp] theorem State.failElement_scores (e : Nat) : (s.failElement e).scores = s.scores := by rw [State.failElement_eq]
@[simp] theorem State.points_failedEls (e n : Nat) : (s.points e n).failedEls = s.failedEls := by rw [State.points_eq]
@[simp] theorem State.points_tm (e n : Nat) : (s.points e n).tm = s.tm := by rw [State.points_eq]
@[simp] theorem State.failElement_tm (e : Nat) : (s.failElement e).tm = s.tm := by rw [State.failElement_eq]
@[simp] theorem State.points_site (e n : Nat) : (s.points e n).site = s.site := by rw [State.points_eq]
@[simp] theorem State.failElement_site (e : Nat) : (s.failElement e).site = s.site := by rw [State.failElement_eq]
@[simp] theorem State.points_eng (e n : Nat) : (s.points e n).eng = s.eng := by rw [State.points_eq]
@[simp] theorem State.failElement_eng (e : Nat) : (s.failElement e).eng = s.eng := by rw [State.failElement_eq]
@[simp] theorem State.points_slot0 (e n : Nat) : (s.points e n).slot0 = s.slot0 := by rw [State.points_eq]
@[simp] theorem State.failElement_slot0 (e : Nat) : (s.failElement e).slot0 = s.slot0 := by rw [State.failElement_eq]
@[simp] theorem State.points_slot1 (e n : Nat) : (s.points e n).slot1 = s.slot1 := by rw [State.points_eq]
@[simp] theorem State.failElement_slot1 (e : Nat) : (s.failElement e).slot1 = s.slot1 := by rw [State.failElement_eq]
@[simp] theorem State.points_streams (e n : Nat) : (s.points e n).streams = s.streams := by rw [State.points_eq]
@[simp] theorem State.failElement_streams (e : Nat) : (s.failElement e).streams = s.streams := by rw [State.failElement_eq]
@[simp] theorem State.points_groups (e n : Nat) : (s.points e n).groups = s.groups := by rw [State.points_eq]
@[simp] theorem State.failElement_groups (e : Nat) : (s.failElement e).groups = s.groups := by rw [State.failElement_eq]
@[simp] theorem State.points_groupInfo (e n : Nat) : (s.points e n).groupInfo = s.groupInfo := by rw [State.points_eq]
@[simp] theorem State.failElement_groupInfo (e : Nat) : (s.failElement e).groupInfo = s.groupInfo := by rw [State.failElement_eq]
@[simp] theorem State.points_opt (e n : Nat) : (s.points e n).opt = s.opt := by rw [State.points_eq]
@[simp] theorem State.failElement_opt (e : Nat) : (s.failElement e).opt = s.opt := by rw [State.failElement_eq]
@[simp] theorem State.points_damages (e n : Nat) : (s.points e n).damages = s.damages := by rw [State.points_eq]
@[simp] theorem State.failElement_damages (e : Nat) : (s.failElement e).damages = s.damages := by rw [State.failElement_eq]
@[simp] theorem State.points_landings (e n : Nat) : (s.points e n).landings = s.landings := by rw [State.points_eq]
@[simp] theorem State.failElement_landings (e : Nat) : (s.failElement e).landings = s.landings := by rw [State.failElement_eq]
@[simp] theorem State.points_memSt (e n : Nat) : (s.points e n).memSt = s.memSt := by rw [State.points_eq]
@[simp] theorem State.failElement_memSt (e : Nat) : (s.failElement e).memSt = s.memSt := by rw [State.failElement_eq]
@[simp] theorem State.points_links (e n : Nat) : (s.points e n).links = s.links := by rw [State.points_eq]
@[simp] theorem State.failElement_links (e : Nat) : (s.failElement e).links = s.links := by rw [State.failElement_eq]
@[simp] theorem State.points_framer (e n : Nat) : (s.points e n).framer = s.framer := by rw [State.points_eq]
@[simp] theorem State.failElement_framer (e : Nat) : (s.failElement e).framer = s.framer := by rw [State.failElement_eq]
@[simp] theorem State.points_routes (e n : Nat) : (s.points e n).routes = s.routes := by rw [State.points_eq]
@[simp] theorem State.failElement_routes (e : Nat) : (s.failElement e).routes = s.routes := by rw [State.failElement_eq]
@[simp] theorem State.points_chans (e n : Nat) : (s.points e n).chans = s.chans := by rw [State.points_eq]
@[simp] theorem State.failElement_chans (e : Nat) : (s.failElement e).chans = s.chans := by rw [State.failElement_eq]
@[simp] theorem State.points_foreign (e n : Nat) : (s.points e n).foreign = s.foreign := by rw [State.points_eq]
@[simp] theorem State.failElement_foreign (e : Nat) : (s.failElement e).foreign = s.foreign := by rw [State.failElement_eq]
@[simp] theorem State.points_defects (e n : Nat) : (s.points e n).defects = s.defects := by rw [State.points_eq]
@[simp] theorem State.failElement_defects (e : Nat) : (s.failElement e).defects = s.defects := by rw [State.failElement_eq]
@[simp] theorem State.points_ports (e n : Nat) : (s.points e n).ports = s.ports := by rw [State.points_eq]
@[simp] theorem State.failElement_ports (e : Nat) : (s.failElement e).ports = s.ports := by rw [State.failElement_eq]
@[simp] theorem State.points_ringSt (e n : Nat) : (s.points e n).ringSt = s.ringSt := by rw [State.points_eq]
@[simp] theorem State.failElement_ringSt (e : Nat) : (s.failElement e).ringSt = s.ringSt := by rw [State.failElement_eq]
@[simp] theorem State.points_cipher (e n : Nat) : (s.points e n).cipher = s.cipher := by rw [State.points_eq]
@[simp] theorem State.failElement_cipher (e : Nat) : (s.failElement e).cipher = s.cipher := by rw [State.failElement_eq]
@[simp] theorem State.points_optics (e n : Nat) : (s.points e n).optics = s.optics := by rw [State.points_eq]
@[simp] theorem State.failElement_optics (e : Nat) : (s.failElement e).optics = s.optics := by rw [State.failElement_eq]
@[simp] theorem State.points_engines (e n : Nat) : (s.points e n).engines = s.engines := by rw [State.points_eq]
@[simp] theorem State.failElement_engines (e : Nat) : (s.failElement e).engines = s.engines := by rw [State.failElement_eq]
@[simp] theorem State.points_monitor (e n : Nat) : (s.points e n).monitor = s.monitor := by rw [State.points_eq]
@[simp] theorem State.failElement_monitor (e : Nat) : (s.failElement e).monitor = s.monitor := by rw [State.failElement_eq]
@[simp] theorem State.points_power (e n : Nat) : (s.points e n).power = s.power := by rw [State.points_eq]
@[simp] theorem State.failElement_power (e : Nat) : (s.failElement e).power = s.power := by rw [State.failElement_eq]
@[simp] theorem State.points_cells (e n : Nat) : (s.points e n).cells = s.cells := by rw [State.points_eq]
@[simp] theorem State.failElement_cells (e : Nat) : (s.failElement e).cells = s.cells := by rw [State.failElement_eq]
@[simp] theorem State.points_jdp0 (e n : Nat) : (s.points e n).jdp0 = s.jdp0 := by rw [State.points_eq]
@[simp] theorem State.failElement_jdp0 (e : Nat) : (s.failElement e).jdp0 = s.jdp0 := by rw [State.failElement_eq]
@[simp] theorem State.points_jdp1 (e n : Nat) : (s.points e n).jdp1 = s.jdp1 := by rw [State.points_eq]
@[simp] theorem State.failElement_jdp1 (e : Nat) : (s.failElement e).jdp1 = s.jdp1 := by rw [State.failElement_eq]
@[simp] theorem State.points_mgmtChange (e n : Nat) : (s.points e n).mgmtChange = s.mgmtChange := by rw [State.points_eq]
@[simp] theorem State.failElement_mgmtChange (e : Nat) : (s.failElement e).mgmtChange = s.mgmtChange := by rw [State.failElement_eq]
@[simp] theorem State.points_cvs (e n : Nat) : (s.points e n).cvs = s.cvs := by rw [State.points_eq]
@[simp] theorem State.failElement_cvs (e : Nat) : (s.failElement e).cvs = s.cvs := by rw [State.failElement_eq]
@[simp] theorem State.points_boot (e n : Nat) : (s.points e n).boot = s.boot := by rw [State.points_eq]
@[simp] theorem State.failElement_boot (e : Nat) : (s.failElement e).boot = s.boot := by rw [State.failElement_eq]
@[simp] theorem State.points_pins (e n : Nat) : (s.points e n).pins = s.pins := by rw [State.points_eq]
@[simp] theorem State.failElement_pins (e : Nat) : (s.failElement e).pins = s.pins := by rw [State.failElement_eq]

/-- Events change no object but the sequence of the ring. -/
theorem State.obj_healthEvents {p : Nat} (b : State) (es : List Nat) (h : p ≠ Reg.eventWriteSeq) :
    (s.healthEvents b es).obj p = s.obj p := by
  unfold State.healthEvents
  induction es generalizing s with
  | nil => rfl
  | cons e r ih => rw [List.foldl_cons, ih]; split; rfl; exact State.obj_event_ne _ _ _ _ h

theorem State.obj_points {p : Nat} (e n : Nat) (h : p ≠ Reg.eventWriteSeq) : (s.points e n).obj p = s.obj p := by
  unfold State.points
  rw [State.obj_healthEvents _ _ _ h]
  rfl

theorem State.obj_failElement {p : Nat} (e : Nat) (h : p ≠ Reg.eventWriteSeq) : (s.failElement e).obj p = s.obj p := by
  unfold State.failElement
  split
  · rfl
  · rw [State.obj_healthEvents _ _ _ h]; rfl

/-- Points are added to the element's score, which saturates. -/
theorem State.points_score (e n : Nat) : tget 0 (s.points e n).scores e = min (tget 0 s.scores e + n) 0xFFFFFFFF := by
  simp [State.points]

/-- An element set FAILED is failed. -/
theorem State.failElement_listed (e : Nat) : e ∈ (s.failElement e).failedEls := by
  unfold State.failElement
  split
  · next h => simpa using h
  · simp

end Sys2Proof.Machine
end

