-- ==== Sys2Proof/Laws/Ops.lean ====
section
/-! SUPPORT. What the shared operations do to the event ring, to bits of objects and to objects' widths: each is stated
once here, and no later proof unfolds it. -/
namespace Sys2Proof.Machine

/-- The newest record stays in the ring when one more is written, but for the 4,096th (R423). -/
theorem EventRec.mem_take_of_head {r x : EventRec} {l : List EventRec} (h : l.head? = some r) : r ∈ (x :: l).take 4096 := by
  cases l with
  | nil => simp at h
  | cons y l => simp at h; subst h; simp

/-- Points write at most one event. -/
theorem State.points_ring (s : State) (e n : Nat) : (s.points e n).ring = s.ring ∨ ∃ r, (s.points e n).ring = (r :: s.ring).take 4096 := by
  unfold State.points State.healthEvents
  simp only [List.foldl_cons, List.foldl_nil]
  split
  · exact .inl rfl
  · exact .inr ⟨_, rfl⟩

/-- A failing element writes at most one event. -/
theorem State.failElement_ring (s : State) (e : Nat) : (s.failElement e).ring = s.ring ∨ ∃ r, (s.failElement e).ring = (r :: s.ring).take 4096 := by
  unfold State.failElement
  split
  · exact .inl rfl
  · unfold State.healthEvents
    simp only [List.foldl_cons, List.foldl_nil]
    split
    · exact .inl rfl
    · exact .inr ⟨_, rfl⟩

theorem State.head_mem_points {s : State} (e n : Nat) {r : EventRec} (h : s.ring.head? = some r) : r ∈ (s.points e n).ring := by
  rcases State.points_ring s e n with h1 | ⟨x, h1⟩ <;> rw [h1]
  · exact List.mem_of_mem_head? h
  · exact EventRec.mem_take_of_head h

theorem State.head_mem_failElement {s : State} (e : Nat) {r : EventRec} (h : s.ring.head? = some r) : r ∈ (s.failElement e).ring := by
  rcases State.failElement_ring s e with h1 | ⟨x, h1⟩ <;> rw [h1]
  · exact List.mem_of_mem_head? h
  · exact EventRec.mem_take_of_head h

/-- The ring holds at most 4,096 records, whatever is written (R423). -/
theorem State.event_ring_length (s : State) (c u v : Nat) : (s.event c u v).ring.length ≤ 4096 := by
  show ((_ :: s.ring).take 4096).length ≤ 4096
  rw [List.length_take]; omega

theorem State.points_ring_length {s : State} (e n : Nat) (h : s.ring.length ≤ 4096) : (s.points e n).ring.length ≤ 4096 := by
  rcases State.points_ring s e n with h1 | ⟨x, h1⟩ <;> rw [h1]
  · exact h
  · simp only [List.length_take]; omega

theorem State.failElement_ring_length {s : State} (e : Nat) (h : s.ring.length ≤ 4096) : (s.failElement e).ring.length ≤ 4096 := by
  rcases State.failElement_ring s e with h1 | ⟨x, h1⟩ <;> rw [h1]
  · exact h
  · simp only [List.length_take]; omega

/-- Every object fits its width. -/
def State.ObjectsFit (s : State) : Prop := ∀ o, s.obj o < 2 ^ objBits o

theorem State.objectsFit_reset : State.ObjectsFit State.reset := fun o => objReset_lt o

/-- Storing keeps every object within its width. -/
theorem State.objectsFit_setObj {s : State} (o v : Nat) (h : s.ObjectsFit) : (s.setObj o v).ObjectsFit := by
  intro p
  rw [State.obj_setObj]
  split
  · next e => subst e; exact Nat.mod_lt _ (Nat.two_pow_pos _)
  · exact h p

theorem State.objectsFit_bump {s : State} (o : Nat) (h : s.ObjectsFit) : (s.bump o).ObjectsFit := by
  rw [State.bump_eq]; exact State.objectsFit_setObj o _ h

/-- The first event leaves a ring of at most 4,096 records. -/
theorem State.firstEvent_ring_length (s : State) (c u v : Nat) : (s.firstEvent c u v).ring.length ≤ 4096 :=
  (List.length_take_le _ _ : (List.take 4096 _).length ≤ 4096)

theorem State.objectsFit_event {s : State} (c u v : Nat) (h : s.ObjectsFit) : (s.event c u v).ObjectsFit := by
  intro p
  by_cases e : p = Reg.eventWriteSeq
  · subst e
    exact State.objectsFit_setObj (s := s) Reg.eventWriteSeq (s.obj Reg.eventWriteSeq + 1) h Reg.eventWriteSeq
  · rw [State.obj_event_ne s c u v e]; exact h p

theorem State.objectsFit_firstEvent {s : State} (c u v : Nat) (h : s.ObjectsFit) : (s.firstEvent c u v).ObjectsFit := by
  intro p
  by_cases e : p = Reg.eventWriteSeq
  · subst e
    exact State.objectsFit_setObj (s := s) Reg.eventWriteSeq (s.obj Reg.eventWriteSeq + 1) h Reg.eventWriteSeq
  · unfold State.firstEvent
    rw [State.obj_bump_ne _ e]; exact h p

/-- A request that the management controller takes is carried out, and its status goes back. -/
theorem State.managed_taken {s : State} (h : s.answersRequests = true) (f : State → Status × State) :
    s.managed f = State.reply (f s) := if_pos h

/-- A request that it does not take changes nothing. -/
theorem State.managed_discarded {s : State} (h : s.answersRequests = false) (f : State → Status × State) : s.managed f = s :=
  if_neg (by simp [h])

@[simp] theorem State.answersRequests_tick (s : State) (t : Nat) : (s.tick t).answersRequests = s.answersRequests := rfl

/-- A counter is one higher after a bump, modulo its width; every other object is as before. -/
theorem State.obj_bump (s : State) (o p : Nat) : (s.bump o).obj p = if p = o then (s.obj o + 1) % 2 ^ objBits o else s.obj p := by
  split
  · next h => subst h; simp
  · next h => exact State.obj_bump_ne _ h

/-- A bit of a number is the library's. -/
theorem bit_testBit (m i : Nat) : bit m i = m.testBit i := by
  simp [bit, Nat.testBit, Nat.shiftRight_eq_div_pow]

theorem setBit_eq (v i : Nat) (b : Bool) : setBit v i b = v % 2 ^ i + (b2n b + v / 2 ^ (i+1) * 2) * 2 ^ i := by
  unfold setBit setBits
  rw [show i + 1 - i = 1 by omega, show b2n b % 2 ^ 1 = b2n b by cases b <;> rfl]
  rw [Nat.pow_succ, Nat.add_mul, Nat.mul_assoc _ 2, Nat.mul_comm 2, Nat.add_assoc]

/-- A bit that is set reads as set, and every other as before. -/
theorem bit_setBit (v i j : Nat) (b : Bool) : bit (setBit v i b) j = if j = i then b else bit v j := by
  rw [setBit_eq]
  have hp : 0 < 2 ^ i := Nat.two_pow_pos i
  unfold bit
  rcases Nat.lt_trichotomy j i with h | h | h
  · rw [if_neg (by omega)]
    obtain ⟨d, rfl⟩ : ∃ d, i = j + 1 + d := ⟨i - (j+1), by omega⟩
    have e : ∀ x : Nat, x / 2 ^ j % 2 = x % 2 ^ (j+1) / 2 ^ j := fun x => by
      rw [Nat.pow_succ, Nat.mod_mul_right_div_self]
    rw [e, e v]
    have : (2:Nat) ^ (j + 1) ∣ 2 ^ (j + 1 + d) := ⟨2 ^ d, by rw [Nat.pow_add]⟩
    congr 2
    rw [Nat.add_mod, Nat.mod_mod_of_dvd _ this, Nat.mod_eq_zero_of_dvd (Nat.dvd_mul_left_of_dvd this _)]
    simp
  · subst h
    rw [if_pos rfl, Nat.add_mul_div_right _ _ hp, Nat.div_eq_of_lt (Nat.mod_lt _ hp), Nat.zero_add, Nat.add_mul_mod_self_right]
    cases b <;> rfl
  · rw [if_neg (by omega)]
    obtain ⟨d, rfl⟩ : ∃ d, j = i + 1 + d := ⟨j - (i+1), by omega⟩
    have h1 : (v % 2 ^ i + (b2n b + v / 2 ^ (i+1) * 2) * 2 ^ i) / 2 ^ (i + 1 + d) = v / 2 ^ (i + 1 + d) := by
      rw [show (2:Nat) ^ (i + 1 + d) = 2 ^ i * 2 * 2 ^ d by rw [Nat.pow_add, Nat.pow_succ], ← Nat.div_div_eq_div_mul, ← Nat.div_div_eq_div_mul]
      rw [Nat.add_mul_div_right _ _ hp, Nat.div_eq_of_lt (Nat.mod_lt _ hp), Nat.zero_add, Nat.add_mul_div_right _ _ (by omega : 0 < 2)]
      rw [show b2n b / 2 = 0 by cases b <;> rfl, Nat.zero_add, Nat.pow_succ, ← Nat.div_div_eq_div_mul, ← Nat.div_div_eq_div_mul, ← Nat.div_div_eq_div_mul]
    rw [h1]

end Sys2Proof.Machine
end

