-- ==== Sys2Proof/Laws/Kept.lean ====
section
/-! SUPPORT. What the shared operations keep of a state: memory in its canonical form, every object within its width, the
event ring within its records. One lemma for each operation that touches one of the three; `State.Kept.of_eq` covers the rest. -/
namespace Sys2Proof.Machine

/-- Memory, objects and ring are as they must be. -/
def State.Kept (s : State) : Prop := s.MemOk ∧ s.ObjectsFit ∧ s.ring.length ≤ 4096

theorem State.Kept.reset : State.reset.Kept := ⟨rfl, State.objectsFit_reset, Nat.zero_le _⟩

/-- What changes none of the three keeps them. -/
theorem State.Kept.of_eq {s s' : State} (h : s.Kept) (hm : s'.mem = s.mem) (ho : s'.objs = s.objs) (hr : s'.ring = s.ring) : s'.Kept := by
  refine ⟨?_, fun o => ?_, ?_⟩
  · show Memory.wf s'.mem
    rw [hm]; exact h.1
  · have := h.2.1 o
    unfold State.obj at this ⊢
    rwa [ho]
  · rw [hr]; exact h.2.2

/-- A fold of steps that keep them keeps them. -/
theorem State.Kept.foldl {α : Type} (f : State → α → State) (hf : ∀ u a, State.Kept u → State.Kept (f u a)) (l : List α) :
    ∀ s : State, s.Kept → (l.foldl f s).Kept := by
  induction l with
  | nil => exact fun s h => h
  | cons a r ih => exact fun s h => ih _ (hf s a h)

variable {s : State}

theorem State.Kept.tick (h : s.Kept) (t : Nat) : (s.tick t).Kept := h.of_eq rfl rfl rfl
theorem State.Kept.emit (h : s.Kept) (x : Output) : (s.emit x).Kept := h.of_eq rfl rfl rfl
theorem State.Kept.reply (h : s.Kept) (r : Status) : (State.reply (r, s)).Kept := h.of_eq rfl rfl rfl
theorem State.Kept.takeFree (h : s.Kept) : s.takeFree.2.Kept := h.of_eq rfl rfl rfl

theorem State.Kept.setObj (h : s.Kept) (o v : Nat) : (s.setObj o v).Kept := ⟨h.1, State.objectsFit_setObj o v h.2.1, h.2.2⟩
theorem State.Kept.bumpBy (h : s.Kept) (o n : Nat) : (s.bumpBy o n).Kept := h.setObj o _
theorem State.Kept.bump (h : s.Kept) (o : Nat) : (s.bump o).Kept := h.bumpBy o 1

theorem State.Kept.event (h : s.Kept) (c u v : Nat) : (s.event c u v).Kept :=
  ⟨h.1, State.objectsFit_event c u v h.2.1, State.event_ring_length s c u v⟩

theorem State.Kept.firstEvent (h : s.Kept) (c u v : Nat) : (s.firstEvent c u v).Kept :=
  ⟨h.1, State.objectsFit_firstEvent c u v h.2.1, State.firstEvent_ring_length s c u v⟩

theorem State.Kept.managed (h : s.Kept) (f : State → Status × State) (hf : (f s).2.Kept) : (s.managed f).Kept := by
  unfold State.managed
  split
  · exact hf.reply _
  · exact h

theorem State.Kept.healthEvents (h : s.Kept) (b : State) (es : List Nat) : (s.healthEvents b es).Kept := by
  unfold State.healthEvents
  refine State.Kept.foldl _ (fun u e hu => ?_) es s h
  split
  · exact hu
  · exact hu.event _ _ _

theorem State.Kept.points (h : s.Kept) (e n : Nat) : (s.points e n).Kept :=
  (show ({ s with scores := tset 0 s.scores e (min (tget 0 s.scores e + n) 0xFFFFFFFF) } : State).Kept from
    h.of_eq rfl rfl rfl).healthEvents s [e]

theorem State.Kept.failElement (h : s.Kept) (e : Nat) : (s.failElement e).Kept := by
  unfold State.failElement
  split
  · exact h
  · exact (show ({ s with failedEls := e :: s.failedEls } : State).Kept from h.of_eq rfl rfl rfl).healthEvents s [e]

theorem State.Kept.write (h : s.Kept) (a : Nat) (bs : List Byte) : (s.write a bs).Kept :=
  ⟨wf_write s a bs h.1, h.2.1, h.2.2⟩

theorem State.Kept.notePoison (h : s.Kept) (a n c : Nat) : (s.notePoison a n c).Kept := by
  simp only [State.notePoison]
  split
  · exact h
  · split
    · exact h.of_eq rfl rfl rfl
    · exact State.Kept.setObj (h.of_eq rfl rfl rfl) _ _

theorem State.Kept.freeBytes (n : Nat) : ∀ {s : State}, s.Kept → (State.freeBytes n s).2.Kept := by
  induction n with
  | zero => exact fun h => h
  | succ n ih => exact fun h => ih h.takeFree

theorem State.Kept.invalidate (h : s.Kept) (a n : Nat) : (s.invalidate a n).Kept :=
  let h1 := State.Kept.freeBytes n h
  ⟨wf_write _ a _ h1.1, h1.2.1, h1.2.2⟩

end Sys2Proof.Machine
end

