-- ==== Sys2Proof/Laws/Move.lean ====
section
/-! SUPPORT. What a row of a MOVE cue does (R205, R206). -/
namespace Sys2Proof.Machine

variable {s : State}

/-- The bytes that a row leaves where it is written: as many as the row has, each the row's, or the one that stood there. -/
theorem State.writeRow_eq (dst n : Nat) (row : List Byte) : ∃ bs : List Byte, bs.length = row.length
    ∧ s.writeRow dst n row = (State.freeBytes n s).2.write dst bs
    ∧ ∀ i (h : i < bs.length) (h' : i < row.length), bs[i] = row[i] ∨ i < n ∧ bs[i] = readByte s.mem (dst + i) := by
  refine ⟨_, ?_, rfl, ?_⟩
  · simp [State.read, State.freeBytes_length]
    omega
  · intro i h h'
    by_cases hn : i < n
    · rw [List.getElem_append_left (by simp [State.read, State.freeBytes_length]; omega)]
      simp only [List.getElem_map, List.getElem_zip, List.getElem_take, State.read, List.getElem_range]
      split
      · exact .inl rfl
      · exact .inr ⟨hn, rfl⟩
    · left
      rw [List.getElem_append_right (by simp [State.read, State.freeBytes_length]; omega)]
      simp [State.read, State.freeBytes_length, Nat.min_eq_left (show n ≤ row.length by omega)]
      congr 1
      omega

/-- A byte within the row reads as the row's, or, among the first `n`, as it read before. -/
theorem State.readByte_writeRow_in (dst n : Nat) (row : List Byte) {i : Nat} (h : i < row.length) :
    readByte (s.writeRow dst n row).mem (dst + i) = row[i]
      ∨ i < n ∧ readByte (s.writeRow dst n row).mem (dst + i) = readByte s.mem (dst + i) := by
  obtain ⟨bs, hl, he, hb⟩ := State.writeRow_eq (s := s) dst n row
  have : readByte (s.writeRow dst n row).mem (dst + i) = bs[i]'(hl ▸ h) := by
    rw [he]; exact readByte_writeCells_in _ _ _ (hl ▸ h)
  rw [this]
  exact hb i (hl ▸ h) h

/-- A byte outside the row reads as before. -/
theorem State.readByte_writeRow_out (dst n : Nat) (row : List Byte) {x : Nat} (h : x < dst ∨ dst + row.length ≤ x) :
    readByte (s.writeRow dst n row).mem x = readByte s.mem x := by
  obtain ⟨bs, hl, he, -⟩ := State.writeRow_eq (s := s) dst n row
  rw [he]
  exact (readByte_writeCells_out _ _ _ (hl ▸ h)).trans (by rw [State.freeBytes_mem])

theorem State.Kept.writeRow (h : s.Kept) (dst n : Nat) (row : List Byte) : (s.writeRow dst n row).Kept := by
  obtain ⟨bs, -, he, -⟩ := State.writeRow_eq (s := s) dst n row
  exact he ▸ (State.Kept.freeBytes n h).write dst bs

end Sys2Proof.Machine
end

