-- ==== Sys2Proof/WellFormed.lean ====
section
/-! DEFINITION. Which commands a sender can form: the checks that the operands' types do not make. A reading has
one entry for each part it reads, and a frame, slot or block has the size the manual gives it. `exec` does not ask for
them, and answers a next state without them too. -/
namespace Sys2Proof

/-- A line frame of one of the three rates: 125 blocks (R219, Table 10.1). -/
def LineFrame.wf (f : LineFrame) : Bool :=
  f.bytes.length == 125 * 512 || f.bytes.length == 125 * 384 || f.bytes.length == 125 * 256

/-- A reading of every sensor of Table 21.12: 4 hubs, 24 stacks, 8 engines, 14 rails. -/
def Sensors.wf (x : Sensors) : Bool :=
  x.hubs.length == 4 && x.hbm.length == 24 && x.engines.length == 8 && x.railMv.length == 14 && x.railDa.length == 14
    && x.rehearsal.all (fun f => f.corrected.length == 24)

/-- Frame bytes of a management transport: an Ethernet frame has a header of 14 bytes, a bus frame its two flags. -/
def JdpFrame.wf : JdpFrame → Bool
  | .ethernet b => 14 ≤ b.length
  | .bus b => 2 ≤ b.length

/-- A sweep makes at most three attempts, and reports at least one (R319). -/
def sweepWf (l : List SweepAttempt) : Bool := 1 ≤ l.length && l.length ≤ 3

/-- A share starts before it ends (R84). -/
def CellShare.wf (x : CellShare) : Bool := x.first < x.last && x.lo ≤ x.hi && 1 ≤ x.tiles

/-- A block read from memory has 89 bytes (R174). -/
def seenWf : Option (List Byte) → Bool
  | none => true
  | some b => b.length == 89

/-- Bytes of one page table (Tables 10.4 and 10.5): 2,048 or 64 entries of four bytes. -/
def PageTarget.bytes : PageTarget → Nat
  | .connectionMemory => 8192
  | .lineGroups => 256

/-- Blocks of a RING_BLOCKS frame: 1 to 16, of one rate (Table 15.8). -/
def RingBlocksHeader.wf (h : RingBlocksHeader) (payload : List Byte) : Bool :=
  1 ≤ h.count && h.count ≤ 16 && h.first < 123
    && payload.length == h.count * (if h.rate = 0 then 512 else if h.rate = 1 then 384 else 256)

/-- The command is one that a sender can form. -/
def Instr.wf : Instr → Bool
  | .registerWrite _ _ _ _ _ data => 1 ≤ data.length && data.length ≤ 1408
  | .sheetDataWrite _ _ data => 1 ≤ data.length && data.length ≤ 1408
  | .controlTick _ _ x => x.wf
  | .rehearsalDone _ f => f.corrected.length == 24
  | .wakeSampleWindow _ x => x.rxCdbm.length == 32
  | .cueDispatch _ _ shares _ => shares.all CellShare.wf
  | .blockDecode _ _ seen => seenWf seen
  | .damageRefetch _ _ seen => seenWf seen
  | .lineFrameRx _ _ f _ => f.wf
  | .pageWrite _ target _ value => decide (value < 2 ^ (8 * target.bytes))
  | .defectSample _ samples => samples.length == 32
  | .lineParcelRx _ _ slot => slot.bytes.length == 4160
  | .abandon _ _ _ _ streams => streams.length == 4
  | .parcelDecrypt _ _ _ body _ => body.length == 4144
  | .relockSweepDone _ _ attempts => sweepWf attempts
  | .calibrationEnd _ _ attempts => sweepWf attempts
  | .hostParcelRx _ _ frame => 14 ≤ frame.length
  | .foreignFrame _ _ frame => 14 ≤ frame.length
  | .ringBlocksRx _ _ h payload => h.wf payload
  | .jdpRequest _ frame => frame.wf
  | .syncRequest _ frame => frame.wf
  | .neighbourSolicitation _ frame => 14 ≤ frame.length
  | _ => true

end Sys2Proof
end

