-- ==== Sys2Proof/Tests/Slice0.lean ====
section
/-! SUPPORT. The model's own tests: ill-formed commands refused, worked values of the manual, and for every
statement (`witness_<its name>`) a state and operands that meet the hypotheses of each of its clauses together. -/
namespace Sys2Proof.Machine

set_option Elab.async false

/-- The reset state with objects listed, its management controller booted. -/
def having (os : Tab Nat) : State := { objs := os, boot := { mgmtUp := true } }

/-- Every channel in a state of Table 14.4. -/
def allCh (x : Nat) : Tab Nat := (List.range 32).map (fun c => (Reg.channelState c, x))

/-- Numbers laid in memory, little-endian: address, bytes, number; bytes of 0 are not listed. -/
def laid (xs : List (Nat × Nat × Nat)) : List Host.Cell :=
  (xs.flatMap (fun x => (bytesLE x.2.1 x.2.2).mapIdx (fun i b => (x.1 + i, b)))).filter (fun c => c.2 != 0#8)

/-- A sheet of revision 3 in slot 0, RUNNING in READY, all of its cues read: cues at 128, sync entries at 1,024, streams at
8,192 (two of them), ring of 16 records at 0xA000_1000. -/
def runs (os : Tab Nat) (cues : List Nat) (more : List (Nat × Nat × Nat)) : State :=
  { objs := os ++ [(Reg.activeSlot, 0), (Reg.cueEngineState, engRunning), (Reg.moduleState, modReady)]
    mem := laid ((0, 88, 0x33455543 + 2 ^ 128 * 3 + 2 ^ 224 * cues.length + 2 ^ 384 * 128 + 2 ^ 416 * 1024 + 2 ^ 448 * 8192
        + 2 ^ 480 * 2 + 2 ^ 640 * 0xA0001000 + 2 ^ 688 * 4)
      :: cues.mapIdx (fun i c => (128 + 64 * i, 64, c)) ++ more)
    eng := { fetchedTo := cues.length }
    boot := { mgmtUp := true } }

/-- The cue at position 0 runs, with a fate or without. -/
def running (fate : Option Nat) : Running := { pos := 0, idx := 0, iter := 0, time := 0, fate := fate }

/-- A control tick with every field 0. -/
def calm : PowerReading := ⟨0#16, 0#16, 0, 0, 0, 0, false, 0⟩

/-- READY at 750 mV, with no channel in service and a pace demand of 0x1000; the last voltage step at 0. -/
def poised (control : Nat) : State :=
  { having [(Reg.moduleState, modReady), (Reg.powerControl, control), (Reg.slewLimit, 200), (Reg.coreRailMode, 0),
      (Reg.coreRailSetpointMv, 750), (Reg.vreqCode, 30), (Reg.paceDemand, 0x1000), (Reg.slotState 0, 0), (Reg.slotState 1, 0)] with
    power := { lastStepAt := some 0, draws := [1000], adjusted := [900], exempt := 100 } }

theorem witness_PowerWritesAreChecked :
    (let s := having [(Reg.channelState 0, chInService), (Reg.coreRailFixedMv, 699)];
      s.answersRequests = true ∧ (699 < 700 ∧ ∃ c : Fin 32, s.inService c = true) ∧ s.obj Reg.coreRailFixedMv < 700)
    ∧ (let s := having ((Reg.coreRailFixedMv, 700) :: allCh chDark);
      s.answersRequests = true ∧ (700 ≤ s.obj Reg.coreRailFixedMv ∨ ¬ ∃ c : Fin 32, s.inService c = true)
        ∧ 600 ≤ (600#16).toNat ∧ (600#16).toNat ≤ 800 ∧ ¬ ∃ c : Fin 32, s.inService c = true)
    ∧ (599#16).toNat < 600 ∧ 800 < (801#16).toNat ∧ 1 < (2#8).toNat
    ∧ (0x10#32).extractLsb 7 4 ≠ 0 ∧ (0x10000#32).extractLsb 31 16 ≠ 0
    ∧ (0x0000000F#32).extractLsb 7 4 = 0 ∧ (0x0000000F#32).extractLsb 31 16 = 0 ∧ (0x0000000F#32).getLsbD 1 = true := by
  decide +kernel

theorem witness_SlewLimitIsHeldByBallastAndThrottle :
    (poised 7).answersRequests = true ∧ (4#16).toNat < 5 ∧ 200 < (201#16).toNat ∧ 5 ≤ (5#16).toNat ∧ (200#16).toNat ≤ 200
    ∧ (1#32).extractLsb 7 4 = 0 ∧ (1#32).extractLsb 31 16 = 0 ∧ (1#32).getLsbD 0 = true ∧ (1#32).getLsbD 1 = false
    ∧ (1#32).getLsbD 2 = false ∧ (0#32).getLsbD 0 = false
    ∧ (let s := poised 7;
      s.modState = modReady ∧ s.slewEnabled = true ∧ s.throttleEnabled = true ∧ s.power.exemptDue = false
        ∧ s.power.adjusted.head? = some 900 ∧ ((900 : Int) + s.power.exempt).toNat = 1000 ∧ s.power.preramp = none
        ∧ calm.leakage = false ∧ 1000 + s.obj Reg.slewLimit < { calm with workMw := 1201 }.workMw
        ∧ 0 < { calm with pacedMw := 1 }.pacedMw ∧ { calm with workMw := 799 }.workMw + s.obj Reg.slewLimit < 1000)
    ∧ (having [(Reg.powerControl, 6)]).slewEnabled = false := by
  decide +kernel

/-- No step keeps the slew limit when one of 100 mW leaves the bounds both ways. -/
theorem witness_step_held_back :
    ∀ up, ({ poised 7 with power := { draws := [1000], adjusted := [1000], bounds := some (-20000, 30000), slewInForce := 200 } } :
      State).stepHolds 100 up = false := by
  decide +kernel

theorem witness_VoltageMovesAndForecastsAct :
    (let s := poised 6;
      s.modState = modReady ∧ s.modState ≠ modEntering ∧ s.slewEnabled = false ∧ s.obj Reg.coreRailMode = 0
        ∧ s.obj Reg.vreqCode ≠ vreqOff ∧ s.power.lastStepAt = some 0 ∧ 0 + 10000000 ≤ (s.tick 10000000).now
        ∧ (s.tick 9999999).now < 0 + 10000000 ∧ s.lineFloor + 5 ≤ s.obj Reg.coreRailSetpointMv
        ∧ s.obj Reg.coreRailSetpointMv + 5 ≤ 800 ∧ 107 * s.demand = 100 * 4382 + 72
        ∧ 100 * (4382#16).toNat < 107 * s.demand ∧ 107 * s.demand ≤ 100 * (4383#16).toNat)
    ∧ (let s := { poised 15 with
        objs := (Reg.activeSlot, 0) :: (Reg.forecastBaseTime, 0) :: (poised 15).objs
        mem := laid [(0, 88, 2 ^ 544 * 0x2000), (0x2000, 4, 1), (0x2008, 8, 2 ^ 32 * 10)] };
      let soon : PlanStep := ⟨false, 0, 0, 0⟩;
      let later : PlanStep := ⟨false, 3000, 0, 0⟩;
      s.modState = modReady ∧ s.slewEnabled = true ∧ s.ballastEnabled = true ∧ s.prerampEnabled = true
        ∧ (s.tick 0).plannedMw 500 (some 0) = 1500 ∧ (s.tick 0).power.draws.head?.getD 500 = 1000
        ∧ (s.tick 0).stepInstant soon = some 0 ∧ (0 - (s.tick 0).net : Int) * (s.tick 0).power.slewInForce ≤ (1500 - 1000) * 1000000
        ∧ (s.tick 0).stepInstant later = some 3000000000
        ∧ ((1500 : Int) - 1000) * 1000000 < (3000000000 - (s.tick 0).net) * (s.tick 0).power.slewInForce)
    ∧ (having [(Reg.powerControl, 7)]).prerampEnabled = false
    ∧ (having [(Reg.outerBoundaryHint, 0)]).stepInstant ⟨true, 0, 0, 0⟩ = none := by
  decide +kernel

theorem witness_SlotsOpenLoadAndClear :
    let st := fun x => having [(Reg.moduleState, modReady), (Reg.slotState 0, x), (Reg.sheetOffset 0, slotSize - 2)];
    let sealing := { st slotLoading with slot0 := { sealing := true } };
    (st slotArmed).answersRequests = true ∧ (st slotLoading).answersRequests = true ∧ sealing.answersRequests = true
    ∧ (let d := having [(Reg.moduleState, modIntermission)]; d.asleep = true ∧ d.answersRequests = true)
    ∧ (st 0).asleep = false ∧ (st 0).modState ≠ modSafe ∧ (st slotEmpty).slotStateOf 0 = slotEmpty
    ∧ (st slotSealed).slotStateOf 0 = slotSealed ∧ (st slotSealed).slotStateOf 0 ≠ slotLoading
    ∧ (st slotArmed).slotStateOf 0 = slotArmed ∧ (st slotArmed).slotStateOf 0 ≠ slotEmpty ∧ (st slotArmed).slotStateOf 0 ≠ slotSealed
    ∧ (st slotArmed).slotStateOf 0 ≠ slotLoading
    ∧ (st slotLoading).slotStateOf 0 = slotLoading ∧ ((st slotLoading).slotSt 0).sealing = false ∧ (sealing.slotSt 0).sealing = true
    ∧ (st slotLoading).obj (Reg.sheetOffset 0) + [1#8, 2#8].length ≤ slotSize
    ∧ slotSize < (st slotLoading).obj (Reg.sheetOffset 0) + [1#8, 2#8, 3#8].length := by
  decide +kernel

theorem witness_SealEndsWithItsFirstFailure :
    let s := having [(Reg.sheetLength 0, 0), (Reg.sheetCrc 0, 0)];
    let u := having [(Reg.sheetLength 0, 1), (Reg.sheetCrc 0, 0)];
    let v := { s with slot0 := { sealing := true } };
    let gone := { v with objs := (Reg.hubLinkState, 0) :: u.objs };
    (v.slotSt 0).sealing = true ∧ v.held [(slotBase 0, min slotSize (v.obj (Reg.sheetLength 0)))] = false
    ∧ gone.held [(slotBase 0, min slotSize (gone.obj (Reg.sheetLength 0)))] = true ∧ hImageLength (u.hdr 0) ≠ u.obj (Reg.sheetLength 0)
    ∧ s.obj (Reg.sheetLength 0) ≤ slotSize ∧ hImageLength (s.hdr 0) = s.obj (Reg.sheetLength 0)
    ∧ crcOf crc32 (s.read (slotBase 0) (s.obj (Reg.sheetLength 0))) = s.obj (Reg.sheetCrc 0)
    ∧ s.isPoisoned (slotBase 0) (s.obj (Reg.sheetLength 0)) = false ∧ hMagic (s.hdr 0) ≠ 0x33455543
    ∧ (s.slotSt 0).sealing = false := by
  decide +kernel

theorem witness_ArmChecksAndArms :
    let st := fun m => having [(Reg.slotState 0, slotSealed), (Reg.moduleState, m), (Reg.armEpoch 0, 1), (Reg.activeSlot, 1),
      (Reg.cueEngineState, engRunning), (Reg.tieBreakSite, 0), (Reg.touchHoldoffMs, 0)];
    let s := st modReady;
    let other := { s with mem := [(slotBase 1 + 8, 1#8)] };
    let late := having [(Reg.slotState 0, slotSealed), (Reg.moduleState, modReady), (Reg.armEpoch 0, 0)];
    s.answersRequests = true ∧ (st modSafe).answersRequests = true ∧ other.answersRequests = true ∧ late.answersRequests = true
    ∧ s.slotStateOf 0 = slotSealed ∧ (st modSafe).modState = modSafe ∧ (st 0).modState ≠ modSafe ∧ (st 0).modState ≠ modReady
    ∧ s.modState = modReady ∧ late.obj (Reg.armEpoch 0) ≤ (late.tick 0).epoch
    ∧ (s.tick 0).epoch < s.obj (Reg.armEpoch 0) ∧ other.active = some 1 ∧ other.engState ≠ engStopped
    ∧ hJobId (other.hdr 1) ≠ hJobId (other.hdr 0) ∧ (s.tick 0).armCheck 0 = stOk := by
  decide +kernel

theorem witness_SheetsActivateAtEpochBoundaries :
    let st := fun e => { having [(Reg.slotState 0, slotArmed), (Reg.slotState 1, slotEmpty), (Reg.cueEngineState, e)] with
      slot0 := { epoch := 1 } };
    ((st 0).tick 999999).net / 1000000 ≤ (st 0).tm.lastBoundary
    ∧ (st engRunning).tm.lastBoundary < ((st engRunning).tick 1000000).net / 1000000
    ∧ (st engRunning).slotStateOf 0 = slotArmed ∧ (st engRunning).slotStateOf (1 - 0) ≠ slotArmed
    ∧ (st engRunning).engState = engRunning ∧ ((st engRunning).slotSt 0).deferred = false
    ∧ ((st engRunning).slotSt 0).epoch ≤ ((st engRunning).tick 1000000).net / 1000000
    ∧ (let d := { st engRunning with slot0 := { epoch := 1, deferred := true } };
      (d.slotSt 0).deferred = true ∧ d.slotStateOf 0 = slotArmed ∧ d.slotStateOf (1 - 0) ≠ slotArmed ∧ d.engState = engRunning)
    ∧ (st engIdle).engState ≠ engRunning ∧ (st engIdle).tm.lastBoundary < ((st engIdle).tick 1000000).net / 1000000 := by
  decide +kernel

theorem witness_no_pair : ∀ f, (having []).pair f = {} := fun _ => rfl

theorem witness_RetiredSheetsAndDrainedStreamsMakeRoom :
    let s := having [(Reg.moduleState, modReady), (Reg.slotState 0, slotActive), (Reg.cueEngineState, engStopped)];
    let u := { s with streams := [(2, { draining := true })] };
    let w := { u with links := [(0, { inUse := true, ready := [{ stream := 2, peer := 0, psn := 0, epoch := 0, owners := [], bytes := [] }] })] };
    s.answersRequests = true ∧ (having [(Reg.cueEngineState, engRunning)]).answersRequests = true
    ∧ s.asleep = false ∧ s.slotStateOf 0 = slotActive ∧ s.engState = engStopped
    ∧ (having [(Reg.cueEngineState, engRunning)]).engState ≠ engStopped
    ∧ (u.stream (2#14).toNat).draining = true ∧ u.drained (2#14).toNat = true ∧ (s.stream (2#14).toNat).draining = false
    ∧ w.drained (2#14).toNat = false := by
  decide +kernel

/-- A cue of zeros with its CUE_CRC (R111). -/
def zeroCue : Nat := 2 ^ 504 * 226

theorem witness_FetchedCuesAreChecked :
    let s := runs [] [zeroCue, 0] [];
    let f := fun (x : Nat) (e : Nat) => { runs [(Reg.cueEngineState, e)] [zeroCue, 0] [] with eng := { fetchedTo := 2, fetched := [(x, 2)] } };
    let u := { s with eng := {} };
    u.active = some 0 ∧ u.engState = engRunning ∧ u.eng.fetchedTo < u.eng.oldest + lookAhead
    ∧ unrolled (u.hdr 0) u.eng.fetchedTo = some (0, 0) ∧ pagePositions (u.hdr 0) 0 = [0, 1]
    ∧ u.held ([0, 1].map (fun x => (u.cueAddr 0 x, 64))) = false ∧ u.cueReadsWell 0 0 = true ∧ u.cueReadsWell 0 1 = false
    ∧ (f 0 engRunning).held [((f 0 engRunning).cueAddr 0 0, 64)] = false ∧ (f 0 engRunning).dispatching = true
    ∧ (f 0 engRunning).nextOf 0 (queueOf zeroCue) = some 0 ∧ (f 0 engRunning).released 0 0 = true
    ∧ 0 ≤ (f 0 engRunning).eng.oldest + lookAhead ∧ 0 ∉ (f 0 engRunning).eng.marks ∧ isUpdate zeroCue = false
    ∧ (f 1 engStopped).held [((f 1 engStopped).cueAddr 0 1, 64)] = false ∧ (f 1 engStopped).cueReadsWell 0 1 = false
    ∧ (f 0 engRunning).active = some 0 ∧ tget 0 (f 0 engRunning).eng.fetched 0 = 2
    ∧ (f 0 engRunning).posCue 0 0 = some (zeroCue, 0, 0) ∧ (f 0 engRunning).cueReadsWell 0 0 = true
    ∧ (f 1 engStopped).active = some 0 ∧ tget 0 (f 1 engStopped).eng.fetched 1 = 2 ∧ (f 1 engStopped).posCue 0 1 = some (0, 1, 0)
    ∧ (f 1 engStopped).dispatching = false := by
  decide +kernel

/-- A BARRIER that takes 2 tokens of object 5 and 1 of object 6. -/
def barrierCue : Nat := 2 ^ 32 + 2 ^ 64 * 5 + 2 ^ 77 * 2 + 2 ^ 85 * 6 + 2 ^ 98

/-- A control cue that takes one token of object 5. -/
def tokenCue : Nat := 2 ^ 64 * 5 + 2 ^ 77

/-- A MOVE of two rows of 64 bytes from 0xB000_0000 to 0xB000_1000 on prefetcher 0. -/
def moveCue : Nat := 5 + 2 ^ 192 * 0xB0000000 + 2 ^ 288 * 0xB0001000 + 2 ^ 432 * 2 + 2 ^ 456 * 64

theorem witness_units_free_and_busy :
    let s := runs [] [moveCue] [];
    let u := { runs [] [moveCue, moveCue] [] with eng := { fetchedTo := 2, qpos := [(3, 1)], running := [running none] } };
    (s.active = some 0 ∧ s.dispatching = true ∧ s.takenOf 0 3 = none ∧ s.nextOf 0 3 = some 0 ∧ s.posCue 0 0 = some (moveCue, 0, 0)
      ∧ s.reach 0 0 = .run ∧ s.waitsMet moveCue = true ∧ s.unitFree 0 0 moveCue [] = true)
    ∧ (u.active = some 0 ∧ u.dispatching = true ∧ u.takenOf 0 3 = none ∧ u.nextOf 0 3 = some 1 ∧ u.posCue 0 1 = some (moveCue, 1, 0)
      ∧ u.reach 0 1 = .run ∧ u.waitsMet moveCue = true ∧ u.unitFree 0 1 moveCue [] = false)
    ∧ isUpdate moveCue = false ∧ cUnit moveCue ≠ uCollective ∧ cUnit moveCue ≠ uControl ∧ cUnit moveCue ≠ uHostIn
    ∧ cUnit moveCue ≠ uLineIn := by
  decide +kernel

theorem witness_CuesDispatchWhenTheirWaitsAreMet :
    let s := runs [] [barrierCue] [];
    let m := { s with eng := { fetchedTo := 1, sync := [(5, 2), (6, 1)] } };
    let c := { runs [] [tokenCue] [] with eng := { fetchedTo := 1, sync := [(5, 1)] } };
    s.active = some 0 ∧ s.dispatching = true ∧ s.takenOf 0 0 = none ∧ s.nextOf 0 0 = some 0
    ∧ s.posCue 0 0 = some (barrierCue, 0, 0) ∧ s.reach 0 0 = .run ∧ s.waitsMet barrierCue = false
    ∧ m.active = some 0 ∧ m.dispatching = true ∧ m.takenOf 0 0 = none ∧ m.nextOf 0 0 = some 0
    ∧ m.posCue 0 0 = some (barrierCue, 0, 0) ∧ m.reach 0 0 = .run ∧ m.waitsMet barrierCue = true
    ∧ isBarrier barrierCue = true ∧ cWait0Obj barrierCue ≠ cWait1Obj barrierCue
    ∧ c.active = some 0 ∧ c.dispatching = true ∧ c.takenOf 0 0 = none ∧ c.nextOf 0 0 = some 0
    ∧ c.posCue 0 0 = some (tokenCue, 0, 0) ∧ c.reach 0 0 = .run ∧ c.waitsMet tokenCue = true
    ∧ cUnit tokenCue = uControl ∧ isBarrier tokenCue = false := by
  decide +kernel

theorem witness_MoveCopiesItsRows :
    let s := runs [] [moveCue] [];
    s.active = some 0 ∧ s.dispatching = true ∧ s.takenOf 0 3 = none ∧ s.nextOf 0 3 = some 0
    ∧ s.posCue 0 0 = some (moveCue, 0, 0) ∧ s.reach 0 0 = .run ∧ s.waitsMet moveCue = true ∧ cUnit moveCue = uMove
    ∧ s.unitFree 0 0 moveCue [] = true ∧ s.anyPoison (s.cueReads 0 moveCue) = false
    ∧ s.held (s.cueReads 0 moveCue ++ s.cueWrites 0 moveCue) = false
    ∧ 1 < cM moveCue ∧ 0 < cN moveCue ∧ dDst (s.moveDesc 0 moveCue) = 0 := by
  decide +kernel

theorem witness_CuesEndOnceWithTheirStatus :
    let b := { runs [] [barrierCue] [] with eng := { fetchedTo := 1, running := [running none] } };
    let m := { runs [] [moveCue] [] with eng := { fetchedTo := 1, running := [running (some endStreamFailed)] } };
    let r : Running := { running none with pos := 1, idx := 1 };
    let w := { runs [] [barrierCue, barrierCue] [] with eng := { fetchedTo := 2, running := [r] } };
    w.active = some 0 ∧ w.runningAt 1 = some r ∧ w.posCue 0 1 = some (barrierCue, 1, 0) ∧ r.fate = none ∧ r.idle = none ∧ w.cueDone 0 r barrierCue = false
    ∧ b.active = some 0 ∧ b.runningAt 0 = some (running none) ∧ b.posCue 0 0 = some (barrierCue, 0, 0) ∧ isBarrier barrierCue = true
    ∧ (running none).fate = none ∧ (running none).waiting = [] ∧ (running none).idle = none ∧ b.eng.oldest = 0 ∧ b.cueDone 0 (running none) barrierCue = true ∧ b.hubBlocks 0 barrierCue = false
    ∧ isHandover barrierCue = false ∧ (b.cueWrites 0 barrierCue ++ b.landingAreas 0 barrierCue).all (fun a => decide (0xA0000000 ≤ a.1)) = true
    ∧ cRecordEn barrierCue = false ∧ cRecordEn (barrierCue + 2 ^ 31) = true
    ∧ m.active = some 0 ∧ m.runningAt 0 = some (running (some endStreamFailed)) ∧ m.posCue 0 0 = some (moveCue, 0, 0)
    ∧ cUnit moveCue = uMove ∧ (running (some endStreamFailed)).fate = some endStreamFailed
    ∧ cUnit moveCue ≠ uCollective ∧ (m.cueWrites 0 moveCue ++ m.landingAreas 0 moveCue).all (fun a => decide (0xA0000000 ≤ a.1)) = true
    ∧ (runs [] [barrierCue] []).runningAt 0 = none := by
  decide +kernel

theorem witness_RemoteTokensAreAppliedHeldOrRefused :
    let s := runs [] [] [(1024 + 8 * 5, 8, 0xFFFFFFFFFFFFFFFF)];
    let i := yRemoteStream 0xFFFFFFFFFFFFFFFF;
    let full := { s with eng := { sync := [(5, 0xFFFFFFFF)] } };
    let armed := { having [(Reg.slotState 0, slotEmpty), (Reg.slotState 1, slotArmed)] with mem := laid [(slotBase 1, 88, 2 ^ 128 * 3)] };
    s.tagsActive 0 3 = true ∧ s.active = some 0 ∧ s.takesFrom 0 5 i = true ∧ i < 2 ^ 14
    ∧ s.sync 5 + (7#8).toNat ≤ 0xFFFFFFFF ∧ full.tagsActive 0 3 = true ∧ full.takesFrom 0 5 i = true
    ∧ 0xFFFFFFFF < full.sync 5 + (1#8).toNat
    ∧ armed.tagsActive 0 3 = false ∧ armed.tagsArmed 0 3 = true ∧ armed.eng.held.length < 1024
    ∧ s.tagsActive 0 4 = false ∧ (having [(Reg.slotState 0, 0), (Reg.slotState 1, 0)]).tagsArmed 0 4 = false := by
  decide +kernel

theorem witness_AbortsAreAnswered :
    let s := runs [] [tokenCue, tokenCue] [];
    let full := { s with eng := { marks := List.replicate 64 9 } };
    let idle := having [(Reg.activeSlot, 0xFF)];
    s.answersRequests = true ∧ full.answersRequests = true ∧ idle.answersRequests = true
    ∧ (16#128).extractLsb 15 4 ≠ 0 ∧ idle.active = none ∧ hRevision (s.hdr 0) ≠ (4#16).toNat ∧ hRevision (s.hdr 0) = (3#16).toNat
    ∧ s.active = some 0 ∧ s.abortTarget 0 1 0 = some 1 ∧ tget 0 s.eng.ended 1 = 0 ∧ s.runningAt 1 = none ∧ 1 ∉ s.eng.taken
    ∧ 1 ∉ s.eng.marks ∧ s.eng.marks.length < 64
    ∧ full.active = some 0 ∧ full.abortTarget 0 1 0 = some 1 ∧ tget 0 full.eng.ended 1 = 0 ∧ full.runningAt 1 = none
    ∧ 1 ∉ full.eng.marks ∧ 64 ≤ full.eng.marks.length := by
  decide +kernel

/-- An UPDATE cue. -/
def updateCue : Nat := 4

theorem witness_FlagsClearAndFaultedSharesRetry :
    let r : Running := { running none with waiting := [3] };
    let s := { runs [(Reg.tcInService, 0xFFFF)] [updateCue] [] with eng := { fetchedTo := 1, running := [r] } };
    let none_ := having [(Reg.tcInService, 0)];
    none_.answersRequests = true ∧ s.answersRequests = true ∧ (0x10#8).extractLsb 7 4 ≠ 0 ∧ (0x0F#8).extractLsb 7 4 = 0
    ∧ s.active = some 0 ∧ s.runningAt 0 = some r ∧ r.waiting = 3 :: [] ∧ r.fate = none
    ∧ (List.range 16).find? (s.cellFree 0) = some 0 ∧ s.posCue 0 0 = some (updateCue, 0, 0) ∧ isUpdate updateCue = true
    ∧ s.held (readAreas updateCue ++ writeAreas updateCue) = false
    ∧ (∀ x : Fin 16, none_.cellFree 0 x = false)
    ∧ (3#2 = 3) ∧ none_.cellInService (15#4).toNat = false ∧ (2#2 ≠ 3) ∧ s.cellInService (15#4).toNat = true
    ∧ s.cellCue (15#4).toNat = none := by
  decide +kernel

def retrying (c : Cue) (w : List Nat) (done x : Nat) : State := { runs [(Reg.tcInService, 0xFFFF)] [c] [] with
  eng := { fetchedTo := 1, running := [{ running none with waiting := w, done := done }] }, cells := [(0, x)] }

theorem witness_shares_are_retried :
    let found := fun (s : State) (c : Cue) => s.active == some 0 && (s.runningAt 0).map (fun r => r.fate) == some none
      && (List.range 16).find? (s.cellFree 0) == some 0 && s.posCue 0 0 == some (c, 0, 0) && s.held (readAreas c ++ writeAreas c) == false;
    found (retrying uCollective [3] 0 0) uCollective ∧ found (retrying uTile [3, 4] 0 0) uTile
    ∧ found (retrying uTile [3] 0 0) uTile ∧ found (retrying uTile [3] 1 0) uTile ∧ found (retrying uTile [3] 0 2) uTile := by
  decide +kernel

theorem witness_retried_shares_wait :
    cUnit uCollective = uCollective ∧ isUpdate uTile = false ∧ cUnit uTile ≠ uCollective
    ∧ ((retrying uTile [3, 4] 0 0).runningAt 0).map (fun r => r.waiting) = some (3 :: [4])
    ∧ ((retrying uTile [3] 0 0).runningAt 0).map (fun r => (r.waiting, r.done)) = some (3 :: [], 0)
    ∧ ((retrying uTile [3] 1 0).runningAt 0).map (fun r => (r.waiting, r.done)) = some (3 :: [], 1)
    ∧ tget 0 (retrying uTile [3] 1 0).cells 0 = 0 ∧ tget 0 (retrying uTile [3] 0 2).cells 0 = 2 := by
  decide +kernel

/-- A counted-tensor header of one element of FMT 0 for instance `num` of group 0 under revision 3 (Table 6.3). -/
def memberHeader (num : Nat) : Nat :=
  let h := 1 + 2 ^ 64 * num + 2 ^ 112 * 3
  h + 2 ^ 496 * headerCheck h

/-- A COLLECTIVE cue of group 0 over 64 elements. -/
def collCue : Nat := 3 + 2 ^ 192 * 0xB0000000 + 2 ^ 288 * 0xB0010000 + 2 ^ 384 * 0xB0020000 + 2 ^ 432 * 64 + 2 ^ 456

/-- It runs as instance `x`; stream 0 is its member 0 and brings the bytes `raw`. -/
def collState (raw : List Byte) (x : Instance) : State :=
  { runs [(Reg.tcInService, 0xFFFF)] [collCue] [] with
    eng := { fetchedTo := 1, running := [running none] }
    groups := [(0, some x)]
    streams := [(0, { entry := kindHost + 2 ^ 128 * 3, rxPars := [⟨0, 0, raw, 0, 0, 0⟩] })] }

theorem witness_header_refused :
    let raw := List.replicate 64 0#8;
    let s := collState raw ⟨0, 0, 0, [], [], [], 0, false, false⟩;
    let e := (s.stream (0#14).toNat).entry;
    eBound e = true ∧ eCollIn e = true ∧ (s.stream 0).lostFraming = false
    ∧ s.collective (eGroup e) = some (0, ⟨0, 0, 0, [], [], [], 0, false, false⟩, collCue)
    ∧ (s.stream 0).rxBytes (s.stream 0).rxCover 64 = some raw ∧ headerGood (headerOfWire raw) = false := by
  decide +kernel

theorem witness_header_accepted_or_stale :
    let raw := headerWire (memberHeader 0);
    let s := collState raw ⟨0, 0, 0, [], [], [], 0, false, false⟩;
    let u := collState raw ⟨0, 1, 0, [], [], [], 0, false, false⟩;
    let e := (s.stream 0).entry;
    eBound e = true ∧ eCollIn e = true ∧ (s.stream 0).lostFraming = false
    ∧ s.collective (eGroup e) = some (0, ⟨0, 0, 0, [], [], [], 0, false, false⟩, collCue)
    ∧ (s.stream 0).rxBytes (s.stream 0).rxCover 64 = some raw
    ∧ s.headerFault (eGroup e) e collCue (headerOfWire raw) = none ∧ tInstance (headerOfWire raw) = 0
    ∧ u.collective (eGroup e) = some (0, ⟨0, 1, 0, [], [], [], 0, false, false⟩, collCue)
    ∧ u.headerFault (eGroup e) e collCue (headerOfWire raw) = none ∧ precedes (tInstance (headerOfWire raw)) 1 = true := by
  decide +kernel

theorem witness_MemberHeadersAreExaminedAndTilesReduced :
    let x : Instance := ⟨0, 0, 0, [⟨0, 1, 0xB0000040, none⟩], [], [], 0, true, false⟩;
    let s := collState [] x;
    s.collective 0 = some (0, x, collCue) ∧ s.runningAt x.pos = some (running none) ∧ x.headerOut = true ∧ 0 < x.tileTotal
    ∧ x.tiles.contains 0 = false ∧ x.poisoned = [] ∧ (running none).fate = none ∧ (running none).waiting = []
    ∧ s.cellFree x.pos 15 = true ∧ (running none).retried.contains 0 = false ∧ tget 0 s.cells 15 = 0
    ∧ s.held (x.tileAreas collCue 0) = false
    ∧ (x.reaching 0).all (fun m => let w := memberSpan (memberFmt collCue m) m 0
      s.memberHas m w.1 w.2 && !s.isPoisoned (m.base + w.1) (w.2 - w.1)) = true := by
  decide +kernel

/-- An UPDATE cue of four parameters with one addend at 0xB000_0000. -/
def pieceCue : Nat := 4 + 2 ^ 192 * 0xB0000000 + 2 ^ 288 * 0xB0010000 + 2 ^ 384 * 0xB0020000 + 2 ^ 432 * 4 + 2 ^ 456 + 2 ^ 480

/-- It runs; nothing of it is done. -/
def pieceState : State :=
  { runs [(Reg.tcInService, 0xFFFF)] [pieceCue] [] with
    eng := { fetchedTo := 1, running := [running none] }, opt := { runs := [{ pos := 0 }] } }

theorem witness_ProgramsAreCheckedAndPiecesApplied :
    let s := pieceState;
    let p := pieceOf (rangeFirst (s.programOf 0 pieceCue) pieceCue) (cCount pieceCue) 0;
    let done := { s with site := { applied := [(0, 1)] } };
    let bad := { s with poison := [0xB0000000] };
    let whole := s.write 72 [4#8];
    let off := { s with objs := (Reg.tcInService, 0) :: s.objs };
    let r := running none;
    s.answersRequests = true ∧ programReserved (0#1536).toNat = false ∧ programGood (0#1536).toNat = true ∧ programReserved (0x1000#1536).toNat = true
    ∧ programReserved (1#1536).toNat = false ∧ programGood (1#1536).toNat = false
    ∧ s.active = some 0 ∧ s.runningAt 0 = some (running none) ∧ s.opt.runs.find? (fun v => v.pos == 0) = some { pos := 0 }
    ∧ s.posCue 0 0 = some (pieceCue, 0, 0) ∧ p.count ≠ 0 ∧ s.pieceRuns r { pos := 0 } (s.programOf 0 pieceCue) pieceCue 0 15 = true ∧ s.heldTiles.length < 64 ∧ tget 0 s.cells 15 = 0
    ∧ s.outputReadOnly 0 0 = false ∧ s.hostReads [pieceOutput (s.programOf 0 pieceCue) pieceCue p] = false
    ∧ s.held (pieceOutput (s.programOf 0 pieceCue) pieceCue p :: s.pieceReads (s.programOf 0 pieceCue) (s.outerStep 0) pieceCue p) = false
    ∧ s.applied 0 = false ∧ p.count ≠ tileParams (hParams (s.hdr 0)) 0
    ∧ whole.active = some 0 ∧ whole.posCue 0 0 = some (pieceCue, 0, 0) ∧ p.count = tileParams (hParams (whole.hdr 0)) 0
    ∧ whole.pieceRuns r { pos := 0 } (whole.programOf 0 pieceCue) pieceCue 0 15 = true
    ∧ off.pieceRuns r { pos := 0 } (off.programOf 0 pieceCue) pieceCue 0 15 = false
    ∧ s.anyPoison (s.pieceReads (s.programOf 0 pieceCue) (s.outerStep 0) pieceCue p) = false ∧ done.applied 0 = true
    ∧ bad.anyPoison (bad.pieceReads (bad.programOf 0 pieceCue) (bad.outerStep 0) pieceCue p) = true := by
  decide +kernel

/-- A DECOMPRESS cue of one block at 0xB000_0000. -/
def blockCue : Nat := 7 + 2 ^ 26 * 3 + 2 ^ 192 * 0xB0000000 + 2 ^ 288 * 0xB0010000 + 2 ^ 432 + 2 ^ 456

/-- A block of 64 zeros under slot 0 and generation 0: every code is the 7 of ZERO. -/
def zeroBlock : Nat := (codeBlock 0 0 0x8006050403020100 (List.replicate 64 0)).word

/-- It runs, its block in memory. -/
def blockState (ds : List Damage) (rs : List Rereq) : State :=
  { runs [(Reg.slotTable 0, 0x8006050403020100), (Reg.slotGeneration 0, 0)] [blockCue] [(0xB0000000, 89, zeroBlock)] with
    eng := { fetchedTo := 1, running := [running none] }, damages := ds, links := [(0, { rereqs := rs })] }

theorem witness_block_decoded :
    let s := blockState [] [];
    let seen := some (bytesLE 89 zeroBlock);
    s.held [(decodeAddr blockCue 0, 89)] = false ∧ s.decoding 0 = some (blockCue, 0) ∧ fmtD (cFmtOut blockCue) = .e16 ∧ 0 < cN blockCue * cM blockCue
    ∧ s.damages.any (fun d => d.pos == 0) = false ∧ s.blockSeen (decodeAddr blockCue 0) seen = some zeroBlock
    ∧ s.blockCheck blockCue (some zeroBlock) = none
    ∧ s.blockCheck blockCue (s.blockSeen (decodeAddr blockCue 0) (some [])) = some 4 := by
  decide +kernel

theorem witness_block_damaged :
    let d : Damage := ⟨0, 0, 0xB0000000, false, 0⟩;
    let q : Damage := ⟨0, 0, 0xB0000000, true, 0⟩;
    let s := blockState [d] [];
    let good := blockState [q] [⟨2, 0, 0, 0, 0, 0, some true⟩];
    let bad := blockState [q] [⟨2, 0, 0, 0, 0, 0, some false⟩];
    s.held [(d.addr, 89)] = false ∧ s.decoding 0 = some (blockCue, 0) ∧ s.damages.find? (fun d => d.pos == 0 && !d.requested) = some d
    ∧ s.blockSeen d.addr none = some zeroBlock ∧ s.blockCheck blockCue (some zeroBlock) = none ∧ d.block = 0
    ∧ s.blockCheck blockCue (s.blockSeen d.addr (some [])) = some 4 ∧ s.blockParcels d.addr = none
    ∧ good.decoding 0 = some (blockCue, 0) ∧ good.damages.find? (fun d => d.pos == 0 && d.requested) = some q
    ∧ (∀ r ∈ good.rereqsOf 0, r.outcome = some true) ∧ good.blockSeen q.addr none = some zeroBlock
    ∧ bad.decoding 0 = some (blockCue, 0) ∧ bad.damages.find? (fun d => d.pos == 0 && d.requested) = some q
    ∧ (∀ r ∈ bad.rereqsOf 0, r.outcome ≠ none) ∧ (∃ r ∈ bad.rereqsOf 0, r.outcome = some false) := by
  decide +kernel

theorem witness_TablesAreWrittenAndBlocksDecoded :
    let v : BitVec 128 := 0x18006050403020100#128;
    let quiet := [(Reg.slotTable 0, 0x8006050403020100), (Reg.slotState 0, 0), (Reg.slotState 1, 0), (Reg.activeSlot, 0xFF)];
    let s := having (quiet ++ [(Reg.slotInFlight 0, 0)]);
    let busy := having (quiet ++ [(Reg.slotInFlight 0, 1)]);
    let named := { runs [(Reg.slotState 0, slotActive), (Reg.slotState 1, 0), (Reg.slotTable 0, 0)] [blockCue] [] with eng := {} };
    s.answersRequests = true ∧ busy.answersRequests = true ∧ named.answersRequests = true ∧ v.toNat / 2 ^ 68 = 0 ∧ tableValid (v.toNat % 2 ^ 64) = true ∧ bits v.toNat 67 64 ≠ s.slotGen 0 ∧ s.slotNamedWord 0 = 0
    ∧ s.obj (Reg.slotInFlight 0) = 0 ∧ tableValid ((0#128).toNat % 2 ^ 64) = false
    ∧ bits v.toNat 67 64 ≠ named.slotGen 0 ∧ named.slotNamedWord 0 ≠ 0
    ∧ bits v.toNat 67 64 ≠ busy.slotGen 0 ∧ busy.slotNamedWord 0 = 0 ∧ busy.obj (Reg.slotInFlight 0) ≠ 0 := by
  decide +kernel

theorem witness_InFlightCountIsClearedByWritingOne :
    let st := fun e => having [(Reg.cueEngineState, e), (Reg.slotState 0, 0), (Reg.slotState 1, 0), (Reg.activeSlot, 0xFF)];
    (∀ e : Fin 8, (st e).answersRequests = true) ∧ (st engIdle).engState ≠ engRunning ∧ (st engIdle).engState ≠ engParked ∧ bit ((st engIdle).slotNamedWord 0) 0 = false
    ∧ (st engRunning).engState = engRunning := by
  decide +kernel

/-- A pool of two buffers; owner 3 has MIN and CAP as given, every other owner none. -/
def pool (mn cap : Nat) (bs : Tab (Option Buffer)) : State :=
  { having ([(Reg.poolBase, 0xA0000000), (Reg.poolBuffers, 2), (Reg.ownerLimits 3, mn + 2 ^ 32 * cap), (Reg.slotState 0, 0),
      (Reg.slotState 1, 0)] ++ (List.range 64).map (fun o => (Reg.ownerLimits o, 0))) with memSt := { buffers := bs } }

theorem witness_PoolAllocatesLowestFreeBuffer :
    let one : Tab (Option Buffer) := [(0, some { owner := 3 })];
    let reserved := pool 1 1 [];
    let second := { pool 0 2 one with memSt := { buffers := one, retry := [3], deferred := [(3, some 7)] } };
    let none_ := { pool 0 1 one with memSt := { buffers := one, retry := [3], deferred := [(3, some 7)] } };
    twf none 0 one = true
    ∧ firstFree 0 reserved.memSt.buffers < reserved.obj Reg.poolBuffers ∧ reserved.usage 3 < reserved.minOf 3
    ∧ firstFree 0 second.memSt.buffers < second.obj Reg.poolBuffers ∧ second.usage 3 < second.capOf 3
    ∧ second.reservedUnused < second.poolFree ∧ 3 ∈ second.memSt.retry
    ∧ second.memSt.deferred.find? (fun d => d.1 == 3) = some (3, some 7)
    ∧ ¬ (none_.usage 3 < none_.minOf 3 ∨ none_.usage 3 < none_.capOf 3 ∧ none_.reservedUnused < none_.poolFree)
    ∧ 3 ∈ none_.memSt.retry := by
  decide +kernel

theorem witness_PoolSharesAndFreesExactlyOnce :
    let own := pool 0 2 [(1, some { owner := 3 })];
    let x : Buffer := { owner := 3, claims := [3, 5], last := 5 };
    let y : Buffer := { owner := 3, claims := [3], last := 5, pendingFree := true };
    let z : Buffer := { owner := 3, claims := [5], last := 5 };
    (1#23).toNat < own.obj Reg.poolBuffers ∧ own.buffer (1#23).toNat = some { owner := 3 } ∧ (2 ^ 5 : BitVec 64).getLsbD 5 = true
    ∧ (pool 0 2 [(1, some x)]).buffer (1#23).toNat = some x ∧ 3 ∈ x.claims ∧ 3 ≠ x.last ∧ x.pendingFree = false
    ∧ (pool 0 2 [(1, some y)]).buffer (1#23).toNat = some y ∧ 3 ∈ y.claims ∧ 3 ≠ y.last ∧ y.pendingFree = true ∧ y.claims.erase 3 = []
    ∧ (pool 0 2 [(1, some z)]).buffer (1#23).toNat = some z ∧ 5 ∈ z.claims ∧ 5 = z.last ∧ 5 ∈ x.claims ∧ 5 = x.last := by
  decide +kernel

theorem witness_PoolRefusesOperationsThatBreakTheRules :
    let x : Buffer := { owner := 3, claims := [3, 5], last := 5 };
    let s := pool 0 2 [(1, some x)];
    let u := { s with streams := [(2, { entry := kindHost + 2 ^ 168 * 3 })] };
    u.ownerStreams 3 = [2] ∧ eKind (u.stream 2).entry = kindHost ∧ (u.stream 2).failed = none ∧ 2 ∈ u.ownerStreams 3 ∧ (u.stream 2).entry ≠ 0 ∧ s.ownerStreams 3 = [] ∧
    s.obj Reg.poolBuffers ≤ (2#23).toNat ∧ (0#23).toNat < s.obj Reg.poolBuffers ∧ s.buffer (0#23).toNat = none
    ∧ s.buffer (1#23).toNat = some x ∧ x.owner ≠ 5 ∧ x.owner = 3 ∧ x.claims ≠ [] ∧ x.last ≠ 3 ∧ x.last = 5 ∧ x.last ≠ 7 ∧ 7 ∉ x.claims
    ∧ (pool 0 2 [(1, some { owner := 3 })]).buffer (1#23).toNat = some { owner := 3 } := by
  decide +kernel

theorem witness_PoolConfigurationWritesAreChecked :
    let s := pool 0 0 [];
    let m := pool 3 3 [];
    s.answersRequests = true ∧ m.answersRequests = true ∧ (pool 0 0 [(0, some { owner := 3 })]).answersRequests = true
    ∧ (pool 0 0 [(0, some { owner := 3 })]).poolBusy = true ∧ s.poolBusy = false ∧ (1#64).toNat % 65536 ≠ 0
    ∧ ¬ (0xA0000000 ≤ (0#64).toNat ∧ (0#64).toNat + 65536 * s.obj Reg.poolBuffers ≤ 0x010C388D0000) ∧ s.obj Reg.poolBuffers ≠ 0
    ∧ (0xA0000000#64).toNat % 65536 = 0
    ∧ 0xA0000000 ≤ (0x010C388B0000#64).toNat ∧ (0x010C388B0000#64).toNat + 65536 * s.obj Reg.poolBuffers ≤ 0x010C388D0000
    ∧ 4194304 < (4194305#32).toNat ∧ (4194304#32).toNat ≤ 4194304 ∧ 0xA0000000 ≤ s.obj Reg.poolBase
    ∧ s.obj Reg.poolBase + 65536 * (4194304#32).toNat ≤ 0x010C388D0000
    ∧ (2#32).toNat < m.minSum ∧ m.poolBusy = false ∧ m.minSum ≤ (3#32).toNat
    ∧ (having [(Reg.poolBuffers, 0)]).obj Reg.poolBuffers = 0 := by
  decide +kernel

theorem witness_OwnerLimitsAndDescriptorWritesAreChecked :
    let s := pool 0 0 [(0, some { owner := 3 })];
    s.answersRequests = true ∧ (1#9 ≠ 0) ∧ (1#23 < 2#23) ∧ s.obj Reg.poolBuffers < (3#23).toNat ∧ s.minOf 3 < (2#23).toNat
    ∧ s.poolFree - s.reservedUnused < (2#23).toNat - s.minOf 3
    ∧ (1#23) ≤ (2#23) ∧ (2#23).toNat ≤ s.obj Reg.poolBuffers ∧ s.minSum - s.minOf 3 + (1#23).toNat ≤ s.obj Reg.poolBuffers
    ∧ (1#23).toNat - s.minOf 3 ≤ s.poolFree - s.reservedUnused
    ∧ s.minOf 3 ≤ s.usage 3 ∧ s.capOf 3 ≤ s.usage 3
    ∧ (0x1000000000000#128).extractLsb 63 48 ≠ 0 ∧ (0#128).extractLsb 119 112 = 0
    ∧ (let v : BitVec 128 := 1#128 <<< 112 ||| 0x40#128;
      v.extractLsb 63 48 = 0 ∧ v.extractLsb 127 120 = 0 ∧ v.extractLsb 119 112 ≠ 0 ∧ v.extractLsb 5 0 = 0 ∧ v.extractLsb 69 64 = 0) := by
  decide +kernel

theorem witness_MemoryErrorsAreCountedOnce :
    let s := having [];
    let p := { s with poison := [0, 0x800000000000] };
    let gone := having [(Reg.hubLinkState, 0)];
    s.held [((63#48).toNat - (63#48).toNat % 64, 1)] = false ∧ s.asleep = false ∧ p.asleep = false
    ∧ p.held [((63#48).toNat - (63#48).toNat % 64, 1)] = false ∧ gone.held [(unitOf (63#48).toNat, 1)] = true
    ∧ (having [(Reg.moduleState, modIntermission)]).asleep = true ∧ (63#48).toNat < 0x010C388D0000 ∧ s.isPoisoned ((63#48).toNat - (63#48).toNat % 64) 1 = false
    ∧ p.isPoisoned ((63#48).toNat - (63#48).toNat % 64) 1 = true
    ∧ 0x800000000000 ≤ (0x800000000007#48).toNat ∧ (0x800000000007#48).toNat < 0x800010000000
    ∧ s.isPoisoned ((0x800000000007#48).toNat - (0x800000000007#48).toNat % 8) 1 = false
    ∧ (let r := { runs [] [1] [] with eng := { fetchedTo := 1, running := [running none] }, poison := [0xB0000000] };
      r.isPoisoned 0xB0000000 1 = true ∧ r.isPoisoned 0xB0000040 1 = false ∧ r.held [(0xB0000000, 1)] = false ∧ r.active = some 0
        ∧ r.posCue 0 0 = some (1, 0, 0) ∧ cUnit 1 ≠ uCollective ∧ cUnit 1 ≠ uDecompress ∧ r.runningAt 0 = some (running none)
        ∧ (running none).fate = none) := by
  decide +kernel

theorem witness_HubLinksRetrainOrFail :
    let s := having [(Reg.hubLinkState, 0x0E)];
    let two := { s with memSt := { losses := [(0, [1, 0])] } };
    let failed := { s with memSt := { failedHubs := 1 } };
    let recent := fun (u : State) => ((tget [] u.memSt.losses 0).filter (fun x => decide ((u.tick 999999999).now < x + 1000000000))).length;
    bit s.memSt.failedHubs 0 = false ∧ recent s < 2 ∧ 2 ≤ recent two ∧ bit failed.memSt.failedHubs 0 = true
    ∧ bit (s.obj Reg.hubLinkState) 0 = false := by
  decide +kernel

/-- Channel 8 works and channel 9 is an understudy in the plan, both in service; route 1 as given. -/
def route1 (under : Nat) (r : RouteSt) (c : ChannelSt) : State :=
  { runs (allCh chInService ++ [(Reg.pageActive, 0), (Reg.cmPage 0, 0), (Reg.restoreHoldoffMs, 1)]) [] [(96, 4, 1), (100, 4, under)] with
    routes := [(1, r)], chans := [(8, c)] }

theorem witness_FramesAndSubstitutionsFollowTheirRules :
    let bad : LineFrame := ⟨[], 0⟩;
    let good : LineFrame := ⟨[0#8, 0x3C#8, 0x3C#8, 0xC3#8, 0xC3#8], 0⟩;
    let r := having (allCh chInService);
    let a := { r with chans := [(8, { fasBad := 4, inFrame := true, lastAt := 0 })] };
    slice bad.bytes 1 4 ≠ [0x3C#8, 0x3C#8, 0xC3#8, 0xC3#8]
    ∧ 5 ≤ (a.chan 8).fasBad + max 1 (((a.tick 640).now - (a.chan 8).lastAt + 320) / 640)
    ∧ slice good.bytes 1 4 = [0x3C#8, 0x3C#8, 0xC3#8, 0xC3#8] ∧ (a.chan 8).inFrame = true
    ∧ (a.chan 8).fasBad + max 1 (((a.tick 640).now - (a.chan 8).lastAt + 320) / 640) < 6
    ∧ { r with chans := [(8, { txLfn := some 1 })] }.chan 8 = { txLfn := some ({ r with chans := [(8, { txLfn := some 1 })] }.tick 640).lfn }
    ∧ (r.chan 8).txFail = false ∧ bit (r.route 1).rxReq 0 = false := by
  decide +kernel

theorem witness_substitution_decided :
    let s := route1 2 { txMembers := 1 } { txFail := true };
    let alone := route1 0 { txMembers := 1 } { txFail := true };
    let p := (s.route (8 / 8)).planned;
    let carrying := { route1 2 { txMembers := 2, txSubst0 := 0x81 } { txFail := true } with now := 0 };
    let q := (carrying.route (8 / 8)).planned;
    (s.chan 8).txFail = true ∧ carriedIn p.2.1 p.2.2 (8 % 8) = none ∧ carrierIn p.2.1 p.2.2 (8 % 8) = none ∧ s.role 8 = 1
    ∧ bit p.1 (8 % 8) = true ∧ ((List.range 8).map (fun j => 8 * (8 / 8) + j)).find? (fun u => s.qualifies u 8) = some 9
    ∧ alone.role 8 = 1 ∧ ((List.range 8).map (fun j => 8 * (8 / 8) + j)).find? (fun u => alone.qualifies u 8) = none
    ∧ (carrying.chan 8).txFail = true ∧ carriedIn q.2.1 q.2.2 (8 % 8) = some 1 ∧ bit q.1 1 = true := by
  decide +kernel

theorem witness_substitution_undone :
    let s := route1 2 { txMembers := 1, txSubst0 := 0x88 } { clearFrom := some 0 };
    let p := (s.route (8 / 8)).planned;
    let out := { route1 2 { txMembers := 0 } { clearFrom := some 0, joined := true } with
      objs := [(Reg.restoreHoldoffMs, 1), (Reg.pageActive, 0), (Reg.cmPage 0, 2 ^ (32 * 512 + 31))] };
    let q := (out.route (8 / 8)).planned;
    (s.chan 8).clearFrom = some 0 ∧ (s.tick 999999).now < 0 + 1000000 * s.obj Reg.restoreHoldoffMs
    ∧ 0 + 1000000 * s.obj Reg.restoreHoldoffMs ≤ (s.tick 1000000).now ∧ carriedIn p.2.1 p.2.2 (8 % 8) = none
    ∧ carrierIn p.2.1 p.2.2 (8 % 8) ≠ none ∧ bit p.1 (8 % 8) = true
    ∧ (out.chan 8).clearFrom = some 0 ∧ carriedIn q.2.1 q.2.2 (8 % 8) = none ∧ carrierIn q.2.1 q.2.2 (8 % 8) = none
    ∧ bit q.1 (8 % 8) = false ∧ (out.chan 8).joined = true ∧ out.hasEntry false (out.obj Reg.pageActive) 8 = true := by
  decide +kernel

theorem witness_frame_sent :
    let s := having (allCh chInService ++ [(Reg.activeSlot, 0xFF), (Reg.pageActive, 0), (Reg.pageSwitchState, 0), (Reg.ringConfig, 0)]);
    let u := ((s.tick 640).mismatches 4 []).2;
    (s.chan 8).txLfn ≠ some u.lfn ∧ (u.beginFrame u.lfn).dark 8 = false := by
  decide +kernel

theorem witness_PagesSwitchAtTheirFrame :
    let st := fun x f => having [(Reg.pageActive, 0), (Reg.pageSwitchState, x), (Reg.pageSwitchFrame, f), (Reg.moduleState, modReady),
      (Reg.cmPage 1, 0), (Reg.cmPage 3, 0), (Reg.lgTable 1, 0), (Reg.lgTable 3, 0)];
    let broken := having [(Reg.pageActive, 0), (Reg.pageSwitchState, 0), (Reg.moduleState, modReady), (Reg.cmPage 1, 2 ^ 31),
      (Reg.lgTable 1, 0)];
    (List.range 2048).all (fun i => bits 0 (32 * i + 30) (32 * i + 15) == 0) = true
    ∧ (List.range 2048).all (fun i => bits (2 ^ 15) (32 * i + 30) (32 * i + 15) == 0) = false
    ∧ (List.range 64).all (fun i => bits 0 (32 * i + 31) (32 * i + 6) == 0) = true
    ∧ 1 % 2 ≠ (st pageIdle 0).obj Reg.pageActive ∧ (st pageIdle 0).obj Reg.pageSwitchState = pageIdle
    ∧ 2 % 2 = (st pageIdle 0).obj Reg.pageActive ∧ (st pagePending 0).obj Reg.pageSwitchState ≠ pageIdle
    ∧ (st pageIdle 0).answersRequests = true ∧ (st pagePending 0).answersRequests = true ∧ broken.answersRequests = true
    ∧ (st pageIdle 0).asleep = false ∧ ((st pageIdle 0).tick 0).lfn + 512 ≤ switchFrame (1#64).toNat
    ∧ (st pageIdle 0).pageBreak (1 - (st pageIdle 0).obj Reg.pageActive) = none
    ∧ switchFrame (1#64).toNat < ((st pageIdle 0).tick 1000000).lfn + 512
    ∧ broken.pageBreak (1 - broken.obj Reg.pageActive) = some 0 ∧ broken.asleep = false
    ∧ (st pagePending 257).obj Reg.pageSwitchState = pagePending ∧ ((st pagePending 257).tick 0).lfn + 256 < (st pagePending 257).obj Reg.pageSwitchFrame
    ∧ (st pagePending 256).obj Reg.pageSwitchFrame ≤ ((st pagePending 256).tick 0).lfn + 256
    ∧ (st pagePending 256).obj Reg.pageSwitchFrame ≤ ((st pagePending 256).tick 163840).lfn
    ∧ ((st pagePending 256).tick 163840).lfn < (st pagePending 256).obj Reg.pageSwitchFrame + 4096
    ∧ ((st pagePending 256).tick 163839).lfn < (st pagePending 256).obj Reg.pageSwitchFrame
    ∧ (st pageDraining 256).obj Reg.pageSwitchState = pageDraining
    ∧ (st pageDraining 256).obj Reg.pageSwitchFrame + 4096 ≤ ((st pageDraining 256).tick 2785280).lfn
    ∧ ((st pageDraining 256).tick 2785279).lfn < (st pageDraining 256).obj Reg.pageSwitchFrame + 4096
    ∧ (∀ l : Fin 16, ((st pagePending 256).link l).open_ = []) := by
  decide +kernel

theorem witness_DefectsAreDeclaredAndSecondsLatched :
    let at_ := fun x => { having [(Reg.channelConfig 8, 0), (Reg.channelState 8, chInService)] with chans := [(8, { entry := [(0, x)] })] };
    let dark : OpticSample := ⟨-10000, true, 0, 0, 0⟩;
    let s := { runs [] [] [(96, 4, 0)] with defects := { lossDue := [(1, some 5)] }, site := { lost := 0 } };
    let far := { runs [] [] [] with defects := { lossDue := [(1, some 5)], okFrom := [(1, some 5)] }, site := { lost := 2 } };
    let taken := { at_ 0 with defects := { lastSample := some 0 } };
    (at_ 15).defects.lastSample ≠ some ((at_ 15).tick 0).lfn ∧ taken.defects.lastSample = some (taken.tick 0).lfn
    ∧ (at_ 15).rawLos 8 ((List.replicate 32 dark).getD 8 noSample) = true ∧ bit ((at_ 15).chan 8).defects 0 = false
    ∧ tget 0 ((at_ 15).chan 8).entry 0 = 15 ∧ (at_ 0).rawLos 8 ((List.replicate 32 dark).getD 8 noSample) = true
    ∧ bit ((at_ 0).chan 8).defects 0 = false ∧ tget 0 ((at_ 0).chan 8).entry 0 < 15
    ∧ s.active = some 0 ∧ tget none s.defects.lossDue 1 = some 5 ∧ (s.tick 4).now < 5
    ∧ bit s.site.lost 1 = false ∧ bit far.site.lost 1 = true ∧ far.linksTo 1 = []
    ∧ (far.tick 1000000000).net / 1000000000 ≠ far.defects.lastLatch ∧ (far.tick 999999999).net / 1000000000 = far.defects.lastLatch := by
  decide +kernel

theorem witness_peer_lost :
    let s := { runs [] [] [(100, 1, 1), (256, 1, 1)] with
      mem := laid [(0, 88, 2 ^ 128 * 3 + 2 ^ 512 * 8192), (8192, 1, 1), (8192 + 256, 1, 1)]
      defects := { lossDue := [(1, some 5)] }, site := { lost := 0 } };
    let far := { s with defects := { okFrom := [(0, some 5)] }, site := { lost := 2 } };
    bit far.site.lost 1 = true ∧ far.linksTo 1 = [0] ∧ tget none far.defects.okFrom 0 = some 5
    ∧ 5 + 1000000000 ≤ (far.tick 1000000005).now ∧ (far.tick 1000000004).now < 5 + 1000000000 ∧ bit (s.farSites 0) 2 = false
    ∧ s.active = some 0 ∧ tget none s.defects.lossDue 1 = some 5 ∧ bit (s.farSites 0) 1 = true ∧ bit s.site.lost 1 = false
    ∧ 5 ≤ (s.tick 5).now := by
  decide +kernel

theorem toNat_of_bytes {l : List Byte} (h : l.length = 64) : (BitVec.ofNat 512 (ofBytesLE l)).toNat = ofBytesLE l := by
  have hlt := ofBytesLE_lt l
  have he : 256 ^ 64 = 2 ^ 512 := by decide +kernel
  rw [h, he] at hlt
  rw [BitVec.toNat_ofNat, Nat.mod_eq_of_lt hlt]

theorem zero_low (r : List Byte) : ofBytesLE (0#8 :: 0#8 :: 0#8 :: 0#8 :: r) % 2 ^ 32 = 0 := by
  simp [ofBytesLE]
  omega

/-- Four zero bytes, nonce 1 and a ciphertext of zeros. -/
def blobHead : List Byte := List.replicate 15 0#8 ++ [1#8] ++ List.replicate 32 0#8

theorem head_epoch (x : List Byte) : ofBytesBE (slice (blobHead ++ x) 0 2) = 0 := by
  simp [blobHead, slice, ofBytesBE, ofBytesLE, List.replicate]
theorem head_nonce (x : List Byte) : ofBytesBE (slice (blobHead ++ x) 4 12) = 1 := by
  simp [blobHead, slice, ofBytesBE, ofBytesLE, List.replicate]
theorem head_fields (x : List Byte) : slice (blobHead ++ x) 4 12 = slice blobHead 4 12
    ∧ slice (blobHead ++ x) 0 4 = slice blobHead 0 4 ∧ slice (blobHead ++ x) 16 32 = slice blobHead 16 32 := by
  simp [blobHead, slice, List.replicate]

/-- A key blob that unwraps, under any wrapping key of 32 bytes. -/
theorem blob_opens (s : State) (obj : Nat) (wrap : List Nat) (h : IsBytes 32 wrap) : ∃ (v : BitVec 512) (key : List Nat),
    bits v.toNat 31 0 = 0 ∧ bits v.toNat 31 16 = 0 ∧ ofBytesBE (slice (bytesLE 64 v.toNat) 0 2) = 0
    ∧ ofBytesBE (slice (bytesLE 64 v.toNat) 4 12) = 1
    ∧ s.unwrap obj (bytesLE 64 v.toNat) wrap [] = (stOk, some key, s) := by
  let tag := gcmTag wrap (natsOf (slice blobHead 4 12)) (natsOf (bytesBE 2 (obj / 256) ++ bytesBE 1 (obj % 256) ++ slice blobHead 0 4))
    (natsOf (slice blobHead 16 32))
  have ht : IsBytes 16 tag := gcmTag_bytes h _ _ _
  have hl : (blobHead ++ bytesOf tag).length = 64 := by simp [bytesOf, ht.1, blobHead]
  have hv0 := toNat_of_bytes hl
  have hv : bytesLE 64 (BitVec.ofNat 512 (ofBytesLE (blobHead ++ bytesOf tag))).toNat = blobHead ++ bytesOf tag := by
    rw [hv0, ← hl]
    exact ofBytesLE_bytesLE _
  have h48 : slice (blobHead ++ bytesOf tag) 48 16 = bytesOf tag := by
    rw [slice, List.drop_left' (by simp [blobHead]), List.take_of_length_le (by simp [bytesOf, ht.1])]
  have hn : (BitVec.ofNat 512 (ofBytesLE (blobHead ++ bytesOf tag))).toNat % 2 ^ 32 = 0 := by
    rw [hv0]
    exact zero_low _
  obtain ⟨key, hk⟩ : ∃ key, gcmOpen wrap (natsOf (slice blobHead 4 12)) (natsOf (bytesBE 2 (obj / 256) ++ bytesBE 1 (obj % 256)
    ++ slice blobHead 0 4)) (natsOf (slice blobHead 16 32)) tag = some key := ⟨_, gcmOpen_gcmTag _ _ _ _⟩
  clear_value tag
  obtain ⟨h1, h2, h3⟩ := head_fields (bytesOf tag)
  refine ⟨BitVec.ofNat 512 (ofBytesLE (blobHead ++ bytesOf tag)), key, ?_, ?_, ?_, ?_, ?_⟩
  · simp only [bits]; omega
  · simp only [bits]; omega
  · rw [hv]; exact head_epoch _
  · rw [hv]; exact head_nonce _
  · rw [hv]
    simp only [State.unwrap, State.mismatches, h48, h1, h2, h3, natsOf_bytesOf ht, hk]
    rfl

/-- An awake module with a KLK of 32 zero bytes, no alarm, no nonce seen, every lane in service. -/
def keyed (p : PairSt) : State := { having [(Reg.moduleState, modReady), (Reg.alarmStatus, 0), (Reg.rootNonceLast, 0), (Reg.klkNonceLast, 0),
  (Reg.activeSlot, 0xFF), (Reg.lanesInService, 0x3FF03FF)] with
  cipher := { klk := some (List.replicate 32 0), pairs := [(1, p)] } }

theorem keyed_klk : IsBytes 32 (List.replicate 32 0) := ⟨by simp, by simp⟩

theorem witness_KeysAreLoadedSwitchedAndErased :
    let s := keyed {};
    let ep := fun (e : Nat) => ({ epoch := e, key := List.replicate 32 0 } : KeyEpoch);
    let behind := keyed { held := [ep 65535], tx := some 65535 };
    let other := keyed { held := [ep 7], tx := some 7 };
    let unheld := { s with cipher := {} };
    let blob := fun (n : Nat) => bytesLE 64 n;
    s.answersRequests = true ∧ behind.answersRequests = true ∧ other.answersRequests = true ∧ unheld.answersRequests = true
    ∧ s.asleep = false ∧ behind.asleep = false ∧ other.asleep = false ∧ unheld.asleep = false ∧ bits (1#512).toNat 31 0 ≠ 0
    ∧ bits (0#512).toNat 31 0 = 0 ∧ { s with objs := [(Reg.alarmStatus, 1)] }.obj Reg.alarmStatus ≠ 0
    ∧ s.obj Reg.alarmStatus = 0 ∧ ofBytesBE (slice (blob 0) 4 12) ≤ nonceOf (s.obj Reg.rootNonceLast)
    ∧ nonceOf (s.obj Reg.rootNonceLast) < 1 ∧ nonceOf (s.obj Reg.klkNonceLast) < 1 ∧ s.laneInService 19 = true
    ∧ unheld.obj Reg.alarmStatus = 0 ∧ unheld.cipher.klk = none
    ∧ s.isOwnSite 1 = false ∧ other.obj Reg.alarmStatus = 0 ∧ (other.pair 1).held.getLast? = some (ep 7)
    ∧ ofBytesBE (slice (blob 0) 0 2) ≠ (7 + 1) % 65536
    ∧ ((s.pair 1).key 0).isNone = true ∧ (s.pair 1).held.getLast? = none ∧ (s.pair 1).held.length < 3 ∧ (s.pair 1).tx = none
    ∧ ((behind.pair 1).key 0).isNone = true ∧ (behind.pair 1).held.getLast? = some (ep 65535) ∧ (65535 + 1) % 65536 = 0
    ∧ (behind.pair 1).held.length < 3 ∧ (behind.pair 1).tx ≠ none ∧ (behind.pair 1).ivCount < 2 ^ 48 := by
  decide +kernel

theorem witness_key_loads_are_refused :
    let s := keyed {};
    let asleep := having [(Reg.moduleState, modIntermission)];
    let alarmed := { s with objs := (Reg.alarmStatus, 1) :: s.objs };
    let own := { s with objs := (Reg.activeSlot, 0) :: s.objs };
    let full := keyed { held := [5, 6, 7].map (fun e => { epoch := e, key := [] }) };
    let v : BitVec 512 := 0x100000800;
    asleep.answersRequests = true ∧ asleep.asleep = true ∧ alarmed.answersRequests = true ∧ alarmed.asleep = false
    ∧ alarmed.obj Reg.alarmStatus ≠ 0 ∧ alarmed.isOwnSite 1 = false ∧ own.answersRequests = true ∧ own.asleep = false ∧ own.isOwnSite 0 = true
    ∧ bits (0x10000#512).toNat 31 16 ≠ 0 ∧ bits (1#512).toNat 31 16 = 0 ∧ s.cipher.klk ≠ none
    ∧ ofBytesBE (slice (bytesLE 64 (1#512).toNat) 4 12) ≤ nonceOf (s.obj Reg.klkNonceLast)
    ∧ nonceOf (full.obj Reg.klkNonceLast) < ofBytesBE (slice (bytesLE 64 v.toNat) 4 12) ∧ bits v.toNat 31 16 = 0
    ∧ (full.pair 1).held.getLast? = some { epoch := 7, key := [] } ∧ ofBytesBE (slice (bytesLE 64 v.toNat) 0 2) = (7 + 1) % 65536
    ∧ (full.pair 1).key 8 = none ∧ 3 ≤ (full.pair 1).held.length := by
  decide +kernel

theorem witness_keys_unwrap :
    (∃ (v : BitVec 512) (key : List Nat), bits v.toNat 31 0 = 0
      ∧ nonceOf ((keyed {}).obj Reg.rootNonceLast) < ofBytesBE (slice (bytesLE 64 v.toNat) 4 12)
      ∧ ((keyed {}).tick 0).unwrap Reg.klkLoad (bytesLE 64 v.toNat) rootKeyBytes [] = (stOk, some key, (keyed {}).tick 0))
    ∧ (∃ (v : BitVec 512) (key : List Nat), bits v.toNat 31 0 = 0
      ∧ nonceOf ((keyed {}).obj Reg.klkNonceLast) < ofBytesBE (slice (bytesLE 64 v.toNat) 4 12)
      ∧ ((keyed {}).tick 0).unwrap Reg.sakLoad (bytesLE 64 v.toNat) (List.replicate 32 0) [] = (stOk, some key, (keyed {}).tick 0))
    ∧ (∀ s : State, ∃ (v : BitVec 512) (key : List Nat), bits v.toNat 31 16 = 0 ∧ ofBytesBE (slice (bytesLE 64 v.toNat) 0 2) = 0
      ∧ 0 < ofBytesBE (slice (bytesLE 64 v.toNat) 4 12)
      ∧ (s.tick 0).unwrap (Reg.pairKeyLoad 1) (bytesLE 64 v.toNat) (List.replicate 32 0) [] = (stOk, some key, s.tick 0)) := by
  have h1 : nonceOf ((keyed {}).obj Reg.rootNonceLast) = 0 := by decide +kernel
  have h2 : nonceOf ((keyed {}).obj Reg.klkNonceLast) = 0 := by decide +kernel
  refine ⟨?_, ?_, fun s => ?_⟩
  · obtain ⟨v, k, a, -, -, n, u⟩ := blob_opens ((keyed {}).tick 0) Reg.klkLoad rootKeyBytes rootKeyBytes_bytes
    exact ⟨v, k, a, by omega, u⟩
  · obtain ⟨v, k, a, -, -, n, u⟩ := blob_opens ((keyed {}).tick 0) Reg.sakLoad _ keyed_klk
    exact ⟨v, k, a, by omega, u⟩
  · obtain ⟨v, k, -, b, e, n, u⟩ := blob_opens (s.tick 0) (Reg.pairKeyLoad 1) _ keyed_klk
    exact ⟨v, k, b, e, by omega, u⟩

theorem witness_keys_switched :
    let ep := fun (e : Nat) (w : Option Nat) => ({ epoch := e, key := List.replicate 32 0, windowEnd := w } : KeyEpoch);
    let s := keyed { held := [ep 6 (some 5), ep 7 none, ep 8 none], tx := some 7 };
    let waits := keyed { held := [ep 7 none, ep 8 none], tx := some 7, pending := some (8, 5) };
    let own := { s with objs := (Reg.activeSlot, 0) :: s.objs };
    waits.answersRequests = true ∧ waits.isOwnSite 1 = false ∧ (waits.pair 1).next = some (bits (8#128).toNat 15 0) ∧ (waits.pair 1).pending ≠ none
    ∧ own.isOwnSite 0 = true ∧ s.isOwnSite 1 = false
    ∧ s.answersRequests = true ∧ bits (9#128).toNat 63 16 = 0 ∧ (s.pair 1).next ≠ some (bits (9#128).toNat 15 0)
    ∧ (s.pair 1).next = some (bits (8#128).toNat 15 0) ∧ (s.pair 1).pending = none ∧ bits (8#128).toNat 127 64 = 0
    ∧ bits (BitVec.ofNat 128 (8 + 2 ^ 64)).toNat 127 64 ≠ 0 ∧ bits (BitVec.ofNat 128 (8 + 2 ^ 64)).toNat 15 0 = 8
    ∧ bits (BitVec.ofNat 128 (8 + 2 ^ 64)).toNat 127 64 ≤ (s.tick 163840000).epoch
    ∧ (s.tick 0).epoch < bits (BitVec.ofNat 128 (8 + 2 ^ 127)).toNat 127 64
    ∧ ((s.pair 1).key (9#16).toNat).isNone = true ∧ ((s.pair 1).key (7#16).toNat).isSome = true ∧ (s.pair 1).tx = some (7#16).toNat
    ∧ ((s.pair 1).key (8#16).toNat).isSome = true ∧ (s.pair 1).tx ≠ some (8#16).toNat
    ∧ (s.pair 1).draining = [ep 6 (some 5)] ∧ 5 ≤ (s.tick 5).now ∧ (s.tick 4).now < 5 := by
  decide +kernel

/-- Bytes 16 to 47 of a parcel of stream 0 under epoch 0, PSN 0, IV_COUNT 0. -/
def parcelHead : List Byte := List.replicate 32 0#8

/-- A parcel body that verifies, whatever the keys of the pair are. -/
theorem parcel_opens (s : State) (l route : Nat) (key : List Nat) (hk : IsBytes 32 key)
    (h : (s.pair (lFarSite (s.link l).entry)).key 0 = some key) : ∃ (x : List Byte) (pt : List Byte),
    (s.openParcel l route (parcelHead ++ x)).1 = some pt := by
  let f := lFarSite (s.link l).entry
  let z : List Byte := List.replicate 4096 0#8
  let tag := gcmTag (deriveKey key 1 f s.ownSite) (parcelIv f (lFarGateway (s.link l).entry) 0) (natsOf parcelHead) (natsOf z)
  have ht : IsBytes 16 tag := gcmTag_bytes (deriveKey_bytes hk _ _ _) _ _ _
  have hl : (bytesOf tag).length = 16 := by simp [bytesOf, ht.1]
  obtain ⟨pt, hp⟩ : ∃ pt, gcmOpen (deriveKey key 1 f s.ownSite) (parcelIv f (lFarGateway (s.link l).entry) 0) (natsOf parcelHead)
    (natsOf z) tag = some pt := ⟨_, gcmOpen_gcmTag _ _ _ _⟩
  have ht' := natsOf_bytesOf ht
  clear_value tag
  generalize bytesOf tag = y at hl ht'
  have z0 : ofBytesBE (slice (parcelHead ++ (y ++ z)) 24 2) = 0 := by
    simp [parcelHead, slice, ofBytesBE, ofBytesLE, List.replicate]
  have z1 : ofBytesBE (slice (parcelHead ++ (y ++ z)) 26 6) = 0 := by
    simp [parcelHead, slice, ofBytesBE, ofBytesLE, List.replicate]
  have z2 : slice (parcelHead ++ (y ++ z)) 0 32 = parcelHead := by simp [slice, parcelHead]
  have z3 : slice (parcelHead ++ (y ++ z)) 32 16 = y := by
    rw [slice, List.drop_left' (by simp [parcelHead]), List.take_left' hl]
  have z4 : slice (parcelHead ++ (y ++ z)) 48 4096 = z := by
    rw [slice, ← List.append_assoc, List.drop_left' (by simp [parcelHead, hl])]
    exact List.take_of_length_le (Nat.le_of_eq List.length_replicate)
  refine ⟨y ++ z, bytesOf pt, ?_⟩
  simp only [State.openParcel, z0, z1, z2, z3, z4, h, ht']
  rw [hp]

/-- A module with one LINE stream 0 on link 0 toward site 1, whose pair has key p. -/
def onLine (p : PairSt) (x : StreamCtx) : State := { keyed p with streams := [(0, x)], links := [(0, { entry := 1, inUse := true })] }

def sealedKey : PairSt := { held := [{ epoch := 0, key := List.replicate 32 0 }], tx := some 0 }

theorem witness_ParcelsAreSealedAndTheCurtainFalls :
    let p : Parcel := { stream := 0, psn := 0, offset := 0, items := [], data := [], token := 0, jobTag := 0, revision := 0 };
    let s := onLine sealedKey { entry := 2, outQ := [p] };
    let bare := onLine {} { entry := 2, outQ := [p] };
    let x := s.stream (0#14).toNat;
    let pr := ((s.tick 0).dueSwitch (s.linkSite (eLink x.entry))).pair (s.linkSite (eLink x.entry));
    let b := parcelHead ++ [1#8];
    x.outQ = [p] ∧ eKind x.entry = kindLine ∧ (s.link (eLink x.entry)).inUse = true ∧ (s.link (eLink x.entry)).failed = false
    ∧ x.failed = none ∧ (s.tick 0).canEncrypt (s.linkSite (eLink x.entry)) = true ∧ pr.ivCount + 1 < 2 ^ 48
    ∧ (bare.stream (0#14).toNat).outQ = [p] ∧ (bare.tick 0).canEncrypt (bare.linkSite (eLink (bare.stream 0).entry)) = false
    ∧ ((s.pair (lFarSite (s.link 0).entry)).key (ofBytesBE (slice b 24 2))).isSome = true
    ∧ (s.pair (lFarSite (s.link 0).entry)).key (ofBytesBE (slice (List.replicate 32 0xFF#8) 24 2)) = none
    ∧ (s.pair (lFarSite (s.link 0).entry)).held.getLast? = some { epoch := 0, key := List.replicate 32 0 }
    ∧ epochEarlier 0 (ofBytesBE (slice (List.replicate 32 0xFF#8) 24 2)) = false
    ∧ s.laneInService 19 = true ∧ (having [(Reg.lanesInService, 0)]).laneInService 19 = false
    ∧ bit (s.obj Reg.alarmStatus) (alarmBit .coreSupply) = false ∧ s.asleep = false
    ∧ bit ((having [(Reg.alarmStatus, 2)]).obj Reg.alarmStatus) (alarmBit .supply) = true
    ∧ (having [(Reg.moduleState, modIntermission)]).asleep = true := by
  decide +kernel

theorem witness_parcels_open :
    (∃ body pt, (((onLine sealedKey {}).tick 0).openParcel 0 0 body).1 = some pt)
    ∧ (((onLine sealedKey {}).tick 0).openParcel 0 0 (parcelHead ++ [1#8])).1 = none
    ∧ (((onLine sealedKey {}).pair (lFarSite ((onLine sealedKey {}).link 0).entry)).key
      (ofBytesBE (slice (parcelHead ++ [1#8]) 24 2))).isSome = true := by
  refine ⟨?_, by decide +kernel, by decide +kernel⟩
  obtain ⟨x, pt, h⟩ := parcel_opens ((onLine sealedKey {}).tick 0) 0 0 _ keyed_klk (by decide +kernel)
  exact ⟨_, pt, h⟩

/-- A link toward site 1 under route code 2 (k = 2, m = 2), positions of line groups 0 to 3 on routes 0 to 3, RETAIN_US 5. -/
def codeTwo : Nat := 1 + 2 ^ 14 + 2 ^ 32 * 0 + 2 ^ 40 * (1 + 2 ^ 6) + 2 ^ 48 * (2 + 2 ^ 7) + 2 ^ 56 * (3 + 2 ^ 6 + 2 ^ 7) + 2 ^ 192 * 5

/-- Link 0 in use, stream 0 on it; channel 0 works and carries line group 0 from site 1. -/
def linked (k : LinkSt) (x : StreamCtx) : State := { having [(Reg.activeSlot, 0xFF), (Reg.pageActive, 0), (Reg.cmPage 2, 2 ^ 31), (Reg.lgTable 2, 9)] with
  routes := [(0, { rxMembers := 1 })]
  links := [(0, { k with entry := codeTwo, inUse := true })], streams := [(0, x)] }

def someBody (i psn : Nat) : Body := { stream := i, peer := 0, psn := psn, epoch := 0, owners := [], bytes := [] }

theorem witness_StripesAreSentRetriedAndFreed :
    let pos := fun (i psn : Nat) (q : Bool) => ({ body := some (someBody i psn), parity := q } : TxPos);
    let st : TxStripe := { ssn := 5, nullMap := 0, positions := [pos 0 7 false, pos 0 8 false, pos 0 0 true, pos 0 0 true], lastNak := some 1, attempts := 2, lastTx := 9 };
    let s := linked { ready := [someBody 0 1, someBody 0 2], ssn := 6, stripes := [st] } { entry := kindLine, txLimit := 4 };
    let one := linked { ready := [someBody 0 1] } {};
    let full := linked { ssn := 5 + 2 ^ 23, stripes := [st] } {};
    let spent := linked { stripes := [{ st with attempts := 3 }] } {};
    let hurt : TxStripe := { st with positions := [{ pos 0 7 false with poisoned := some 0 }, { pos 0 8 false with poisoned := some 0 },
      { pos 0 0 true with poisoned := some 0 }, pos 0 0 true] };
    let few := linked { stripes := [hurt] } {};
    let queued := linked { stripes := [st], slots := [⟨0, 5, true, []⟩] } {};
    let kept := { s with memSt := { s.memSt with stores := (List.range 4).map (fun r => (retxStore r, [(0, r)])) } };
    let dryPool := { s with objs := (Reg.poolBuffers, 0) :: s.objs };
    let obtainable := fun (st : TxStripe) (named : BitVec 4) =>
      (((List.range st.positions.length).zip st.positions).filter (fun q =>
        q.2.poisoned.isNone || (!q.2.parity && !(bit named.toNat q.1 && q.2.body.isSome)))).length;
    let k := s.link 0;
    let due := st.lastTx + 1000 * (linkTimers k.entry).retry;
    let holds := fun (i psn : Nat) (p : TxPos) => match p.body with
      | some b => !p.parity && b.stream == i && b.psn == psn
      | none => false;
    k.inUse = true ∧ k.failed = false ∧ k.windowFull = false ∧ min (lK k.entry) k.ready.length = 2 ∧ lK k.entry = 2
    ∧ (one.link 0).windowFull = false ∧ min (lK (one.link 0).entry) (one.link 0).ready.length = 1
    ∧ (full.link 0).windowFull = true
    ∧ st ∈ k.stripes ∧ seqAfter (6#32).toNat st.ssn = true ∧ st.closedAt = none ∧ st.abandoned = none ∧ 0 < lRetain k.entry
    ∧ k.stripe (5#32).toNat = some st ∧ 1 < (2#8).toNat ∧ st.lastNak = some 1 ∧ st.attempts < lBudget k.entry
    ∧ (∀ p ∈ st.positions, p.poisoned = none) ∧ lK k.entry ≤ st.positions.length
    ∧ (few.link 0).stripe 5 = some hurt ∧ obtainable hurt 3#4 < lK (few.link 0).entry ∧ hurt.closedAt = none ∧ hurt.lastNak = some 1
    ∧ lK (few.link 0).entry ≤ obtainable hurt 0#4
    ∧ (∀ r < 4, kept.short (retxStore r) = false ∧ (kept.storeOf (retxStore r)).length = buffersFor (kept.storedOn r + 1))
    ∧ dryPool.short (retxStore 0) = false
    ∧ (linkRoutes k.entry).any (fun r => ((dryPool.tick 0).reserve 0 [pos 0 1 false, pos 0 2 false, pos 0 0 true, pos 0 0 true]).short (retxStore r)) = true
    ∧ hurt.attempts < lBudget (few.link 0).entry
    ∧ k.slots.any (fun q => q.ssn == 5) = false ∧ (queued.link 0).slots.any (fun q => q.ssn == 5) = true
    ∧ (∀ r < 4, s.short (retxStore r) = false)
    ∧ (spent.link 0).stripe 5 = some { st with attempts := 3 } ∧ lBudget (spent.link 0).entry ≤ 3 ∧ (1#8).toNat ≤ 1
    ∧ due ≤ (s.tick due).now ∧ (s.tick (due - 1)).now < due
    ∧ (k.stripes.all (fun q => q.positions.all (fun p => !holds 0 9 p))) = true
    ∧ (k.stripes.any (fun q => q.positions.any (holds 0 7))) = true
    ∧ k.stripes.all (fun q => q.positions.all (fun p => p.poisoned == none)) = true ∧ s.upGroups 0 ≠ []
    ∧ eKind (s.stream (0#14).toNat).entry = kindLine ∧ (s.stream 0).draining = false
    ∧ seqAfter (5#32).toNat (s.stream 0).txLimit = true ∧ seqAfter (4#32).toNat (s.stream 0).txLimit = false
    ∧ s.poolHeld = false ∧ few.poolHeld = false ∧ ({ s with objs := (Reg.hubLinkState, 0) :: s.objs }).poolHeld = true
    ∧ (unitOf (64#48).toNat, 4) ∉ s.memSt.fresh := by
  decide +kernel

theorem parseSlot_take (code k m : Nat) (b : List Byte) : parseSlot code k m b = parseSlot code k m (b.take 16) := by
  have h : ∀ i n, i + n ≤ 16 → slice b i n = slice (b.take 16) i n := by
    intro i n hn
    simp only [slice, List.drop_take, List.take_take]
    rw [Nat.min_eq_left (by omega)]
  simp only [parseSlot, h 0 1 (by omega), h 1 1 (by omega), h 2 1 (by omega), h 3 1 (by omega), h 4 4 (by omega), h 8 6 (by omega),
    h 14 2 (by omega), List.take_take, show min 14 16 = 14 from rfl]

/-- The header of the data parcel at position 0 of stripe 5 under route code 2. -/
def slotHead : List Byte := slotBytes false false 0 2 0 5 []

/-- Link 0 with one stripe open. -/
def receiving (k : LinkSt) : State := { linked k {} with
  streams := [(0, { entry := kindLine })], cipher := { pairs := [(1, sealedKey)] } }

theorem witness_a_parcel_arrives : ∃ (b pt : List Byte),
    let s := receiving { cum := 4 };
    let k := s.link 0;
    let route := gRoute (s.lgEntry true (s.obj Reg.pageActive) 0);
    let oldest := k.open_.foldl (fun a u => if seqAfter a u.ssn then u.ssn else a) ((k.open_.head?.map (fun u => u.ssn)).getD k.cum);
    let body := b.drop 16;
    let j := bits (ofBytesBE (slice body 0 2)) 13 0;
    ((b.take 64).all (fun x => x == 0#8) = false ∧ s.linkOfGroup 0 = some (0, 0) ∧ k.rxEnded = false)
    ∧ parseSlot (lCode k.entry) (lK k.entry) (lM k.entry) b = some (false, 0, false, 0, 5)
    ∧ seqAfter k.cum 5 = false ∧ k.closed.contains 5 = false ∧ k.failedStripes.contains 5 = false
    ∧ seqAfter 5 (seqAdd oldest (2 ^ 23)) = false ∧ k.open? 5 = none ∧ bit k.excess route = false
    ∧ s.bundleDown route (lFarSite k.entry) = false ∧ s.groupMatches 0 0 0 = true
    ∧ ((s.tick 0).openParcel 0 route body).1 = some pt ∧ eKind (s.stream j).entry = kindLine ∧ eLink (s.stream j).entry = 0
    ∧ (s.stream j).failed = none ∧ (s.stream j).draining = false
    ∧ seqAfter (s.stream j).rxPsn (ofBytesBE (slice body 4 4)) = false
    ∧ (s.stream j).rxAt (ofBytesBE (slice body 4 4)) = none := by
  obtain ⟨x, pt, h⟩ := parcel_opens ((receiving { cum := 4 }).tick 0) 0 0 _ keyed_klk (by decide +kernel)
  have hl : slotHead.length = 16 := by decide +kernel
  have hd : (slotHead ++ (parcelHead ++ x)).drop 16 = parcelHead ++ x := List.drop_left' hl
  have ht : (slotHead ++ (parcelHead ++ x)).take 16 = slotHead := List.take_left' hl
  have h64 : ((slotHead ++ (parcelHead ++ x)).take 64).all (fun x => x == 0#8) = false := by
    rw [List.take_append, hl, List.take_of_length_le (by omega), List.all_append]
    have : slotHead.all (fun x => x == 0#8) = false := by decide +kernel
    simp [this]
  have hj : ofBytesBE (slice (parcelHead ++ x) 0 2) = 0 := by simp [parcelHead, slice, ofBytesBE, ofBytesLE, List.replicate]
  have hp : ofBytesBE (slice (parcelHead ++ x) 4 4) = 0 := by simp [parcelHead, slice, ofBytesBE, ofBytesLE, List.replicate]
  refine ⟨slotHead ++ (parcelHead ++ x), pt, ?_⟩
  simp only [hd, hj, hp, h64]
  have hs : (some pt = some pt) = True := eq_self _
  rw [parseSlot_take, ht, show gRoute ((receiving { cum := 4 }).lgEntry true ((receiving { cum := 4 }).obj Reg.pageActive) 0) = 0 by decide +kernel, h, hs]
  decide +kernel

theorem witness_StripesAreReceivedAndFail :
    let u : RxStripe := { ssn := 5, nullMap := 0, holdFrom := 3, first := 2 };
    let r : Rereq := { stream := 0, psn := 7, num := 1, tries := 2, at_ := 4, pos := 0 };
    let s := receiving { cum := 4, closed := [5], open_ := [u], rereqs := [r], drainedRx := [(1, 0)], excess := 1, excessFrom := [(0, some 8)] };
    let dry := receiving { open_ := [{ u with naks := 4 }], failed := true, rereqs := [{ r with tries := 3 }] };
    let k := s.link 0;
    let b := slotHead ++ [0#8];
    let hole := u.holdFrom + 1000 * (linkTimers k.entry).hole;
    ((List.replicate 64 0#8).take 64).all (fun x => x == 0#8) = true
    ∧ (b.take 64).all (fun x => x == 0#8) = false ∧ ([0x31#8].take 64).all (fun x => x == 0#8) = false
    ∧ s.linkOfGroup (0 : Fin 64).val = some (0, 0) ∧ k.rxEnded = false
    ∧ parseSlot (lCode k.entry) (lK k.entry) (lM k.entry) [0x31#8] = none
    ∧ parseSlot (lCode k.entry) (lK k.entry) (lM k.entry) b = some (false, 0, false, 0, 5) ∧ k.closed.contains 5 = true
    ∧ k.open? (5#32).toNat = some u ∧ u.nakOut = false ∧ hole ≤ (s.tick hole).now ∧ u.naks ≤ lBudget k.entry
    ∧ (s.tick (hole - 1)).now < hole ∧ (dry.link 0).open? 5 = some { u with naks := 4 } ∧ lBudget (dry.link 0).entry < 4 := by
  decide +kernel

theorem witness_links_fail :
    let u : RxStripe := { ssn := 5, nullMap := 0, holdFrom := 3, first := 2 };
    let r : Rereq := { stream := 0, psn := 7, num := 1, tries := 2, at_ := 4, pos := 0 };
    let s := receiving { cum := 4, closed := [5], open_ := [u], rereqs := [r], drainedRx := [(1, 0)], excess := 1, excessFrom := [(0, some 8)] };
    let free := receiving { cum := 4, open_ := [u] };
    let dry := receiving { open_ := [{ u with naks := 4 }], failed := true, rereqs := [{ r with tries := 3 }] };
    let k := s.link 0;
    let fail := u.first + 1000 * (linkTimers k.entry).fail;
    k.inUse = true ∧ seqAfter (free.link 0).cum (5#32).toNat = false ∧ (free.link 0).closed.contains 5 = false
    ∧ (free.link 0).failedStripes.contains 5 = false ∧ (s.stream ((0#16).toNat % 16384)).entry ≠ 0
    ∧ (s.stream ((0#16).toNat % 16384)).failed = none ∧ k.failed = false ∧ fail ≤ (s.tick fail).now ∧ (s.tick (fail - 1)).now < fail
    ∧ (dry.link 0).failed = true ∧ eKind (s.stream 0).entry = kindLine ∧ eLink (s.stream 0).entry = (0 : Fin 16).val
    ∧ (s.stream 0).draining = false ∧ k.drainedRx.any (fun p => p.1 == (2#16).toNat) = false
    ∧ k.drainedRx.any (fun p => p.1 == (1#16).toNat) = true := by
  decide +kernel

theorem witness_rerequests_end :
    let u : RxStripe := { ssn := 5, nullMap := 0, holdFrom := 3, first := 2 };
    let r : Rereq := { stream := 0, psn := 7, num := 1, tries := 2, at_ := 4, pos := 0 };
    let s := receiving { cum := 4, closed := [5], open_ := [u], rereqs := [r], drainedRx := [(1, 0)], excess := 1, excessFrom := [(0, some 8)] };
    let dry := receiving { open_ := [{ u with naks := 4 }], failed := true, rereqs := [{ r with tries := 3 }] };
    let k := s.link 0;
    let due := r.at_ + 1000 * (linkTimers k.entry).retry;
    r ∈ k.rereqs ∧ ePeerStream (s.stream r.stream).entry = (0#16).toNat ∧ r.psn = (7#32).toNat ∧ r.outcome = none
    ∧ k.rereqs.find? (fun q => q.num == (1#8).toNat && q.outcome.isNone) = some r ∧ (s.tick (due - 1)).now < due
    ∧ due ≤ (s.tick due).now ∧ r.tries < lBudget k.entry
    ∧ (dry.link 0).rereqs.find? (fun q => q.num == (1#8).toNat && q.outcome.isNone) = some { r with tries := 3 }
    ∧ lBudget (dry.link 0).entry ≤ 3
    ∧ tget none k.excessFrom (0 : Fin 4).val = some 8 ∧ bit k.excess (0 : Fin 4).val = true
    ∧ 8 + 1000000000 ≤ (s.tick 1000000008).now ∧ (s.tick 1000000007).now < 8 + 1000000000 := by
  decide +kernel

/-- The module in READY with every channel in state x under an active sheet whose plan works channel 8 with understudies 14
and 15; channel 8 as the optical block sees it. -/
def lit (x : Nat) (o : OpticSt) : State :=
  { runs (allCh x ++ [(Reg.calEnable, 1), (Reg.calPeriodS, 60), (Reg.channelConfig 8, 0xC4E200), (Reg.relockHoldMs, 5), (Reg.calWaitMs, 5)]) []
      [(96, 4, 1), (120, 4, 2), (124, 4, 2)] with optics := [(8, o)] }

theorem witness_LockAndPilotAreMonitored :
    let near : LockReading := ⟨-2500, 20000, -900, 0, true⟩;
    let coarse : LockReading := ⟨0, -20001, -900, 0, true⟩;
    let fine : LockReading := ⟨2501, 0, -900, 0, false⟩;
    let s := lit chInService { coarseRun := 1, fineFrom := some 7, pilotRun := 1 };
    let low := lit chInService {};
    let well : SweepAttempt := ⟨[(3, 20000), (9, -20001)], 500, -10000⟩;
    let poor : SweepAttempt := ⟨[], 0, 0⟩;
    let holds := fun (a : SweepAttempt) => (a.points.filter (fun p => decide (p.2.natAbs ≤ 20000))).length = 1 ∧ a.holdFine.natAbs ≤ 500 ∧ a.holdCoarse.natAbs ≤ 10000;
    let off := { lit chRelocking { holdUntil := some 9 } with objs := (Reg.channelConfig 8, 0) :: (lit chRelocking {}).objs };
    (∃ a ∈ [poor, well].take 3, holds a) ∧ (∀ a ∈ [poor, poor, poor, well].take 3, ¬ holds a) ∧ 3 ≤ [poor, poor, poor, well].length
    ∧ (∀ a ∈ [poor, poor].take 3, ¬ holds a) ∧ [poor, poor].length < 3 ∧ s.answersRequests = true
    ∧ off.chState 8 = chRelocking ∧ (off.optic 8).holdUntil = some 9 ∧ off.enabled 8 = false
    ∧ { off with objs := (Reg.channelConfig 8, 2 ^ 24) :: off.objs }.enabled 8 = true ∧
    near.fineMhz.natAbs ≤ 2500 ∧ near.coarseMhz.natAbs ≤ 20000 ∧ s.inService 8 = true ∧ 20000 < coarse.coarseMhz.natAbs
    ∧ 1 ≤ (s.optic 8).coarseRun ∧ fine.coarseMhz.natAbs ≤ 20000 ∧ 2500 < fine.fineMhz.natAbs ∧ (s.optic 8).fineFrom = some 7
    ∧ 7 + 100000 ≤ (s.tick 100007).now ∧ (lit chLocking {}).chState 8 = chLocking ∧ ((lit chLocking {}).optic 8).holdUntil = none
    ∧ (lit chRelocking { holdUntil := some 9 }).chState 8 = chRelocking
    ∧ ((lit chRelocking { holdUntil := some 9 }).optic 8).holdUntil = some 9 ∧ 9 ≤ (s.tick 9).now
    ∧ (lit chLaserFailed {}).chState 8 = chLaserFailed ∧ s.chState 8 ≠ chLaserFailed
    ∧ (5 : Fin 32).val ≠ bits (s.obj (Reg.channelConfig 8)) 4 0 ∧ 1 ≤ (s.optic 8).pilotRun ∧ s.pilotMismatch 8 = false
    ∧ (low.optic 8).wordRun < 2 ∧ (low.optic 8).pilotRun = 0 ∧ (low.optic 8).wordRun = 0 ∧ low.pilotMismatch 8 = false
    ∧ (lit (2 ^ 10 + 2) { pilotBadAt := some 3 }).pilotMismatch 8 = true
    ∧ (0 : Fin 32).val = bits (s.obj (Reg.channelConfig 8)) 4 0
    ∧ ((lit (2 ^ 10 + 2) { pilotBadAt := some 3 }).optic 8).pilotBadAt = some 3 ∧ 3 + 100000000 ≤ (s.tick 100000003).now := by
  decide +kernel

theorem witness_CalibrationTakesTurns :
    let at_ := fun (x c : Nat) (o : OpticSt) => { lit x o with engines := [(2, { cursor := c })] };
    let s := at_ chInService 1 { calibratedAt := some 4 };
    let w := at_ chInService 0 {};
    s.calChannel 2 = 9 ∧ (s.tick 0).calDue 2 9 = true ∧ s.inService 9 = true ∧ s.engineBusy 9 = false ∧ s.role 9 ≠ 1
    ∧ s.carries 9 = false ∧ s.foreignTx 9 = false
    ∧ w.calChannel 2 = 8 ∧ (w.tick 0).calDue 2 8 = true ∧ w.inService 8 = true ∧ w.engineBusy 8 = false ∧ w.role 8 = 1
    ∧ w.understudiesIdle 8 = true
    ∧ ((at_ chInService 0 { calibratedAt := some 4 }).tick 60000000003).calDue 2 ((at_ chInService 0 { calibratedAt := some 4 }).calChannel 2) = false
    ∧ (lit chWaitSubst { waitUntil := some 6, wait := .calibrate }).chState 8 = chWaitSubst
    ∧ ((lit chWaitSubst { waitUntil := some 6, wait := .calibrate }).optic 8).waitUntil = some 6 ∧ 6 ≤ (s.tick 6).now
    ∧ ((lit chWaitSubst { waitUntil := some 6, wait := .calibrate }).optic 8).wait = .calibrate
    ∧ ((lit chWaitSubst { waitUntil := some 6, wait := .disable }).optic 8).wait = .disable
    ∧ (lit chCalibrating {}).chState 8 = chCalibrating ∧ ((lit chCalibrating {}).optic 8).holdUntil = none
    ∧ ((lit chCalibrating { holdUntil := some 9 }).optic 8).holdUntil = some 9 ∧ 9 ≤ (s.tick 9).now
    ∧ sweepLocks [⟨[(3, 0)], 0, 0⟩] = true ∧ w.answersRequests = true
    ∧ sweepLocks (List.replicate 2 ⟨[], 0, 0⟩) = false ∧ sweepLocks (List.replicate 3 ⟨[], 0, 0⟩) = false
    ∧ 31 < (32#8).toNat ∧ (31#8).toNat ≤ 31 := by
  decide +kernel

/-- The fields of CHANNEL_CONFIG that a write may not set freely. -/
abbrev sameConfig (s : State) (c v : Nat) : Prop := s.answersRequests = true ∧ bits v 7 5 = 0 ∧ bits v 31 26 = 0
  ∧ (-60 ≤ ofSigned 8 (bits v 15 8) ∧ ofSigned 8 (bits v 15 8) ≤ 20)
  ∧ (-60 ≤ ofSigned 8 (bits v 23 16) ∧ ofSigned 8 (bits v 23 16) ≤ -30)
  ∧ (bits v 4 0 = bits (s.obj (Reg.channelConfig c)) 4 0 ∨ s.chReads c = chDisabled)

theorem witness_ChannelConfigurationActs :
    let v : Word32 := 0x01E2C403#32;
    let off := { lit chDisabled {} with objs := (lit chDisabled {}).objs ++ [(Reg.channelConfig 9, 0), (Reg.channelConfig 10, 0), (Reg.channelConfig 11, 0)] };
    bits (0x20#32).toNat 7 5 ≠ 0 ∧ bits (0x80000000#32).toNat 31 26 ≠ 0 ∧ sameConfig off 8 v.toNat ∧ off.chState 8 = chDisabled ∧ (lit chInService {}).chReads 8 ≠ chDisabled
    ∧ ¬ (-60 ≤ ofSigned 8 (bits (0x00E22203#32).toNat 15 8) ∧ ofSigned 8 (bits (0x00E22203#32).toNat 15 8) ≤ 20)
    ∧ off.modState = modReady ∧ off.engineDown 8 = false ∧ bits v.toNat 4 0 ≠ bits ((lit chInService {}).obj (Reg.channelConfig 8)) 4 0
    ∧ (∀ d : Fin 32, d.val / 4 = (8 : Fin 32).val / 4 → d ≠ 8 → bit (off.obj (Reg.channelConfig d)) 24 = true →
      bits (off.obj (Reg.channelConfig d)) 4 0 ≠ bits v.toNat 4 0) := by
  decide +kernel

theorem witness_channels_turn_off :
    let v : Word32 := 0x01E2C403#32;
    let twin := { lit chDisabled {} with objs := (lit chDisabled {}).objs ++ [(Reg.channelConfig 9, 0x01E2C403)] };
    let s := lit chInService {};
    let idle := { s with objs := s.objs ++ [(Reg.channelConfig 9, 0)] };
    let down := { s with objs := (Reg.engineState 2, 1) :: s.objs };
    sameConfig twin 8 v.toNat ∧ (9 : Fin 32).val / 4 = (8 : Fin 32).val / 4 ∧ bit (twin.obj (Reg.channelConfig 9)) 24 = true
    ∧ bits (twin.obj (Reg.channelConfig 9)) 4 0 = bits v.toNat 4 0
    ∧ sameConfig idle 9 (0xE2C400#32).toNat ∧ idle.inService 9 = true ∧ idle.role 9 ≠ 1 ∧ idle.carries 9 = false
    ∧ sameConfig s 8 (0xE2C400#32).toNat ∧ s.inService 8 = true ∧ s.role 8 = 1 ∧ s.engineDown 8 = false ∧ idle.engineDown 9 = false
    ∧ down.engineDown 8 = true ∧ sameConfig down 8 (0xE2C400#32).toNat
    ∧ (lit chRateChange {}).chState 8 = chRateChange := by
  decide +kernel

theorem witness_EnginesAndMonitorsAct :
    let s := { having [(Reg.engineState 3, 0)] with engines := [(3, { losses := [5, 6] })], monitor := some 4 };
    let sleeping := { s with objs := [(Reg.moduleState, modIntermission)] };
    let a := (s.engineSt 3).losses.filter (fun x => decide ((s.tick 7).now < x + 1000000000));
    let b := (s.engineSt 3).losses.filter (fun x => decide ((s.tick 1000000005).now < x + 1000000000));
    s.answersRequests = true ∧ s.asleep = false ∧ sleeping.answersRequests = true ∧ sleeping.asleep = true
    ∧ s.obj (Reg.engineState 3) ≠ 1 ∧ 2 ≤ a.length ∧ b.length < 2
    ∧ (0x1000#16).extractLsb 15 12 ≠ 0 ∧ (0x0900#16).extractLsb 15 12 = 0 ∧ 8 < ((0x0900#16).extractLsb 11 8).toNat
    ∧ 4 < ((0x00A0#16).extractLsb 7 5).toNat ∧ (0x0880#16).extractLsb 15 12 = 0 ∧ ((0x0880#16).extractLsb 11 8).toNat ≤ 8
    ∧ ((0x0880#16).extractLsb 7 5).toNat ≤ 4 ∧ s.monitor = some 4 ∧ { s with monitor := none }.monitor = none := by
  decide +kernel

/-- Port 3 with its understudy lane, a sheet whose stream 0 is a HOST stream on it, and stream 0 as given. -/
def hosted (x : PortSt) (c : StreamCtx) : State :=
  { runs [(Reg.portConfig 3, 5), (Reg.portMac 3, 0), (Reg.peerMac 3, 0), (Reg.portIpv6 3, 0), (Reg.ptUdpPort, 0xB4E4), (Reg.hostRetryUs, 100),
      (Reg.hostRetryBudget, 2), (Reg.portFailoverMs, 1)] [] [(8192, 64, kindHost + 2 ^ 160 * 3 + 2 ^ 164 * 4)] with
    ports := [(3, x), (4, { up := true })], streams := [(0, c)] }

/-- The stream's entry. -/
def hostEntry : Nat := kindHost + 2 ^ 160 * 3 + 2 ^ 164 * 4

theorem witness_PortsLanesAndProfilesFollowTheirRules :
    let s := hosted {} {};
    let up := hosted { up := true } {};
    let ready := hosted { rx := { ready := true } } {};
    let second := hosted { failedRx := 2, rx := { asked := some 1 } } {};
    let l : Fin 144 := 27;
    let bridged := hosted { failedRx := 2, rx := { asked := some 1, bridged := some 1, ready := true } } {};
    let heard := hosted { rx := { heard := some 5, last := 1000000 } } {};
    let both := hosted { tx := { bridged := some 2 } } {};
    let rolled := hosted { rx := { rolled := some 1 } } {};
    (s.port 3).lanesGood = true ∧ (s.port 3).badAt + 10000 ≤ (s.tick 10000).now ∧ (s.tick 9999).now < (s.port 3).badAt + 10000
    ∧ (second.port 3).lanesGood = false ∧ s.obj Reg.laneDegradeSer < 2 ^ 64 ∧ s.laneOn 3 = true
    ∧ (bridged.port 3).rx.bridged = some 1 ∧ (bridged.port 3).rx.asked = some 1 ∧ bridged.laneOn 3 = true
    ∧ (bridged.port 3).rx.rolled = none ∧ (bridged.port 3).stuck = false ∧ (second.port 3).rx.bridged ≠ some 1
    ∧ (heard.port 3).rx.heard = some 5 ∧ (heard.tick 1000100).now ≤ (heard.port 3).rx.last + 100 ∧ 5 + 1000000 ≤ (heard.tick 1000100).now
    ∧ (heard.port 3).rx.ready = false ∧ (heard.port 3).rx.rolled = none ∧ (heard.port 3).tx.bridged = none
    ∧ (both.port 3).tx.bridged ≠ none ∧ (rolled.port 3).rx.rolled ≠ none
    ∧ { s with objs := [(Reg.portConfig 3, 1)] }.laneOn 3 = false ∧ (s.port 3).up = false ∧ (s.port 3).stuck = false ∧ s.portMode 3 ≠ 0 ∧ s.modState = modReady ∧ s.rehearsalLaneFailed 3 false = false
    ∧ (up.port 3).up = true ∧ up.ringSt.divs.length ≤ 4000 ∧ l.val / 9 = 3 ∧ l.val % 9 < 8 ∧ (ready.port 3).failedRx = 0
    ∧ (ready.port 3).tx.bridged = none ∧ ready.understudyEn 3 = true ∧ (ready.port 3).rx.ready = true
    ∧ (second.port 3).failedRx ≠ 0 ∧ bit (second.port 3).failedRx (l.val % 9) = false ∧ (35 : Fin 144).val % 9 = 8 ∧ (35 : Fin 144).val / 9 = 3
    ∧ (s.port 3).rx.rolled = none ∧ (s.port 3).tx.bridged = none ∧ s.understudyEn 3 = true
    ∧ { s with objs := [(Reg.portConfig 3, 1)] }.understudyEn 3 = false ∧ (second.port 3).rx.asked = some 1
    ∧ (second.port 3).rx.rolled = none ∧ (second.port 3).stuck = false
    ∧ ((hosted { stuck := true, rx := { asked := some 1 } } {}).port 3).stuck = true
    ∧ ((hosted { stuck := true, rx := { asked := some 1 } } {}).port 3).rx.asked = some 1 := by
  decide +kernel

theorem witness_lanes_roll :
    let s := hosted {} {};
    let ready := hosted { rx := { ready := true } } {};
    let second := hosted { failedRx := 2, rx := { asked := some 1 } } {};
    let bridged := hosted { failedRx := 2, rx := { asked := some 1, bridged := some 1, ready := true } } {};
    let unready := hosted { failedRx := 2, rx := { asked := some 1, bridged := some 1 } } {};
    let both := hosted { tx := { bridged := some 2 } } {};
    let rolled := hosted { rx := { rolled := some 1 } } {};
    ready.laneOn 3 = true ∧ (bridged.port 3).rx.ready = true ∧ (unready.port 3).rx.asked = some 1 ∧ (unready.port 3).rx.ready = false
    ∧ both.laneOn 3 = true ∧ (both.port 3).rx.rolled = none ∧ (both.port 3).tx.bridged = some (2#3).toNat ∧ (both.port 3).tx.rolled = none
    ∧ (s.port 3).tx.bridged ≠ some (2#3).toNat ∧ rolled.laneOn 3 = true ∧ rolled.answersRequests = true ∧ bits (1#32).toNat 31 4 = 0
    ∧ bit (1#32).toNat 2 = false ∧ bits (1#32).toNat 1 0 = rolled.portMode 3
    ∧ (rolled.hostEntries [slotSealed, slotArmed, slotActive]).any (fun e => ePort e == 3 || eAltPort e == 3) = false
    ∧ rolled.rehearsalLaneFailed 3 false = false ∧ rolled.rehearsalLaneFailed 3 true = false
    ∧ (second.port 3).rx.rolled = none ∧ bit (second.port 3).failedRx ((35 : Fin 144).val % 9) = false := by
  decide +kernel

theorem witness_rolled_ports_wait :
    let s := hosted {} {};
    let safe := { s with objs := (Reg.moduleState, modSafe) :: s.objs };
    let rolled := hosted { up := true, rx := { rolled := some 1 }, tx := { rolled := some 2 } } {};
    let off := { rolled with objs := (Reg.portConfig 3, 1) :: rolled.objs };
    let sick := { s with boot := { s.boot with failedItems := [(11, 30)] } };
    s.portDriven 3 = true ∧ safe.portDriven 3 = false ∧ (s.port 3).overUnderstudy = false
    ∧ (rolled.port 3).overUnderstudy = true ∧ rolled.laneOn 3 = true ∧ (off.port 3).overUnderstudy = true ∧ off.laneOn 3 = false
    ∧ sick.answersRequests = true ∧ bits (1#32).toNat 31 4 = 0 ∧ bits (1#32).toNat 1 0 ≠ 3 ∧ bits (1#32).toNat 1 0 ≠ 0
    ∧ (sick.hostEntries [slotSealed, slotArmed, slotActive]).any (fun e => ePort e == 3 || eAltPort e == 3) = false
    ∧ sick.rehearsalLaneFailed 3 false = true
    ∧ ({ s with boot := { s.boot with failedItems := [(11, 35)] } }).rehearsalLaneFailed 3 true = true
    ∧ bit (1#32).toNat 2 = false ∧ bit (5#32).toNat 2 = true ∧ rolled.understudyEn 3 = true := by
  decide +kernel

theorem witness_profiles_are_written :
    let s := runs [(Reg.slotState 0, slotActive), (Reg.slotState 1, 0)] [] [(8192, 64, kindHost + 2 ^ 160 * 3 + 2 ^ 176 * 2 + 2 ^ 184 * 2)];
    let v := fun (burst rate depth weight : Nat) => BitVec.ofNat 64 (burst + 2 ^ 32 * rate + 2 ^ 48 * weight + 2 ^ 53 * depth);
    let top := (v 49652267 1 0 16).toNat;
    let m := BitVec.ofNat 128 (5 + 2 ^ 32 * 5 + 2 ^ 64 + 2 ^ 80);
    s.answersRequests = true ∧ bits top 63 53 = 0 ∧ 1 ≤ bits top 31 0 ∧ bits top 31 0 ≤ 49652267 ∧ 1 ≤ bits top 47 32 ∧ 1 ≤ bits top 52 48 ∧ bits top 52 48 ≤ 16
    ∧ (s.hostEntries [slotArmed, slotActive]).any (fun e => eShaper e == (1 : Fin 64).val) = false
    ∧ (s.hostEntries [slotArmed, slotActive]).any (fun e => eShaper e == (2 : Fin 64).val) = true
    ∧ bits (v 49652268 1 0 16).toNat 63 53 = 0 ∧ ¬ bits (v 49652268 1 0 16).toNat 31 0 ≤ 49652267
    ∧ bits m.toNat 127 97 = 0 ∧ 1 ≤ bits m.toNat 31 0 ∧ bits m.toNat 31 0 ≤ bits m.toNat 63 32 ∧ 1 ≤ bits m.toNat 79 64
    ∧ 1 ≤ bits m.toNat 95 80 ∧ (s.hostEntries [slotArmed, slotActive]).any (fun e => eMeter e == (1 : Fin 64).val) = false
    ∧ (s.hostEntries [slotArmed, slotActive]).any (fun e => eMeter e == (2 : Fin 64).val) = true
    ∧ ¬ 1 ≤ bits (0#128).toNat 31 0 ∧ bits (3#32).toNat 31 4 = 0 ∧ bits (3#32).toNat 1 0 = 3 ∧ bits (6#32).toNat 1 0 ≠ 3
    ∧ (s.hostEntries [slotSealed, slotArmed, slotActive]).any (fun e => ePort e == (5 : Fin 16).val || eAltPort e == (5 : Fin 16).val) = false
    ∧ (s.hostEntries [slotSealed, slotArmed, slotActive]).any (fun e => ePort e == (3 : Fin 16).val || eAltPort e == (3 : Fin 16).val) = true
    ∧ s.rehearsalLaneFailed 5 false = false ∧ s.rehearsalLaneFailed 5 true = false := by
  decide +kernel

theorem slice_append_left {a z : List Byte} {i n : Nat} (h : i + n ≤ a.length) : slice (a ++ z) i n = slice a i n := by
  rw [slice, slice, List.drop_append_of_le_length (by omega), List.take_append_of_le_length (by simp; omega)]

theorem sum16_zeros : ∀ n, sum16 (List.replicate n 0#8) = 0
  | 0 => rfl
  | 1 => rfl
  | n + 2 => by simp [List.replicate_succ, sum16, sum16_zeros n]

theorem sum16_append : ∀ (n : Nat) (a z : List Byte), a.length = 2 * n → sum16 (a ++ z) = sum16 a + sum16 z
  | 0, a, z, h => by simp [List.length_eq_zero_iff.mp h, sum16]
  | n + 1, [], z, h => by simp at h
  | n + 1, [x], z, h => by simp at h; omega
  | n + 1, x :: y :: r, z, h => by
    simp only [List.cons_append, sum16, sum16_append n r z (by simp at h; omega)]
    omega

/-- A frame of 126 bytes and a payload of 4,096 zero bytes behind them is a parcel when its own bytes say so. -/
theorem classify_zeros (s : State) (p : Nat) (a : List Byte) (hl : a.length = 126)
    (h : ofBytesBE (slice a 0 6) = bits (s.obj (Reg.portMac p)) 47 0 ∧ ofBytesBE (slice a 12 2) = 0x86DD ∧ ofBytesBE (slice a 20 1) = 17
      ∧ slice a 38 16 = s.portAddr p ∧ ofBytesBE (slice a 56 2) = s.obj Reg.ptUdpPort ∧ ofBytesBE (slice a 60 2) ≠ 0
      ∧ fold16 (sum16 (slice a 22 16 ++ slice a 38 16 ++ bytesBE 4 4168 ++ bytesBE 4 17) + sum16 (a.drop 54)) = 0xFFFF
      ∧ ofBytesBE (slice a 18 2) = 4168 ∧ ofBytesBE (slice a 58 2) = 4168 ∧ typeLength (ofBytesBE (slice a 62 1)) = 4160) :
    s.classify p (a ++ List.replicate 4096 0#8) = .parcel (a.drop 62 ++ List.replicate 4096 0#8) := by
  obtain ⟨h1, h2, h3, h4, h5, h6, h7, h8, h9, h10⟩ := h
  have hz : (List.replicate 4096 0#8).length = 4096 := List.length_replicate
  have d1 : (a ++ List.replicate 4096 0#8).drop 54 = a.drop 54 ++ List.replicate 4096 0#8 := List.drop_append_of_le_length (by omega)
  have d2 : (a ++ List.replicate 4096 0#8).drop 62 = a.drop 62 ++ List.replicate 4096 0#8 := List.drop_append_of_le_length (by omega)
  have l0 : (a ++ List.replicate 4096 0#8).length = 4222 := by rw [List.length_append, hz, hl]
  have l1 : (a.drop 54 ++ List.replicate 4096 0#8).length = 4168 := by rw [List.length_append, hz, List.length_drop, hl]
  have l2 : (a.drop 62 ++ List.replicate 4096 0#8).length = 4160 := by rw [List.length_append, hz, List.length_drop, hl]
  have e1 : slice (a.drop 54 ++ List.replicate 4096 0#8) 6 2 = slice a 60 2 := by
    rw [slice_append_left (by rw [List.length_drop]; omega)]
    simp [slice, List.drop_drop]
  have e2 : slice (a.drop 62 ++ List.replicate 4096 0#8) 0 1 = slice a 62 1 := by
    rw [slice_append_left (by rw [List.length_drop]; omega)]
    simp [slice]
  have hs : sum16 (a.drop 54 ++ List.replicate 4096 0#8) = sum16 (a.drop 54) := by
    rw [sum16_append 36 _ _ (by rw [List.length_drop, hl]), sum16_zeros, Nat.add_zero]
  unfold State.classify
  simp only [d1, d2, l0, slice_append_left (a := a) (z := List.replicate 4096 0#8) (i := 0) (n := 6) (by omega),
    slice_append_left (a := a) (z := List.replicate 4096 0#8) (i := 12) (n := 2) (by omega),
    slice_append_left (a := a) (z := List.replicate 4096 0#8) (i := 20) (n := 1) (by omega),
    slice_append_left (a := a) (z := List.replicate 4096 0#8) (i := 22) (n := 16) (by omega),
    slice_append_left (a := a) (z := List.replicate 4096 0#8) (i := 38) (n := 16) (by omega),
    slice_append_left (a := a) (z := List.replicate 4096 0#8) (i := 56) (n := 2) (by omega),
    slice_append_left (a := a) (z := List.replicate 4096 0#8) (i := 18) (n := 2) (by omega),
    slice_append_left (a := a) (z := List.replicate 4096 0#8) (i := 58) (n := 2) (by omega)]
  rw [if_neg (by simp [h1, h2, h3, h4, h5]), if_neg]
  simp only [udpOk, e1, e2, l1, l2, hs, h7, h8, h9, h10]
  simpa using h6

/-- The first 126 bytes of a frame with a DATA parcel of PSN q for stream 0. -/
def dataFrame (q : Nat) : List Byte :=
  let z := List.replicate 16 0#8
  let h := parcelHeader 0x41 false 0 q 0 4096 0 3 0 none
  let u := bytesBE 2 49152 ++ bytesBE 2 0xB4E4 ++ bytesBE 2 4168
  let ck := 0xFFFF - fold16 (sum16 (z ++ z ++ bytesBE 4 4168 ++ bytesBE 4 17) + sum16 (u ++ h))
  List.replicate 12 0#8 ++ [0x86#8, 0xDD#8] ++ bytesBE 4 (6 * 2 ^ 28) ++ bytesBE 2 4168 ++ [17#8, 255#8] ++ z ++ z ++ u ++ bytesBE 2 ck ++ h

/-- The parcel in it. -/
def dataParcel (q : Nat) : List Byte := (dataFrame q).drop 62 ++ List.replicate 4096 0#8

theorem slice_dataParcel (q i n : Nat) (h : i + n ≤ ((dataFrame q).drop 62).length) :
    slice (dataParcel q) i n = slice ((dataFrame q).drop 62) i n := slice_append_left h

/-- Stream 0 of port 3, both ready for parcels. -/
def taking : State := hosted { up := true } { entry := hostEntry, port := 3 }

/-- What the statement asks of a DATA parcel of the active sheet. -/
abbrev isData (s : State) (p : Nat) (f b : List Byte) (n : Nat) : Prop :=
  let field := fun (b : List Byte) (i n : Nat) => ofBytesBE (slice b i n)
  s.active = some n ∧ (s.port p).up = true ∧ s.classify p f = .parcel b ∧ field b 0 1 = 0x41 ∧ field b 1 1 = 3
    ∧ checkOk b = true ∧ field b 2 1 < 2 ∧ field b 46 16 = 0 ∧ field b 26 4 < 2 ^ 22 ∧ field b 20 2 ≤ 4096
    ∧ field b 4 4 < 16384 ∧ s.entryOnPort n (field b 4 4) p = true
    ∧ s.tagsActive (field b 22 2) (field b 24 2) = true ∧ eKind (s.stream (field b 4 4)).entry = kindHost
    ∧ (s.stream (field b 4 4)).failed = none

theorem witness_a_data_parcel (q : Nat) (hq : q = 0 ∨ q = 1) :
    isData taking 3 (dataFrame q ++ List.replicate 4096 0#8) (dataParcel q) 0 ∧ ofBytesBE (slice (dataParcel q) 8 4) = q
    ∧ ofBytesBE (slice (dataParcel q) 4 4) = 0 ∧ ofBytesBE (slice (dataParcel q) 12 8) = 0 := by
  have hl : (dataFrame q).length = 126 := by rcases hq with rfl | rfl <;> decide +kernel
  have hd : ((dataFrame q).drop 62).length = 64 := by rw [List.length_drop, hl]
  have f := fun i n (h : i + n ≤ 64) => slice_dataParcel q i n (by omega)
  have hc : checkOk (dataParcel q) = checkOk ((dataFrame q).drop 62) := by
    have ht : (dataParcel q).take 62 = ((dataFrame q).drop 62).take 62 := List.take_append_of_le_length (by omega)
    simp only [checkOk, f 62 2 (by omega), ht]
  have hp : taking.classify 3 (dataFrame q ++ List.replicate 4096 0#8) = .parcel (dataParcel q) :=
    classify_zeros taking 3 (dataFrame q) hl (by rcases hq with rfl | rfl <;> decide +kernel)
  simp only [isData, hc, hp, f 0 1 (by omega), f 1 1 (by omega), f 2 1 (by omega), f 46 16 (by omega), f 26 4 (by omega), f 20 2 (by omega),
    f 4 4 (by omega), f 22 2 (by omega), f 24 2 (by omega), f 8 4 (by omega), f 12 8 (by omega)]
  rcases hq with rfl | rfl <;> decide +kernel

theorem witness_HostParcelsAreTakenAndSent :
    (taking.stream 0).rxPsn = 0 ∧ (taking.stream 0).rxOffset = 0 ∧ eMeter (taking.stream 0).entry = 0
    ∧ seqAfter 1 (taking.stream 0).rxPsn = true ∧ seqAfter (taking.stream 0).rxPsn 1 = false
    ∧ taking.classify 3 [] = .foreign ∧ ((hosted {} {}).port 3).up = false
    ∧ taking.classify 3 (dataFrame 0) ≠ .foreign := by
  decide +kernel

theorem witness_host_streams_send :
    let par : Parcel := { stream := 0, psn := 5, offset := 0, items := [], data := [], token := 0, jobTag := 0, revision := 3 };
    let due := hosted { up := true } { entry := hostEntry, port := 3, fbSince := some 0 };
    let gap := hosted { up := true } { entry := hostEntry, port := 3, gapAt := some 7 };
    let recs := hosted { up := true } { entry := hostEntry, port := 3, recs := [{ par := par, head := List.replicate 64 0#8, crc := 0 }], lastTx := 2, attempts := 1 };
    let last := hosted { up := true } { entry := hostEntry, port := 3, recs := [{ par := par, head := List.replicate 64 0#8, crc := 0 }], attempts := 2 };
    let down := hosted { since := 4 } { entry := hostEntry, port := 3 };
    let out := hosted { up := true } { entry := hostEntry, port := 3, outQ := [par] };
    let rec_ : HostRec := { par := { par with items := [.mem 0xB0000000 0 4 1 0] }, head := List.replicate 64 0#8, crc := crcOf crc32 [0#8, 0#8, 0#8, 0#8] };
    let again := hosted { up := true } { entry := hostEntry, port := 3, resendQ := [5], recs := [rec_] };
    let sick := { again with poison := [0xB0000000] };
    let other := again.write 0xB0000000 [1#8];
    again.hostOn 3 = [0] ∧ (again.hostOn 3).find? (again.tick 0).mustControl = none ∧ (again.tick 0).resendStream 3 = some 0
    ∧ (again.stream 0).resendQ = [5] ∧ (again.stream 0).recs.find? (fun x => x.par.psn == 5) = some rec_
    ∧ again.held (rec_.par.items.map TxItem.area) = false ∧ rec_.par.items.any (fun y => again.isPoisoned y.area.1 y.area.2) = false
    ∧ crcOf crc32 (rec_.par.items.flatMap again.itemBytes) = rec_.crc ∧ sick.held (rec_.par.items.map TxItem.area) = false
    ∧ (sick.tick 0).resendStream 3 = some 0 ∧ (other.tick 0).resendStream 3 = some 0
    ∧ rec_.par.items.any (fun y => sick.isPoisoned y.area.1 y.area.2) = true
    ∧ crcOf crc32 (rec_.par.items.flatMap other.itemBytes) ≠ rec_.crc
    ∧ (out.hostOn 3).all (fun j => !(out.stream j).due) = true
    ∧ due.dueStream 3 = some 0 ∧ gap.dueStream 3 = none ∧ (due.port 3).up = true
    ∧ eKind (gap.stream (0#14).toNat).entry = kindHost ∧ (gap.stream 0).failed = none ∧ (gap.stream 0).gapAt = some 7
    ∧ (gap.stream 0).gapPsn = (gap.stream 0).rxPsn ∧ (gap.stream 0).gapDue = false
    ∧ 7 + 1000 * gap.obj Reg.hostRetryUs ≤ (gap.tick 100007).upTime (gap.stream 0).port
    ∧ (gap.tick 100006).upTime (gap.stream 0).port < 7 + 1000 * gap.obj Reg.hostRetryUs
    ∧ (recs.stream 0).recs ≠ [] ∧ (recs.stream 0).lastTx + 1000 * recs.obj Reg.hostRetryUs ≤ (recs.tick 100002).upTime (recs.stream 0).port
    ∧ (recs.stream 0).attempts < recs.obj Reg.hostRetryBudget
    ∧ (last.stream 0).recs ≠ [] ∧ (last.stream 0).lastTx + 1000 * last.obj Reg.hostRetryUs ≤ (last.tick 100000).upTime (last.stream 0).port
    ∧ last.obj Reg.hostRetryBudget ≤ (last.stream 0).attempts
    ∧ (recs.tick 100001).upTime (recs.stream 0).port < (recs.stream 0).lastTx + 1000 * recs.obj Reg.hostRetryUs
    ∧ (down.stream 0).port = ePort (down.stream 0).entry ∧ eAltPort (down.stream 0).entry ≠ (down.stream 0).port
    ∧ down.obj Reg.portFailoverMs ≠ 0 ∧ (down.port (down.stream 0).port).up = false
    ∧ (down.port (down.stream 0).port).since + 1000000 * down.obj Reg.portFailoverMs ≤ (down.tick 1000004).now
    ∧ (down.port (eAltPort (down.stream 0).entry)).up = true ∧ (out.port (out.stream 0).port).up = true
    ∧ ((hosted { up := true, ringQ := [[1#8]] } {}).port 3).ringQ = [[1#8]] ∧ (out.port 3).ringQ = []
    ∧ (out.hostOn 3).find? (out.tick 0).mustControl = none ∧ (out.tick 0).resendStream 3 = none ∧ (out.tick 0).nextStream 3 = some (0, 0)
    ∧ (out.stream 0).outQ = [par] := by
  decide +kernel

/-- Ring position 0 of two sites, both ring links as given; channel 8's route has understudies 14 and 15. -/
def ringed (x y : PortSt) (r : RingSt) : State :=
  { runs (allCh chInService ++ [(Reg.ringConfig, 9), (Reg.portConfig 14, 2), (Reg.portConfig 15, 2), (Reg.slotState 0, 0), (Reg.slotState 1, 0)]) []
      [(96, 4, 1), (120, 4, 2)] with ports := [(14, x), (15, y)], ringSt := r }

theorem witness_RingLinksCarryDiversions :
    let s := ringed { up := true, ringUp := true, hellos := 2, helloAt := some 5 } { up := true, ringUp := true } { asked := [(8, 15), (9, 14)] };
    let down := ringed { up := true, hellos := 2 } {} {};
    let off := { s with objs := [(Reg.ringConfig, 0)] };
    let bad := fun (s : State) (v : Byte) => bit v.toNat 0 && (s.portMode 14 != 2 || s.portMode 15 != 2 || bits v.toNat 4 3 == 0
      || decide (bits v.toNat 4 3 + 1 ≤ bits v.toNat 2 1));
    let held := { s with objs := [(Reg.slotState 0, slotActive), (Reg.portConfig 14, 2), (Reg.portConfig 15, 2)] };
    s.answersRequests = true ∧ { held with boot := s.boot }.answersRequests = true ∧ bits (9#8).toNat 7 5 = 0 ∧ bad s 9 = false ∧ bad s 0xF#8 = true ∧ s.anySlot [slotSealed, slotArmed, slotActive] = false
    ∧ bad held 9 = false ∧ held.anySlot [slotSealed, slotArmed, slotActive] = true ∧ s.ringEnabled = true ∧ off.ringEnabled = false
    ∧ down.ringEnabled = true ∧ down.helloOk 14 (5#8).toNat = true ∧ (down.port 14).ringUp = false ∧ (down.port 14).hellos = 2
    ∧ down.helloOk 14 (0#8).toNat = false ∧ (s.port 14).ringUp = true ∧ (down.port 14).up = true ∧ (s.port 14).helloAt.getD 0 + 3000000 ≤ (s.tick 3000005).now
    ∧ s.ringSt.divs.length ≤ 4000 ∧ s.ringUp 14 = true ∧ s.ringUp 15 = true ∧ s.divertUnderstudy 14 8 0 = some 14
    ∧ s.divertUnderstudy 14 0 0 = none ∧ off.ringUp 14 = false := by
  decide +kernel

theorem witness_diversions_are_granted :
    let d : Diversion := { owner := false, wc := 8, port := 14, under := 14, pos := 1, site := 0 };
    let s := ringed { up := true, ringUp := true } { up := true, ringUp := true } { asked := [(8, 15), (9, 14)], divs := [d] };
    let h := fun (o : Fin 4) => ({ rate := 0, wc := 8, owner := o, page := 0, lfn := 0, first := 0, count := 0, members := 0 } : RingBlocksHeader);
    (8, 15) ∈ s.ringSt.asked ∧ (9, 14) ∈ s.ringSt.asked ∧ (8, 14) ∉ s.ringSt.asked ∧ s.ringUp 14 = true ∧ s.ringUp 15 = true
    ∧ s.ownDiversion 10 = none ∧ s.ringSt.asked.any (fun q => q.1 == 10) = false ∧ s.ringSt.asked.any (fun q => q.1 == 8) = true
    ∧ s.ringSt.divs.find? (fun e => e.port == 14 + (0 : Fin 2).val && e.wc == (8 : Fin 32).val && e.pos == (1 : Fin 4).val) = some d
    ∧ s.ringSt.divs.find? (fun e => e.port == 14 + (0 : Fin 2).val && e.wc == (9 : Fin 32).val && e.pos == (1 : Fin 4).val) = none
    ∧ (h 0).owner.val = s.ringPos ∧ (h 1).owner.val ≠ s.ringPos
    ∧ s.ringSt.divs.find? (fun e => !e.owner && e.pos == (h 1).owner.val && e.wc == (h 1).wc.val) = some d
    ∧ d.ending = false
    ∧ { s with ringSt := { divs := [{ d with owner := true, ending := true }] } }.ringSt.divs.find? (fun e => e.port == 14 + (0 : Fin 2).val
      && e.wc == (8 : Fin 32).val && e.pos == (1 : Fin 4).val) = some { d with owner := true, ending := true }
    ∧ tget none { s with foreign := [(14, some { owner := 1, wc := 8 })] }.foreign d.under = some { owner := 1, wc := 8 } := by
  decide +kernel

theorem witness_hellos_run :
    let s := ringed { up := true, hellos := 2, helloAt := some 5 } {} {};
    let sent := ringed {} {} { helloTx := some 7 };
    s.ringEnabled = true ∧ s.ringSt.helloTx = none ∧ sent.ringEnabled = true ∧ sent.ringSt.helloTx = some 7
    ∧ 7 + 1000000 ≤ (sent.tick 1000007).now ∧ (sent.tick 1000006).now < 7 + 1000000
    ∧ (s.port 14).up = true ∧ s.helloOk 14 (5#8).toNat = true ∧ (s.port 14).ringUp = false ∧ (s.port 14).hellos = 2
    ∧ (s.port 14).helloAt = some 5 ∧ (s.tick 3000004).now < 5 + 3000000 ∧ 5 + 3000000 ≤ (s.tick 3000005).now := by
  decide +kernel

/-- The time unit in a state, with what it keeps; sheets and page switches at rest. -/
def timed (x : Nat) (m : TimeSt) (os : Tab Nat) : State :=
  { having (os ++ [(Reg.timeState, x), (Reg.timeMode, modeReference), (Reg.slotState 0, 0), (Reg.slotState 1, 0), (Reg.pageSwitchState, pageIdle),
      (Reg.refConfig, 1), (Reg.todNextPps, 7), (Reg.jumpHoldoverS, 3)]) with tm := m }

theorem witness_TheTimeUnitGoesThroughItsStates :
    let s := timed tmFree {} [];
    let busy := timed tmLocked {} [(Reg.slotState 0, slotArmed)];
    let acq := timed tmAcquiring { acqSamples := [4, -2, 9], acqFrom := 5, usableAt := 900000000 } [];
    let gap := fun (s : State) => if s.timeMode = modeReference then 1100000000 else 100000000;
    let set := timed tmSettling { nearFrom := some 6, usableAt := 9500000000 } [];
    let jump := timed tmLocked { refusedFrom := some 2, usableAt := 3000000002 } [];
    s.answersRequests = true ∧ busy.answersRequests = true ∧ acq.answersRequests = true ∧ (2#8).toNat ≤ 2 ∧ s.servoBusy = false ∧ busy.servoBusy = true ∧ 2 < (3#8).toNat ∧ acq.timeState ≠ tmFree ∧ acq.servoBusy = false
    ∧ s.timeMode = modeReference ∧ bit (s.obj Reg.refConfig) 0 = true ∧ s.obj Reg.todNextPps ≠ 0 ∧ s.tm.ppsAt = none ∧ s.timeState = tmFree
    ∧ (timed tmFree {} [(Reg.timeMode, modeLine)]).timeMode ≠ modeReference
    ∧ acq.timeState = tmAcquiring ∧ acq.tm.acqSamples ≠ [] ∧ acq.tm.acqFrom + 1000000000 ≤ (acq.tick 1000000005).now
    ∧ ¬ acq.tm.usableAt + gap acq ≤ (acq.tick 1000000005).now ∧ acq.tm.usableAt + gap acq ≤ (acq.tick 2000000000).now
    ∧ ¬ set.tm.usableAt + gap set ≤ (set.tick 10000000006).now ∧ set.tm.usableAt + gap set ≤ (set.tick 10600000000).now
    ∧ (acq.tick 1000000004).now < acq.tm.acqFrom + 1000000000
    ∧ set.tm.nearFrom = some 6 ∧ set.timeState = tmSettling ∧ 6 + 10000000000 ≤ (set.tick 10000000006).now
    ∧ (set.tick 10000000005).now < 6 + 10000000000
    ∧ busy.tm.usableAt + 100000000 ≤ (busy.tick 100000000).now ∧ busy.timeState = tmLocked ∧ acq.timeMode ≠ modeLine
    ∧ (busy.tick 99999999).now < busy.tm.usableAt + 100000000 ∧ busy.tm.refusedFrom = none
    ∧ (let tenMhz := timed tmFree {} [(Reg.refConfig, 3), (Reg.timeStatus, 0), (Reg.todNextPps, 0)];
      tenMhz.timeMode = modeReference ∧ bit (tenMhz.obj Reg.refConfig) 0 = true ∧ bit (tenMhz.obj Reg.refConfig) 1 = true
        ∧ bit (tenMhz.obj Reg.timeStatus) 4 = false ∧ (50000 : Int).natAbs ≤ 50000 ∧ tenMhz.obj Reg.todNextPps = 0)
    ∧ bit ((timed tmFree {} [(Reg.refConfig, 2)]).obj Reg.refConfig) 0 = false ∧ jump.timeState = tmLocked ∧ jump.tm.refusedFrom = some 2
    ∧ 2 + 1000000000 * jump.obj Reg.jumpHoldoverS ≤ (jump.tick 3000000002).now ∧ s.timeState ≠ tmSettling ∧ s.timeState ≠ tmLocked := by
  decide +kernel

theorem witness_EstimatesTouchAndScoresAct :
    let s := { timed tmLocked { routeOff := [(5, some 3)] } [(Reg.routeDisagree 1, 0), (Reg.timeMode, modeLine)] with scores := [(element 2 3, 70)] };
    let on := timed tmLocked { routeOn := [(5, some 3)] } [(Reg.routeDisagree 1, 2)];
    let calm := timed tmLocked {} [(Reg.routeDisagree 1, 0)];
    let lost := { runs [(Reg.touchHoldoffMs, 4)] [] [] with site := { lost := 2, evidenceAt := [(1, 9)] } };
    let noisy := { s with defects := { laneSer := [⟨27, 24001⟩] } };
    (s.tick 0).net / 1000000000 = s.defects.lastDecay ∧ (s.tick 1000000000).net / 1000000000 ≠ s.defects.lastDecay
    ∧ s.defects.laneSer = [] ∧ (noisy.tick 1000000000).net / 1000000000 ≠ noisy.defects.lastDecay
    ∧ noisy.defects.laneSer = [⟨27, 24001⟩] ∧ noisy.obj Reg.laneDegradeSer < 10 * (⟨27, 24001⟩ : LaneRatio).ser
    ∧ (∀ f : Fin 8, s.routeEstimates f = []) ∧ s.timeMode = modeLine
    ∧ bit (s.obj (Reg.routeDisagree 1)) 1 = false ∧ tget none s.tm.routeOff (4 * (1 : Fin 8).val + (1 : Fin 4).val) = some 3
    ∧ 3 + 10000000000 ≤ (s.tick 10000000003).now ∧ bit (on.obj (Reg.routeDisagree 1)) 1 = true
    ∧ tget none on.tm.routeOn (4 * (1 : Fin 8).val + (1 : Fin 4).val) = some 3
    ∧ bit (calm.obj (Reg.routeDisagree 1)) 1 = false ∧ tget none calm.tm.routeOff (4 * (1 : Fin 8).val + (1 : Fin 4).val) = none
    ∧ lost.active = some 0 ∧ bit lost.site.lost 1 = true ∧ bit lost.site.outOfTouch 1 = false
    ∧ tget 0 lost.site.evidenceAt (1 : Fin 8).val + 1000000 * lost.touchHoldoff 0 1 ≤ (lost.tick 4000009).now
    ∧ (lost.tick 4000008).now < tget 0 lost.site.evidenceAt (1 : Fin 8).val + 1000000 * lost.touchHoldoff 0 1
    ∧ (1 : Fin 8).val ≠ hSite (lost.hdr 0) ∧ (element 2 3, 70) ∈ s.scores ∧ s.scores = [(element 2 3, 70)] := by
  decide +kernel

theorem witness_an_estimate :
    let s := { runs [(Reg.asymmetryPs 1 1, 0)] [] [(96, 4, 5)] with chans := [(8, { ttCount := 1, ttSum := 6, ttDiff := 2 })] };
    s.routeEstimates 0 = [] ∧ s.routeEstimates 1 ≠ [] := by
  decide +kernel

theorem witness_StateStepSetClearsTheAppliedMap :
    (having [(Reg.cueEngineState, engIdle)]).engState ≠ engRunning ∧ (having [(Reg.cueEngineState, engIdle)]).engState ≠ engParked
    ∧ (having [(Reg.cueEngineState, engParked)]).engState = engParked := by
  decide +kernel

theorem witness_starts_are_kept :
    let s := timed tmFree {} [(Reg.moduleState, modIntermission)];
    let fall := timed tmFree {} [(Reg.refConfig, 17)];
    s.answersRequests = true ∧ s.servoBusy = false ∧ s.asleep = true ∧ s.boot.atExit = [] ∧ (timed tmFree {} []).asleep = false
    ∧ (timed tmLocked {} [(Reg.slotState 0, slotArmed)]).asleep = false
    ∧ bit (fall.obj Reg.refConfig) 4 = true ∧ bit (fall.obj Reg.refConfig) 0 = true ∧ bit ((timed tmFree {} []).obj Reg.refConfig) 4 = false := by
  decide +kernel

/-- A module whose management controller runs, bus address 2, link addresses all zero, session 1 at HSN 20. -/
def managed (cache : List CacheEntry) : State :=
  { having [(Reg.busAddress, 2), (Reg.acceptedHsn 1, 20), (Reg.mgmtMac, 0), (Reg.mgmtIpv6, 0), (Reg.jdpUdpPort, 0xB4E5), (Reg.moduleState, modReady)] with
    boot := { mgmtUp := true }, jdp1 := { cache := cache } }

/-- A request PDU of one READ of object 0x1001.01, with its check. -/
def readPdu (flags hsn : Nat) : List Byte :=
  let b := [1#8, 1#8] ++ bytesBE 1 flags ++ [1#8] ++ bytesBE 4 hsn ++ bytesBE 4 0 ++ bytesBE 2 40 ++ List.replicate 10 0#8
    ++ [1#8, 1#8] ++ bytesBE 2 0x1001 ++ bytesBE 4 0 ++ bytesBE 2 4 ++ bytesBE 2 0
  b ++ pduCrc b

/-- A bus frame to address 2. -/
def busFrame (pdu : List Byte) : List Byte := [0x7E#8, 2#8] ++ escapeBus pdu ++ [0x7E#8]

/-- A UDP datagram from port 9 to the module, both of link addresses 0. -/
def datagram (pdu : List Byte) : List Byte :=
  let z := List.replicate 16 0#8
  let h := bytesBE 2 9 ++ bytesBE 2 0xB4E5 ++ bytesBE 2 (8 + pdu.length)
  List.replicate 12 0#8 ++ [0x86#8, 0xDD#8] ++ bytesBE 4 (6 * 2 ^ 28) ++ bytesBE 2 (8 + pdu.length) ++ [17#8, 64#8] ++ z ++ z ++ h
    ++ bytesBE 2 (udpChecksum z z (h ++ [0#8, 0#8] ++ pdu)) ++ pdu

theorem witness_RequestsAreAnsweredInSequence :
    let req := fun (flags hsn : Nat) => ({ flags := flags, hsn := hsn, crc := ofBytesBE ((readPdu flags hsn).drop 36), ops := [{ op := opRead, sub := 1, idx := 0x1001, off := 0, len := 4, data := [] }] } : JdpReq);
    let e : CacheEntry := { hsn := 20, reqCrc := (req 0 20).crc, pdu := [], summary := 0 };
    let s := managed [e];
    let young := { s with boot := {} };
    s.answersRequests = true ∧ requestAt (.safeRequest 7 1#8) = some 7 ∧
    young.answersRequests = false ∧ s.inReset = false ∧ s.extest = false ∧ s.boot.mgmtUp = true ∧ s.boot.resetDue = false
    ∧ { s with pins := { resetN := false } }.inReset = true ∧ s.busPdu [0x7E#8] = none ∧ parsePacket [] = none
    ∧ young.inReset = false ∧ young.extest = false ∧ young.busPdu (busFrame [1#8]) = some (some [1#8]) ∧ young.boot.mgmtUp = false
    ∧ s.busPdu (busFrame [1#8]) = some (some [1#8]) ∧ parsePdu [1#8] = none
    ∧ s.busPdu (busFrame (readPdu 2 0)) = some (some (readPdu 2 0)) ∧ parsePdu (readPdu 2 0) = some (req 2 0) ∧ (req 2 0).sync = true
    ∧ (req 2 0).ops.all (fun o => o.op == opRead) = true
    ∧ s.busPdu (busFrame (readPdu 0 21)) = some (some (readPdu 0 21)) ∧ parsePdu (readPdu 0 21) = some (req 0 21) ∧ (req 0 21).sync = false
    ∧ (req 0 21).hsn = (s.obj (Reg.acceptedHsn 1) + 1) % 2 ^ 32
    ∧ parsePdu (readPdu 0 20) = some (req 0 20) ∧ (req 0 20).hsn ≠ (s.obj (Reg.acceptedHsn 1) + 1) % 2 ^ 32
    ∧ (s.obj (Reg.acceptedHsn 1) + 2 ^ 32 - (req 0 20).hsn) % 2 ^ 32 < 8
    ∧ (s.session 1).cache.find? (fun x => x.hsn == (req 0 20).hsn) = some e ∧ e.reqCrc = (req 0 20).crc
    ∧ parsePdu (readPdu 0 12) = some (req 0 12) ∧ (req 0 12).hsn ≠ (s.obj (Reg.acceptedHsn 1) + 1) % 2 ^ 32
    ∧ 8 ≤ (s.obj (Reg.acceptedHsn 1) + 2 ^ 32 - (req 0 12).hsn) % 2 ^ 32 := by
  decide +kernel

theorem witness_request_over_ethernet :
    let s := managed [];
    let p : Packet := { dstMac := List.replicate 6 0#8, srcMac := List.replicate 6 0#8, src := List.replicate 16 0#8, dst := List.replicate 16 0#8, next := 17, hops := 64, payload := (datagram (readPdu 2 0)).drop 54 };
    parsePacket (datagram (readPdu 2 0)) = some p ∧ s.pduOf p = some (9, readPdu 2 0) ∧ (parsePdu (readPdu 2 0)).isSome = true := by
  decide +kernel

/-- An ICMPv6 packet to the module whose checksum field is ck. -/
def icmpPacket (ty ck : Nat) (hops : Byte) : List Byte :=
  List.replicate 12 0#8 ++ [0x86#8, 0xDD#8] ++ bytesBE 4 (6 * 2 ^ 28) ++ bytesBE 2 24 ++ [58#8, hops] ++ List.replicate 32 0#8
    ++ bytesBE 1 ty ++ [0#8] ++ bytesBE 2 ck ++ List.replicate 20 0#8

theorem witness_neighbour_messages :
    let s := managed [];
    let z := List.replicate 16 0#8;
    let p := fun (ty ck : Nat) (h : Byte) => ({ dstMac := List.replicate 6 0#8, srcMac := List.replicate 6 0#8, src := z, dst := z, next := 58, hops := h.toNat, payload := (icmpPacket ty ck h).drop 54 } : Packet);
    let ck := fun (ty : Nat) => 0xFFFF - (24 + 58 + 256 * ty);
    parsePacket (icmpPacket 135 (ck 135) 255#8) = some (p 135 (ck 135) 255#8) ∧ (p 135 (ck 135) 255#8).next = 58
    ∧ icmpSum z z (p 135 (ck 135) 255#8).payload = 0xFFFF ∧ (p 135 (ck 135) 255#8).dstMac = s.macBytes ∧ z = s.ipBytes
    ∧ 8 ≤ (p 135 (ck 135) 255#8).payload.length ∧ slice (p 135 (ck 135) 255#8).payload 0 2 = [135#8, 0#8] ∧ (p 135 (ck 135) 255#8).hops = 255
    ∧ slice (p 135 (ck 135) 255#8).payload 8 16 = s.ipBytes
    ∧ parsePacket (icmpPacket 128 (ck 128) 9#8) = some (p 128 (ck 128) 9#8) ∧ icmpSum z z (p 128 (ck 128) 9#8).payload = 0xFFFF
    ∧ slice (p 128 (ck 128) 9#8).payload 0 2 = [128#8, 0#8]
    ∧ parsePacket (icmpPacket 1 (ck 1) 9#8) = some (p 1 (ck 1) 9#8) ∧ icmpSum z z (p 1 (ck 1) 9#8).payload = 0xFFFF
    ∧ slice (p 1 (ck 1) 9#8).payload 0 2 ≠ [135#8, 0#8] ∧ slice (p 1 (ck 1) 9#8).payload 0 2 ≠ [128#8, 0#8] := by
  decide +kernel

/-- Check-value unit 3 over a register of width w, configured as given, the scan range at a. -/
def checking (w a n : Nat) (c : CvSt) : State :=
  { having [(Reg.cvConfig 3, 7 + 2 ^ 192 * w), (Reg.cvRunning 3, 5), (Reg.scanStart 3, a), (Reg.scanLength 3, n), (Reg.moduleState, modReady),
      (Reg.activeSlot, 0xFF)] with cvs := [(3, c)], poison := [0xB0000000] }

theorem witness_CheckValueConfigurationWritesAreChecked :
    let s := checking 32 0 64 {};
    let busy := checking 32 0 64 { scanning := true };
    let v := fun (w poly : Nat) => (BitVec.ofNat 256 (poly + 2 ^ 192 * w)).toNat;
    let f := fun (x : Nat) => decide ((cvCfg x).poly < 2 ^ (cvCfg x).width ∧ (cvCfg x).init < 2 ^ (cvCfg x).width
      ∧ (cvCfg x).xorout < 2 ^ (cvCfg x).width);
    s.answersRequests = true ∧ busy.answersRequests = true ∧ bits (BitVec.ofNat 256 (2 ^ 201)).toNat 255 201 ≠ 0 ∧ bits (v 8 255) 255 201 = 0 ∧ 8 ≤ (cvCfg (v 8 255)).width ∧ (cvCfg (v 8 255)).width ≤ 64
    ∧ f (v 8 255) = true ∧ s.cvBusy 3 = false ∧ busy.cvBusy 3 = true ∧ bits (v 7 0) 255 201 = 0 ∧ (cvCfg (v 7 0)).width < 8
    ∧ 64 < (cvCfg (v 65 0)).width ∧ bits (v 8 256) 255 201 = 0 ∧ f (v 8 256) = false ∧ 8 ≤ (cvCfg (v 8 256)).width
    ∧ (cvCfg (v 8 256)).width ≤ 64 := by
  decide +kernel

theorem witness_CheckValueUnitsScanAndRecord :
    let s := checking 8 0 0xA0000000 {};
    let busy := checking 8 100 300 { scanning := true };
    let bad := checking 8 0xAFFFFFC0 300 { scanning := true };
    let stop := fun (s : State) (k : Nat) => (s.obj (Reg.scanStart 3) / 64 + k + 1) * 64;
    let gone := { busy with objs := (Reg.hubLinkState, 0) :: busy.objs };
    s.answersRequests = true ∧ busy.answersRequests = true ∧ bad.answersRequests = true
    ∧ (checking 8 0 0xA0000001 {}).answersRequests = true ∧ (checking 8 0 0xA0000001 {}).asleep = false ∧ busy.held [(100, 300)] = false ∧ bad.held [(0xAFFFFFC0, 300)] = false ∧ gone.held [(100, 300)] = true
    ∧ (255#64).toNat < 2 ^ (cvCfg (s.obj (Reg.cvConfig 3))).width ∧ 2 ^ (cvCfg (s.obj (Reg.cvConfig 3))).width ≤ (256#64).toNat
    ∧ s.cvBusy 3 = false ∧ s.cvHolds 3 = false ∧ busy.cvBusy 3 = true ∧ s.asleep = false ∧ busy.asleep = false
    ∧ scannable (s.obj (Reg.scanStart 3)) (s.obj (Reg.scanLength 3)) = true ∧ scannable (busy.obj (Reg.scanStart 3)) (busy.obj (Reg.scanLength 3)) = true
    ∧ scannable ((checking 8 0 0xA0000001 {}).obj (Reg.scanStart 3)) ((checking 8 0 0xA0000001 {}).obj (Reg.scanLength 3)) = false
    ∧ (busy.cv 3).scanning = true ∧ stop busy 4 < busy.obj (Reg.scanStart 3) + busy.obj (Reg.scanLength 3)
    ∧ busy.poisoned (busy.obj (Reg.scanStart 3)) (stop busy 4 - busy.obj (Reg.scanStart 3)) = []
    ∧ bad.asleep = false ∧ (bad.cv 3).scanning = true ∧ stop bad 1 < bad.obj (Reg.scanStart 3) + bad.obj (Reg.scanLength 3)
    ∧ (bad.poisoned (bad.obj (Reg.scanStart 3)) (stop bad 1 - bad.obj (Reg.scanStart 3))).head? = some 0xB0000000
    ∧ busy.poisoned (busy.obj (Reg.scanStart 3)) (busy.obj (Reg.scanLength 3)) = []
    ∧ (bad.poisoned (bad.obj (Reg.scanStart 3)) (bad.obj (Reg.scanLength 3))).head? = some 0xB0000000 ∧ (s.cv 3).scanning = false := by
  decide +kernel

theorem witness_WritesAreResolvedInOrder :
    let is := fun (o : Nat) (p : ObjRow → Bool) => match dictFind o with
      | some r => !r.dom && decide (0 < r.size) && decide (r.size ≤ 1408) && p r
      | none => false;
    dictFind (0xFFFF * 256 + 1) = none ∧ (1#8 : Byte) ≠ 0#8 ∧ is Reg.relockHoldMs (fun r => r.size == 2 && r.acc != .ro && r.acc != .rl) = true
    ∧ [1#8].length ≠ 2 ∧ is Reg.moduleState (fun r => r.acc == .ro) = true ∧ (having [(Reg.busWriteEnable, 0)]).obj Reg.busWriteEnable = 0
    ∧ (having [(Reg.busWriteEnable, 0)]).answersRequests = true := by
  decide +kernel

theorem witness_RangedObjectsTakeTheirRange :
    ofBytesBE [0#8, 9#8] < 10 ∧ 10 ≤ ofBytesBE [0#8, 10#8] ∧ ofBytesBE [0x27#8, 0x10#8] ≤ 10000 ∧ 10000 < ofBytesBE [0x27#8, 0x11#8]
    ∧ [0x27#8, 0x11#8].length = 2 ∧ ofBytesBE [0#8, 0#8, 0x27#8, 0x10#8] ≤ 10000 ∧ 0 ≤ ofBytesBE [0#8, 0#8, 0#8, 0#8]
    ∧ 7 < ofBytesBE [8#8] ∧ ofBytesBE [7#8] ≤ 7 := by
  decide +kernel

theorem witness_ranges_are_resolved :
    let s := managed [];
    let locked := { s with objs := (Reg.busWriteEnable, 0) :: s.objs };
    let row := fun (o n : Nat) (a : Access) => match dictFind o with
      | some r => r.dom && r.size == n && r.acc == a
      | none => false;
    s.answersRequests = true ∧ locked.answersRequests = true ∧ locked.obj Reg.busWriteEnable = 0 ∧ dictIndexExists 0xFFFF = false
    ∧ dictIndexExists 0x1000 = true ∧ row (0x3111 * 256 + 1) 256 .rw = true ∧ ¬ 256 + [1#8].length ≤ 256 ∧ 255 + [1#8].length ≤ 256
    ∧ row (0x4010 * 256 + 1) 64 .wo = true ∧ [1#8].length ≠ 64 ∧ row (0x5100 * 256 + 4) 0 .wo = true
    ∧ row (0x3311 * 256 + 1) 16 .ro = true ∧ row (0x3313 * 256 + 1) 16 .rl = true := by
  decide +kernel

theorem witness_awake_objects_are_kept :
    let s := { managed [] with objs := (Reg.moduleState, modIntermission) :: (managed []).objs };
    s.answersRequests = true ∧ s.asleep = true ∧ (managed []).asleep = false
    ∧ [Reg.jumpThresholdNs, Reg.jumpHoldoverS, Reg.servoBandwidthMhz].contains Reg.jumpThresholdNs = true
    ∧ [Reg.jumpThresholdNs, Reg.jumpHoldoverS, Reg.servoBandwidthMhz].contains Reg.scrubPeriodH = false := by
  decide +kernel

/-- A module in a state of Table 20.1, with what power-up and the Intermission keep. -/
def inState (x : Nat) (b : BootSt) (os : Tab Nat) : State :=
  { having (os ++ [(Reg.moduleState, x), (Reg.slotState 0, 0), (Reg.slotState 1, 0), (Reg.pageSwitchState, 0), (Reg.lastResetCause, 1),
      (Reg.rehearsalResult, 0)]) with boot := b }

theorem witness_EveryResetKindClearsTheModule :
    let s := inState modReady {} [];
    let up := inState modReady { mgmtUp := true } [];
    up.answersRequests = true ∧ s.inReset = false ∧ 10000 ≤ 10000 ∧ 999 < 1000 ∧ (0xA6#32 : Word32) ≠ 0x000000A5#32 ∧ s.pins.pwrGood = true
    ∧ s.obj Reg.lastResetCause < 256 := by
  decide +kernel

theorem witness_PowerUpReachesRehearsal :
    let s := { inState modPowerUp {} [] with pins := { resetN := false, pwrGood := true } };
    let a := inState modPowerUp {} [];
    let b := inState modPowerUp { bootDrawn := true } [];
    let c := inState modPowerUp { bootDrawn := true, mgmtUp := true, coreUp := true, released := 7 } [];
    let d := inState modPowerUp { bootDrawn := true, mgmtUp := true, coreUp := true, linksUp := true, released := 7 } [];
    let r := inState modExiting { woken := true, exitAt := 7 } [];
    r.retraining = true ∧ r.boot.exitAt + 32000000 ≤ (r.tick 32000007).now ∧ r.boot.exitAt + 44000000 ≤ (r.tick 44000007).now
    ∧ (r.tick 32000006).now < r.boot.exitAt + 32000000 ∧ c.retraining = false
    ∧ s.pins.resetN = false ∧ s.pins.pwrGood = true ∧ s.ring.length ≤ 4000 ∧ s.boot.held = false ∧ a.inReset = false ∧ a.boot.bootDrawn = false
    ∧ b.inReset = false ∧ b.boot.bootDrawn = true ∧ b.boot.mgmtUp = false ∧ b.modState = modPowerUp ∧ c.training = true
    ∧ c.boot.linksUp = false ∧ d.training = true ∧ d.boot.linksUp = true ∧ c.boot.released + 90000000 ≤ (c.tick 90000007).now
    ∧ d.boot.released + 120000000 ≤ (d.tick 120000007).now ∧ (c.tick 90000006).now < c.boot.released + 90000000 := by
  decide +kernel

theorem witness_RehearsalEndsInReadyOrSafe :
    let s := inState modRehearsal {} [];
    s.inReset = false ∧ s.modState = modRehearsal ∧ s.failedItems = 0 ∧ (12 : Fin 13).val ∈ [0, 1, 2, 5, 8, 9, 12] := by
  decide +kernel

theorem witness_SafeStateIsEntered :
    let s := inState modReady { hotFrom := some 3 } [];
    let up := { mgmtUp := true };
    let mid := inState modRehearsal up [(Reg.rehearsalResult, 2 ^ 80)];
    (inState modPowerUp up []).answersRequests = true ∧ mid.answersRequests = true ∧ (inState modSafe up []).answersRequests = true
    ∧ (inState modExiting up []).answersRequests = true ∧ mid.modState = modRehearsal
    ∧ mid.outcome = 1
    ∧ (inState modPowerUp up []).modState = modPowerUp ∧ (inState modSafe up []).modState = modSafe ∧ (inState modExiting up []).asleep = true
    ∧ (2#8 : Byte) ≠ 1#8 ∧ s.boot.hotFrom = some 3 ∧ 3 + 1000000 ≤ (s.tick 1000003).now ∧ s.inReset = false ∧ s.modState = modReady
    ∧ (inState modReady {} []).boot.hotFrom = none := by
  decide +kernel

theorem witness_IntermissionIsRequested :
    let up : BootSt := { mgmtUp := true };
    let s := inState modReady up [];
    (inState modSafe up []).answersRequests = true ∧ s.answersRequests = true
    ∧ (inState modReady up [(Reg.slotState 1, slotArmed)]).answersRequests = true
    ∧ (inState modReady up [(Reg.pageSwitchState, 1)]).answersRequests = true ∧ { s with cvs := [(7, { scanning := true })] }.answersRequests = true
    ∧ (inState modIntermission up []).answersRequests = true
    ∧ (inState modSafe up []).modState ≠ modReady ∧ s.modState = modReady ∧ (inState modReady up [(Reg.slotState 1, slotArmed)]).anySlot [slotArmed, slotActive] = true
    ∧ (inState modReady up [(Reg.pageSwitchState, 1)]).obj Reg.pageSwitchState ≠ 0
    ∧ ({ s with cvs := [(7, { scanning := true })] }.cv 7).scanning = true
    ∧ s.anySlot [slotArmed, slotActive] = false ∧ s.obj Reg.pageSwitchState = 0 ∧ (∀ u : Fin 8, (s.cv u).scanning = false)
    ∧ (inState modIntermission up []).modState = modIntermission ∧ (inState modIntermission up []).boot.woken = false
    ∧ s.modState ≠ modIntermission ∧ s.modState ≠ modEntering := by
  decide +kernel

theorem witness_IntermissionEntryAndExitComplete :
    let s := inState modEntering { enterAt := 4 } [];
    let w := inState modEntering { enterAt := 4, woken := true } [];
    let x := inState modExiting { exitAt := 4 } [];
    s.modState = modEntering ∧ s.boot.enterAt + 14000000 ≤ (s.tick 14000004).now ∧ s.boot.woken = false ∧ s.memSt.stores = []
    ∧ s.memSt.deferred = [] ∧ w.modState = modEntering
    ∧ w.boot.woken = true ∧ w.boot.enterAt + 14000000 ≤ (w.tick 14000004).now ∧ x.modState = modExiting
    ∧ x.boot.exitAt + 26000000 ≤ (x.tick 26000004).now ∧ x.modState ≠ modEntering ∧ s.modState ≠ modExiting := by
  decide +kernel

theorem witness_WakeDetectionFollowsItsSamples :
    let w : WakeCfg := { period := 10, enable := 5, threshold := -60, patterns := 4, channels := 2 ^ 9, ports := 0 };
    let x := fun (p : Int) => ({ rxCdbm := List.replicate 32 p, lanes := 0#144 } : WakeSample);
    let e := inState modEntering { enterAt := 1, wake := w } [];
    let s := inState modIntermission { windowAt := 2, wake := w, lastCh := 2 ^ 9 } [];
    e.modState = modEntering ∧ e.boot.baseTaken = false ∧ e.boot.enterAt + 500000 ≤ (e.tick 500001).now
    ∧ s.modState = modIntermission ∧ s.boot.woken = false ∧ s.boot.windowAt + 1000000 * s.boot.wake.period ≤ (s.tick 10000002).now
    ∧ (∀ c : Fin 32, bit s.boot.wake.channels c = true → (x (-3000)).rxCdbm.getD c (-100000) ≤ 50 * s.boot.wake.threshold)
    ∧ (x (-3000)).lanes = 0#144 ∧ bit s.boot.wake.enable 0 = true ∧ bit s.boot.wake.channels 9 = true ∧ bit s.boot.blockedCh 9 = false
    ∧ bit s.boot.lastCh 9 = true ∧ 50 * s.boot.wake.threshold < (x (-2999)).rxCdbm.getD 9 (-100000)
    ∧ (∀ d : Fin 32, d < 9 → bit s.boot.lastCh d = false) ∧ bit s.boot.wake.patterns 2 = true ∧ bit s.boot.wake.enable 2 = true
    ∧ (inState modSafe {} []).modState = modSafe := by
  decide +kernel

theorem witness_RailsAndBoundaryScanAct :
    (7 : Fin 14).val + 1 ∈ [2, 4, 5, 6, 7, 8] ∧ (inState modReady {} []).inReset = false ∧ (inState modReady {} []).asleep = false
    ∧ (inState modExiting {} []).asleep = true ∧ (10 : Fin 14).val + 1 ∈ [3, 9, 10, 11]
    ∧ (4#8 : Byte).toNat = 0x04 ∧ (inState modSafe {} []).modState = modSafe ∧ (inState modReady {} []).modState ≠ modSafe
    ∧ 0x05 ≤ (5#8 : Byte).toNat := by
  decide +kernel

theorem witness_AStepRunsTheFrontCommand : State.reset.pending = [] := by decide +kernel

theorem witness_EveryStepKeepsMemoryObjectsAndRing :
    let s := { State.reset with pending := [.powerOnReset 0] };
    s.MemOk ∧ (∀ o, s.obj o < 2 ^ objBits o) ∧ s.ring.length ≤ 4096 ∧ ∃ s', step s = .next s' :=
  ⟨rfl, fun o => objReset_lt o, Nat.zero_le _, _, rfl⟩

theorem witness_rehearsal_findings :
    let s := inState modRehearsal {} [];
    let lanes := (setBitsOf 16 (3#16).toNat).length;
    s.inReset = false ∧ s.modState = modRehearsal ∧ s.failedItems = 0 ∧ bits (s.obj Reg.rehearsalResult) 79 16 = 0
    ∧ lanes ≤ 2 ∧ 3 ≤ (setBitsOf 16 (7#16).toNat).length ∧ (3#16) ≠ 0 ∧ (1#10 : BitVec 10) ≠ 0
    ∧ (setBitsOf 10 (1#10).toNat).length ≤ 1 ∧ (setBitsOf 10 (0#10).toNat).length ≤ 1 ∧ 2 ≤ (setBitsOf 10 (3#10).toNat).length := by
  decide +kernel

theorem witness_stored_writes_act :
    let x := fun (l : List (Nat × Nat)) => inState modExiting { exitAt := 4, atExit := l } [];
    (x []).boot.exitAt + 26000000 ≤ ((x []).tick 26000004).now ∧ (x []).modState = modExiting ∧ (x []).boot.atExit = []
    ∧ (x [(Reg.jumpThresholdNs, 50)]).boot.atExit = [(Reg.jumpThresholdNs, 50)] ∧ 50 ≤ 50 ∧ 50 ≤ 100000
    ∧ (x [(Reg.timeMode, 1)]).boot.atExit = [(Reg.timeMode, 1)] ∧ (x [(Reg.timeMode, 1)]).servoBusy = false := by
  decide +kernel

theorem witness_host_signal_wakes :
    let w : WakeCfg := { period := 10, enable := 2, threshold := -60, patterns := 0, channels := 0, ports := 2 ^ 5 };
    let s := inState modIntermission { windowAt := 2, wake := w, lastPorts := 2 ^ 5 } [];
    let lit : BitVec 144 := 0xFF <<< 45;
    let quiet := inState modIntermission { windowAt := 2, wake := w } [];
    s.modState = modIntermission ∧ s.boot.woken = false ∧ s.boot.windowAt + 1000000 * s.boot.wake.period ≤ (s.tick 10000002).now
    ∧ bit s.boot.wake.enable 1 = true ∧ bit s.boot.wake.ports 5 = true ∧ bit s.boot.blockedPorts 5 = false ∧ bit s.boot.lastPorts 5 = true
    ∧ (∀ i < 8, lit.getLsbD (9 * 5 + i) = true) ∧ (∀ d : Fin 16, d < 5 → bit s.boot.lastPorts d = false)
    ∧ bit s.boot.wake.enable 0 = false ∧ (∀ c : Fin 32, bit s.boot.lastCh c = false)
    ∧ bit quiet.boot.lastPorts 5 = false ∧ (∀ d : Fin 16, d ≠ 5 → bit quiet.boot.lastPorts d = false)
    ∧ (0#144).getLsbD 45 = false ∧ (∀ d : Fin 16, d ≠ 5 → bit s.boot.lastPorts d = false) := by
  decide +kernel

theorem witness_taps_and_rails :
    let s := inState modReady {} [];
    let low := { s with pins := { s.pins with resetN := false } };
    let at_ := fun (n : Nat) => { s with pins := { s.pins with tap := n } };
    s.pins.pwrGood = true ∧ s.boot.held = false ∧ low.pins.pwrGood = true ∧ low.boot.held = false
    ∧ ({ s with pins := { s.pins with pwrGood := false } }).pins.pwrGood = false ∧ (inState modReady { held := true } []).boot.held = true
    ∧ (at_ 2).pins.tap = 0x02 ∧ (at_ 0).pins.tap ∈ [0x00, 0x03, 0x04] ∧ (at_ 1).pins.tap = 0x01 ∧ (at_ 0xFF).pins.tap = 0xFF
    ∧ (List.replicate 32 false).length = 32 := by
  decide +kernel

/-- EXTEST cells shifted from an all-ones register reach the pins at once (R465). -/
theorem test_extest_scan :
    let s := { inState modSafe {} [] with pins := { tap := 0, boundary := 0 } };
    let x := s.drScan { levels := 1, tdi := [false, false, true] };
    x.pins.boundary.getLsbD 500 = true ∧ (∀ i < 498, x.pins.boundary.getLsbD i = false)
    ∧ x.out.head? = some (.tdo [true, false, false]) := by
  decide +kernel

/-! ### Ill-formed commands are refused -/

theorem test_wf_registerWrite : Instr.wf (.registerWrite 0 0 0 0 0 []) = false := by decide
theorem test_wf_sheetDataWrite : Instr.wf (.sheetDataWrite 0 0 []) = false := by decide
theorem test_wf_controlTick : Instr.wf (.controlTick 0 calm ⟨0, [], [], [], 0, 0, [], [], [], none⟩) = false := by decide
theorem test_wf_cueDispatch : Instr.wf (.cueDispatch 0 0 [⟨0, 0, 1, 5, 5, 0, 0⟩] []) = false := by decide
theorem test_wf_relockSweepDone : Instr.wf (.relockSweepDone 0 0 []) = false := by decide
theorem test_wf_calibrationEnd : Instr.wf (.calibrationEnd 0 0 (List.replicate 4 ⟨[], 0, 0⟩)) = false := by decide
theorem test_wf_rehearsalDone : Instr.wf (.rehearsalDone 0 ⟨0, 0, 0, [], 0, 0, 0, 0, 0, 0⟩) = false := by decide
theorem test_wf_wakeSampleWindow : Instr.wf (.wakeSampleWindow 0 ⟨[], 0⟩) = false := by decide
theorem test_wf_blockDecode : Instr.wf (.blockDecode 0 0 (some [])) = false := by decide
theorem test_wf_damageRefetch : Instr.wf (.damageRefetch 0 0 (some [])) = false := by decide
theorem test_wf_lineFrameRx : Instr.wf (.lineFrameRx 0 0 ⟨[], 0⟩ ⟨[], [], []⟩) = false := by decide
theorem test_wf_pageWrite : Instr.wf (.pageWrite 0 .lineGroups 0 (2 ^ 2048)) = false := by decide +kernel
theorem test_wf_defectSample : Instr.wf (.defectSample 0 []) = false := by decide
theorem test_wf_lineParcelRx : Instr.wf (.lineParcelRx 0 0 ⟨[], []⟩) = false := by decide
theorem test_wf_abandon : Instr.wf (.abandon 0 0 0 0 [0, 0, 0]) = false := by decide
theorem test_wf_parcelDecrypt : Instr.wf (.parcelDecrypt 0 0 0 [] []) = false := by decide
theorem test_wf_hostParcelRx : Instr.wf (.hostParcelRx 0 0 []) = false := by decide
theorem test_wf_foreignFrame : Instr.wf (.foreignFrame 0 0 []) = false := by decide
theorem test_wf_ringBlocksRx : Instr.wf (.ringBlocksRx 0 0 ⟨0, 0, 0, 0, 17, 0, 0, 0⟩ []) = false := by decide
theorem test_wf_jdpRequest : Instr.wf (.jdpRequest 0 (.ethernet [])) = false := by decide
theorem test_wf_syncRequest : Instr.wf (.syncRequest 0 (.bus [0x7E#8])) = false := by decide
theorem test_wf_neighbourSolicitation : Instr.wf (.neighbourSolicitation 0 []) = false := by decide

/-! ### Worked values of the manual -/

/-- Delivery of a code of one format to another. -/
def converts (src : Fmt) (code : Nat) (dst : Fmt) (r : Rnd) : Nat × Nat := deliver dst r false (decodeCode src code)

/-- Table 3.14, notes 1 to 9: code and flags (Table 3.9). -/
theorem test_conversions :
    converts .binary32 0x3F808000 .e16 .rne = (0x3F80, flagInexact) ∧ converts .binary32 0x3F808000 .e16 .rna = (0x3F81, flagInexact)
    ∧ converts .binary32 0x3F818000 .e16 .rne = (0x3F82, flagInexact)
    ∧ converts .binary32 0x33000000 .binary16 .rne = (0, flagUnderflow + flagInexact)
    ∧ converts .binary32 0x33000000 .binary16 .rtp = (1, flagUnderflow + flagInexact)
    ∧ converts .binary32 0x43EB0000 .f8a .rne = (0x7F, flagInexact)
    ∧ converts .binary32 0x43FA0000 .f8a .rne = (0x7F, flagOverflow + flagInexact)
    ∧ converts .binary32 0x80000000 .f8a .rtn = (0, 0)
    ∧ converts .binary32 0x3DC00000 .f6a .rne = (2, flagUnderflow + flagInexact) := by
  decide +kernel

/-- Table 3.14, notes 10 to 17. -/
theorem test_conversions_on :
    converts .f6b 1 .f4 .rne = (0, flagUnderflow + flagInexact) ∧ converts .f6b 1 .f4 .rtp = (1, flagUnderflow + flagInexact)
    ∧ converts .e16 0x7F81 .binary16 .rtz = (0x7E08, flagInvalid)
    ∧ converts .binary64 0x3FF0100000400000 .e16 .rne = (0x3F81, flagInexact)
    ∧ converts .i32 0x7FFFFFFF .binary32 .rne = (0x4F000000, flagInexact)
    ∧ converts .binary32 0x4F000000 .i32 .rne = (0x7FFFFFFF, flagInvalid)
    ∧ converts .binary32 0xC0200000 .i8 .rne = (0xFE, flagInexact) ∧ converts .binary32 0xC0200000 .i8 .rna = (0xFD, flagInexact) := by
  decide +kernel

/-- Chapter 4, "six racks, two orders, one result": 0xBFFF with INEXACT, in the order given and in another. -/
theorem test_six_racks :
    let sum := fun (cs : List Nat) => deliver .e16 .rne false (accumulate .linear (cs.map (fun c => (decodeCode .e16 c, Val.one)))).1;
    sum [0x71C0, 0xF1C0, 0x3F80, 0x3C00, 0x1280, 0xC040] = (0xBFFF, flagInexact)
    ∧ sum [0x71C0, 0x3F80, 0x3C00, 0xC040, 0xF1C0, 0x1280] = (0xBFFF, flagInexact) := by
  decide +kernel

/-- Chapter 4, "why the cue fixes the order": LINEAR gives 1.0, TREE +0, both INEXACT. -/
theorem test_order :
    let g := fun (neg : Bool) (e : Int) => (Val.fin neg (2 ^ 185) (e - 185) false, false);
    let ps := [g false 200, g false 0, g true 200, g false 0];
    deliver .e16 .rne false (linear ps).1 = (0x3F80, flagInexact) ∧ deliver .e16 .rne false (tree 4 ps).1 = (0, flagInexact) := by
  decide +kernel

/-- Table 19.1: the four configurations over "123456789". -/
theorem test_check_values :
    let digits : List Byte := [0x31#8, 0x32#8, 0x33#8, 0x34#8, 0x35#8, 0x36#8, 0x37#8, 0x38#8, 0x39#8];
    crcOf crc8Cue digits = 0xDF ∧ crcOf crc16Hdr digits = 0x29B1 ∧ crcOf crc32 digits = 0xCBF43926
    ∧ crcOf ⟨64, 0x42F0E1EBA9EA3693, 2 ^ 64 - 1, 2 ^ 64 - 1, true, true⟩ digits = 0x995DC9BBDF1939FA := by
  decide +kernel

/-- The parity example of R273. -/
theorem test_parity :
    gfSum 1 0 [(0, [0x5A]), (1, [0xC3]), (2, [0x17])] = [0x8E] ∧ gfSum 1 0 [(0, [0x5A]), (1, [0xC3])] = [0x99]
    ∧ gfSum 1 1 [(0, [0x5A]), (1, [0xC3])] = [0xC1] ∧ gfRecover 1 2 [(2, [0x99]), (3, [0xC1])] 0 = some [0x5A]
    ∧ gfRecover 1 2 [(2, [0x99]), (3, [0xC1])] 1 = some [0xC3] := by
  decide

/-- Tables 8.6 and 8.7: the block of the worked example under the default table with generation 3. -/
theorem test_block :
    let b := codeBlock 0 3 0x8006050403020100 ([0xBFFF, 0x4040, 0x3D80, 0x3C80, 0x8000, 0x0040, 0x3D00] ++ List.replicate 51 0 ++ [0x4001] ++ List.replicate 5 0);
    (bytesLE 89 b.word).take 7 = [0x0C#8, 0xE0#8, 0x3F#8, 0x81#8, 0x00#8, 0x28#8, 0xC0#8] ∧ (bytesLE 89 b.word).drop 87 = [0x1C#8, 0x70#8]
    ∧ b.decoded.take 7 = [0xBFFF, 0x4040, 0x3D80, 0, 0x8000, 0, 0x3D00] ∧ b.decoded.getD 58 0 = 0x4000 := by
  decide +kernel

/-- Chapter 12, "a double loss during a key change": the timers of a 3+1 link of DELAY_MAX_US 900 and SKEW_MAX_US 200. -/
theorem test_link_timers :
    let t := linkTimers (1 * 2 ^ 13 + 900 * 2 ^ 64 + 200 * 2 ^ 80);
    (t.hole, t.retry, t.fail) = (204, 2030, 10032) := by
  decide +kernel

/-- Chapter 13, "a key rotation": the IV of IV_COUNT 100,000 from site 1, gateway 47, and block X1 toward site 0. -/
theorem test_parcel_iv :
    parcelIv 1 47 100000 = [0xD1, 0x20, 0x2F, 0, 0, 0, 0, 0, 0, 0x01, 0x86, 0xA0]
    ∧ derivationBlock 1 1 0 1 = [0x4B, 1, 1, 0, 0, 0, 0, 0, 0, 0, 0, 0, 0, 0, 0, 1] := by
  decide +kernel

/-- FIPS 197, appendix C.3, and the AES-256 GCM vectors of NIST with a key and an IV of zeros: the algorithms that R297 names. -/
theorem test_aes :
    aes256 (List.range 32) ((List.range 16).map (fun i => 0x11 * i))
      = [0x8E, 0xA2, 0xB7, 0xCA, 0x51, 0x67, 0x45, 0xBF, 0xEA, 0xFC, 0x49, 0x90, 0x4B, 0x49, 0x60, 0x89]
    ∧ gcmTag (List.replicate 32 0) (List.replicate 12 0) [] []
      = [0x53, 0x0F, 0x8A, 0xFB, 0xC7, 0x45, 0x36, 0xB9, 0xA9, 0x63, 0xB4, 0xF1, 0xC4, 0xCB, 0x73, 0x8B]
    ∧ gcmSeal (List.replicate 32 0) (List.replicate 12 0) [] (List.replicate 16 0)
      = ([0xCE, 0xA7, 0x40, 0x3D, 0x4D, 0x60, 0x6B, 0x6E, 0x07, 0x4E, 0xC5, 0xD3, 0xBA, 0xF3, 0x9D, 0x18],
        [0xD0, 0xD1, 0xC8, 0xA7, 0x99, 0x99, 0x6B, 0xF0, 0x26, 0x5B, 0x98, 0xB5, 0xD4, 0x8A, 0xB9, 0x19]) := by
  decide +kernel

/-- Log entry 1: a step of a block whose queue is empty idles. -/
theorem test_idle : step State.reset = .next State.reset := by rfl

end Sys2Proof.Machine
end

section
/-! PROOFS of the compression units' statements: the write of SLOT_IN_FLIGHT_CLEAR (R189). -/
namespace Sys2Proof.Machine

/-! ### Requests that only answer, or store one object -/

/-- A status that goes back with nothing else done is a refusal. -/
theorem State.refusedWith_reply_tick (s : State) (t : Nat) (st : Status) :
    s.RefusedWith (State.reply (st, s.tick t)) st := rfl

/-- A request that stores one object keeps every other object. -/
theorem State.keepsObjects_reply_setObj_tick (s : State) (t o v : Nat) (st : Status) :
    s.KeepsObjects (State.reply (st, (s.tick t).setObj o v)) [o] := by
  intro p hp
  rw [State.obj_reply, State.obj_setObj_ne _ v (List.ne_of_not_mem_cons hp), State.obj_tick]

/-! ### The write of SLOT_IN_FLIGHT_CLEAR (R189) -/

/-- What keeps a slot's in-flight count from being cleared: the engine is RUNNING or PARKED, or an armed sheet names the
slot (R189; bit 0 of SLOT_NAMED, Table 8.9). -/
def State.ClearBusy (s : State) (k : Nat) : Prop :=
  s.engState = engRunning ∨ s.engState = engParked ∨ bit (s.slotNamedWord k) 0 = true

theorem State.clearBusy_tick (s : State) (t k : Nat) : (s.tick t).ClearBusy k ↔ s.ClearBusy k := Iff.rfl

theorem State.writeInFlightClear_one_of_busy {s : State} {k : Nat} (h : s.ClearBusy k) :
    s.writeInFlightClear k 1 = (stSlotBusy, s) :=
  (if_neg (not_not_intro rfl)).trans (if_pos h)

theorem State.writeInFlightClear_one_of_not_busy {s : State} {k : Nat} (h : ¬ s.ClearBusy k) :
    s.writeInFlightClear k 1 = (stOk, s.setObj (Reg.slotInFlight k) 0) :=
  (if_neg (not_not_intro rfl)).trans (if_neg h)

/-- A taken write of 1 runs the register's write rule and sends its status back. -/
theorem exec_slotInFlightClear_one_taken {s : State} (t : Nat) (k : Fin 4) (h : s.answersRequests = true) :
    exec (.slotInFlightClear t k 1#8) s = .next (State.reply ((s.tick t).writeInFlightClear k 1)) := by
  have htick : (s.tick t).answersRequests = true := by rw [State.answersRequests_tick, h]
  exact congrArg _ (State.managed_taken htick _)

theorem exec_slotInFlightClear_one_of_busy {s : State} (t : Nat) {k : Fin 4} (h : s.answersRequests = true)
    (hb : s.ClearBusy k) :
    exec (.slotInFlightClear t k 1#8) s = .next (State.reply (stSlotBusy, s.tick t)) := by
  rw [exec_slotInFlightClear_one_taken t k h,
    State.writeInFlightClear_one_of_busy ((State.clearBusy_tick s t k).mpr hb)]

theorem exec_slotInFlightClear_one_of_not_busy {s : State} (t : Nat) {k : Fin 4} (h : s.answersRequests = true)
    (hb : ¬ s.ClearBusy k) :
    exec (.slotInFlightClear t k 1#8) s
      = .next (State.reply (stOk, (s.tick t).setObj (Reg.slotInFlight k) 0)) := by
  rw [exec_slotInFlightClear_one_taken t k h,
    State.writeInFlightClear_one_of_not_busy ((not_congr (State.clearBusy_tick s t k)).mpr hb)]

/-- Settles O23, by R189's one condition: where it holds the write is refused, and where it fails the count is stored
as 0. -/
theorem inFlightCountIsClearedByWritingOne : Obligations.InFlightCountIsClearedByWritingOne := by
  constructor
  · intro s t k hreq hrun hpark hnamed
    have hfree : ¬ s.ClearBusy k := by simp [State.ClearBusy, hrun, hpark, hnamed]
    refine ⟨_, exec_slotInFlightClear_one_of_not_busy t hreq hfree, State.answer_reply _ _, ?_,
      State.keepsObjects_reply_setObj_tick s t _ 0 stOk, ?_⟩
    · rw [State.obj_reply, State.obj_setObj_same, Nat.zero_mod]
    · rw [State.reply_mem, State.setObj_mem, State.tick_mem]
  · intro s t k hreq hbusy
    exact ⟨_, exec_slotInFlightClear_one_of_busy t hreq hbusy, State.refusedWith_reply_tick s t stSlotBusy⟩

end Sys2Proof.Machine
end

section
/-! PROOFS of the sites' statements: the write of STATE_STEP_SET (R391). -/
namespace Sys2Proof.Machine

/-! ### The APPLIED map emptied (R388) -/

/-- The state with no tile applied; its objects and memory stand. -/
def State.clearApplied (s : State) : State := { s with site := { s.site with applied := [] } }

theorem State.applied_eq_false_of_empty {s : State} (h : s.site.applied = []) (i : Nat) : s.applied i = false := by
  unfold State.applied
  rw [h, bit_testBit]
  exact Nat.zero_testBit _

@[simp] theorem State.clearApplied_applied (s : State) : s.clearApplied.site.applied = [] := rfl
@[simp] theorem State.clearApplied_mem (s : State) : s.clearApplied.mem = s.mem := rfl

/-! ### The write of STATE_STEP_SET (R391) -/

/-- What refuses STATE_STEP_SET: the engine is RUNNING or PARKED. -/
def State.StepSetBusy (s : State) : Prop := s.engState = engRunning ∨ s.engState = engParked

theorem State.stepSetBusy_tick (s : State) (t : Nat) : (s.tick t).StepSetBusy ↔ s.StepSetBusy := Iff.rfl

theorem State.writeStateStep_of_busy {s : State} (v : Nat) (h : s.StepSetBusy) :
    s.writeStateStep v = (stSlotBusy, s) := if_pos h

theorem State.writeStateStep_of_not_busy {s : State} (v : Nat) (h : ¬ s.StepSetBusy) :
    s.writeStateStep v = (stOk, s.clearApplied.setObj Reg.stateStep v) := if_neg h

/-- A taken write runs the register's write rule and sends its status back. -/
theorem exec_stateStepSet_taken {s : State} (t : Nat) (v : Word64) (h : s.answersRequests = true) :
    exec (.stateStepSet t v) s = .next (State.reply ((s.tick t).writeStateStep v.toNat)) := by
  have htick : (s.tick t).answersRequests = true := by rw [State.answersRequests_tick, h]
  exact congrArg _ (State.managed_taken htick _)

theorem exec_stateStepSet_of_busy {s : State} (t : Nat) (v : Word64) (h : s.answersRequests = true)
    (hb : s.StepSetBusy) : exec (.stateStepSet t v) s = .next (State.reply (stSlotBusy, s.tick t)) := by
  rw [exec_stateStepSet_taken t v h, State.writeStateStep_of_busy _ ((State.stepSetBusy_tick s t).mpr hb)]

theorem exec_stateStepSet_of_not_busy {s : State} (t : Nat) (v : Word64) (h : s.answersRequests = true)
    (hb : ¬ s.StepSetBusy) :
    exec (.stateStepSet t v) s
      = .next (State.reply (stOk, (s.tick t).clearApplied.setObj Reg.stateStep v.toNat)) := by
  rw [exec_stateStepSet_taken t v h,
    State.writeStateStep_of_not_busy _ ((not_congr (State.stepSetBusy_tick s t)).mpr hb)]

/-- STATE_STEP is as wide as the written value, so the store cuts nothing off. -/
theorem objBits_stateStep : objBits Reg.stateStep = 64 := by decide +kernel

theorem State.obj_setObj_stateStep (s : State) (v : Word64) :
    (s.setObj Reg.stateStep v.toNat).obj Reg.stateStep = v.toNat := by
  rw [State.obj_setObj_same, objBits_stateStep, Nat.mod_eq_of_lt v.isLt]

/-- Settles O47, by R391's one condition: where the engine is RUNNING or PARKED the write is refused, and elsewhere it
empties the APPLIED map and stores the step. -/
theorem stateStepSetClearsTheAppliedMap : Obligations.StateStepSetClearsTheAppliedMap := by
  intro s t v hreq
  constructor
  · intro hrun hpark
    have hfree : ¬ s.StepSetBusy := not_or.mpr ⟨hrun, hpark⟩
    refine ⟨_, exec_stateStepSet_of_not_busy t v hreq hfree, State.answer_reply _ _, ?_,
      State.applied_eq_false_of_empty ?_, State.keepsObjects_reply_setObj_tick s.clearApplied t _ v.toNat stOk, ?_⟩
    · rw [State.obj_reply, State.obj_setObj_stateStep]
    · rw [State.reply_site, State.setObj_site, State.clearApplied_applied]
    · rw [State.reply_mem, State.setObj_mem, State.clearApplied_mem, State.tick_mem]
  · intro hbusy
    exact ⟨_, exec_stateStepSet_of_busy t v hreq hbusy, State.refusedWith_reply_tick s t stSlotBusy⟩

end Sys2Proof.Machine
end
